-- ==== Sys2Proof/Word.lean ====
section
/-! DEFINITION. The word types of the gate: bytes on the wire, 16-bit fields, 32-bit counters and
station addresses (spec/00_scope.md "Conventions", spec/12_frame_and_record_formats.md). -/

namespace Sys2Proof

/-- One byte of a frame (spec/12, Table 12-1). -/
abbrev Byte := BitVec 8

/-- A 16-bit field: stream tag, cycle tag, request code, request tag, sequence number, detail code. -/
abbrev Half := BitVec 16

/-- A 32-bit value: event and frame counters, the cycle count, the owner's token; all wrap modulo 2^32
(spec/00 "Counters and wrap"). -/
abbrev Word := BitVec 32

/-- An Ethernet address of six bytes, the first byte sent in the top eight bits. -/
abbrev StationAddr := BitVec 48

end Sys2Proof
end

