-- ==== Sys2Proof/Syntax.lean ====
section
/-! DEFINITION. The commands of the gate: one constructor for each row of spec/opcode_table.json, with
the operands an outside sender or a due occurrence names (a port, a frame, a window index). -/

namespace Sys2Proof

/-- The four ports P0 to P3 (spec/00 "Ports and port sets"). -/
inductive Port where
  | p0
  | p1
  | p2
  | p3
  deriving DecidableEq, Repr

/-- One value for each of the four ports. -/
structure PerPort (α : Type) where
  p0 : α
  p1 : α
  p2 : α
  p3 : α
  deriving DecidableEq, Repr

/-- The link state that a PHY reports (R128). -/
inductive LinkState where
  | down
  | up
  deriving DecidableEq, Repr

/-- A level of QUENCH_N (R93): asserted is low, deasserted is high. -/
inductive LineLevel where
  | deasserted
  | asserted
  deriving DecidableEq, Repr

/-- The commands. The first seven come from the pins, the PHYs and the wire; the next thirteen are
occurrences that become due inside the gate; the rest are the management requests, each executed by
the agent from the head of its intake queue (R167), which holds the request's own bytes. -/
inductive Instr where
  /-- COLD_RESET (R21, R106, R128, R132): the straps, the PHYs' link states and the level of QUENCH_N
  as they stand when the reset ends. -/
  | coldReset (strap : BitVec 4) (links : PerPort LinkState) (level : LineLevel)
  /-- QUENCH_LINE_ASSERTED (R93): QUENCH_N is low; taken once it has been so for two ticks (log 11). -/
  | quenchLineAsserted
  /-- QUENCH_LINE_DEASSERTED (R93): QUENCH_N is high; taken once it has been so for two ticks (log 11). -/
  | quenchLineDeasserted
  /-- LINK_UP (R128): the port whose PHY reports UP. -/
  | linkUp (port : Port)
  /-- LINK_DOWN (R129): the port whose PHY reports DOWN. -/
  | linkDown (port : Port)
  /-- START_OF_FRAME (R130): the port, and the frame that begins there, destination address through FCS. -/
  | startOfFrame (port : Port) (frame : List Byte)
  /-- FRAME_ARRIVAL (R131): the port whose frame in reception has been received to its end. -/
  | frameArrival (port : Port)
  /-- CYCLE_START (R64): the period match. -/
  | cycleStart
  /-- WINDOW_CLOSE (R49): the index of the closing ADMIT window. -/
  | windowClose (window : Nat)
  /-- GUARD_OPEN (R149): the port whose guard reading has turned to guard open. -/
  | guardOpen (port : Port)
  /-- GUARD_CLOSE (R60): the index of the closing GUARD window. -/
  | guardClose (window : Nat)
  /-- ATTRIBUTION_INTERVAL_CLOSE (R75). -/
  | attributionIntervalClose
  /-- PENDING_ADVANCE_END (R76). -/
  | pendingAdvanceEnd
  /-- TRANSMIT_START (R146): the port whose arbiter selects. -/
  | transmitStart (port : Port)
  /-- TRANSMIT_COMPLETE (R145): the port whose transmission has reached its end. -/
  | transmitComplete (port : Port)
  /-- NOTIFICATION_OFFER (R160): the port whose management queue has room for due records. -/
  | notificationOffer (port : Port)
  /-- RETRY_TIMER_EXPIRY (R161): the listener and sequence number of the record. -/
  | retryTimerExpiry (listener : Fin 4) (seq : Half)
  /-- LEASE_EXPIRY (R171). -/
  | leaseExpiry
  /-- RESTAGE_COMPLETION (R123). -/
  | restageCompletion
  /-- RESTART_WAIT_EXPIRY (R177). -/
  | restartWaitExpiry
  /-- DISCOVER (R172). -/
  | discover
  /-- CLAIM (R169). -/
  | claim
  /-- YIELD (R170). -/
  | yieldOwnership
  /-- READ_STATUS (R173). -/
  | readStatus
  /-- READ_SET (R174). -/
  | readSet
  /-- READ_STREAM_STATE (R174). -/
  | readStreamState
  /-- READ_COUNTERS (R175). -/
  | readCounters
  /-- READ_COUNTERS_CLEAR (R175). -/
  | readCountersClear
  /-- READ_FLAGS (R154). -/
  | readFlags
  /-- READ_FAULT (R116). -/
  | readFault
  /-- WRITE_SETTINGS (R109). -/
  | writeSettings
  /-- WRITE_WINDOWS (R112). -/
  | writeWindows
  /-- WRITE_STREAMS (R112). -/
  | writeStreams
  /-- WRITE_STEPS (R112). -/
  | writeSteps
  /-- WRITE_TEMPLATE (R80). -/
  | writeTemplate
  /-- COMMIT_NEXT (R117). -/
  | commitNext
  /-- COMMIT_AT (R117). -/
  | commitAt
  /-- WITHDRAW (R124). -/
  | withdraw
  /-- HOLD_STREAM (R16). -/
  | holdStream
  /-- RELEASE_STREAM_RESUME (R18). -/
  | releaseStreamResume
  /-- RELEASE_STREAM_REARM (R19). -/
  | releaseStreamRearm
  /-- QUENCH (R95). -/
  | quench
  /-- CLEAR_QUENCH (R96). -/
  | clearQuench
  /-- SET_LIVE (R176). -/
  | setLive
  /-- SET_LISTENER (R157). -/
  | setListener
  /-- SET_NOTIFY (R156). -/
  | setNotify
  /-- CLEAR_FLAGS (R154). -/
  | clearFlags
  /-- RAISE_FLAG (R155). -/
  | raiseFlag
  /-- TIMER_START_IMMEDIATE (R66). -/
  | timerStartImmediate
  /-- TIMER_START_ON_MARK (R66). -/
  | timerStartOnMark
  /-- TIMER_STOP (R68). -/
  | timerStop
  /-- RESTART (R177). -/
  | restart
  /-- ACK_NOTIFY (R162). -/
  | ackNotify
  /-- UNKNOWN_REQUEST (R167): a request that is unreadable or whose code names no request. -/
  | unknownRequest
  deriving DecidableEq, Repr

end Sys2Proof
end

