-- ==== Sys2Proof/Machine/Types.lean ====
section
/-! DEFINITION. The types of the gate's blocks: configuration records, runtime records, queues, the
timer, the quench unit, the staging controller, the event unit and the agent. -/

namespace Sys2Proof.Machine

/-- A set of ports as it travels: bit n stands for Pn (spec/12 intro). -/
abbrev PortSet := BitVec 4
/-- A phase code, 0 to 15 (R2). -/
abbrev Phase := BitVec 4
/-- A stream index (R1). -/
abbrev StreamIx := Fin 128
/-- A window index (R47). -/
abbrev WindowIx := Fin 64
/-- A step pool index (R2). -/
abbrev StepIx := Fin 1024
/-- A template index (R79). -/
abbrev TemplateIx := Fin 32
/-- A listener number (R157). -/
abbrev ListenerIx := Fin 4

/-! ### Configuration records -/

/-- Follow mode (Table 7-2). -/
inductive FollowMode where
  | free
  | follow
  deriving DecidableEq, Repr

/-- The settings record (R109, Table 7-2). -/
structure Settings where
  period : Nat
  follow : FollowMode
  markPort : Port
  tolerance : Nat
  faultLimit : Nat
  markForward : PortSet
  quenchEgress : PortSet
  background : PerPort PortSet
  deriving DecidableEq, Repr

/-- Window kinds ADMIT and GUARD (Table 3-1). -/
inductive WindowKind where
  | admitting
  | guard
  deriving DecidableEq, Repr

/-- A window record (R47, Table 3-1); offsets in ticks. -/
structure WindowRec where
  valid : Bool
  kind : WindowKind
  port : Port
  openOff : Nat
  closeOff : Nat
  deriving DecidableEq, Repr

/-- Repeat policy (Table 1-1). -/
inductive RepeatPolicy where
  | forward
  | drop
  deriving DecidableEq, Repr

/-- Stray policy (Table 1-1). -/
inductive StrayPolicy where
  | count
  | hold
  | holdAndQuench
  deriving DecidableEq, Repr

/-- Stall policy (Table 1-1). -/
inductive StallPolicy where
  | hold
  | holdAndQuench
  deriving DecidableEq, Repr

/-- A stream configuration record (R1, Table 1-1). -/
structure StreamRec where
  enabled : Bool
  tag : Half
  window : WindowIx
  framesPerCycle : Nat
  ringBase : StepIx
  ringLength : Nat
  entryStep : Nat
  repeatPolicy : RepeatPolicy
  strayPolicy : StrayPolicy
  fill : Bool
  absenceLimit : Nat
  stallPolicy : StallPolicy
  template : Option TemplateIx
  deriving DecidableEq, Repr

/-- A step record (R2, Table 1-2). -/
structure StepRec where
  phase : Phase
  egress : PortSet
  notify : Bool
  deriving DecidableEq, Repr

/-- One configuration set (R108, Table 7-1). An absent template is none (R79). -/
structure Bank where
  settings : Settings
  windows : Vector WindowRec 64
  streams : Vector StreamRec 128
  steps : Vector StepRec 1024
  templates : Vector (Option (List Byte)) 32
  deriving DecidableEq, Repr

/-! ### Stream runtime records -/

/-- Stream states (Table 1-7). -/
inductive StreamState where
  | disabled
  | armed
  | running
  | held
  deriving DecidableEq, Repr

/-- Hold causes (R9). -/
inductive HoldCause where
  | stray
  | stall
  | manual
  deriving DecidableEq, Repr

/-- The eleven counters of a stream, in the order of Table 1-6 (R10). -/
structure StreamCounters where
  admitted : Word
  lockOns : Word
  advances : Word
  repeats : Word
  strays : Word
  seeks : Word
  misplaced : Word
  surplus : Word
  absences : Word
  substitutesSent : Word
  suppressed : Word
  deriving DecidableEq, Repr

/-- A stream runtime record (R8, Table 1-5). -/
structure StreamRun where
  state : StreamState
  position : Nat
  admittedCount : Nat
  absenceRun : Nat
  holdCause : Option HoldCause
  lastAdvance : Option Word
  spacing : Option Word
  counters : StreamCounters
  deriving DecidableEq, Repr

/-! ### Cycle timer -/

/-- Timer states (Table 4-1). -/
inductive TimerState where
  | stopped
  | armed
  | running
  deriving DecidableEq, Repr

/-- The attribution record of the current cycle start (Table 4-1): current start ON-TIME or NONE,
interval OPEN or CLOSED. -/
structure Attribution where
  onTime : Bool
  isOpen : Bool
  deriving DecidableEq, Repr

/-- P, T and follow mode under which a cycle runs (R63). -/
structure CycleParams where
  period : Nat
  tolerance : Nat
  follow : FollowMode
  deriving DecidableEq, Repr

/-- What the timer keeps of the cycle just ended (R63), with the length at which it ended (R72, R76). -/
structure EndedCycle where
  params : CycleParams
  length : Nat
  deriving DecidableEq, Repr

/-- The cycle timer record (R63, Table 4-1). -/
structure Timer where
  state : TimerState
  counter : Nat
  cycleCount : Word
  cycleLength : Nat
  faultCount : Nat
  attribution : Option Attribution
  current : Option CycleParams
  ended : Option EndedCycle
  /-- The windows whose close has been taken in the current cycle (R49: one close per window per cycle). -/
  closesTaken : List Nat
  deriving DecidableEq, Repr

/-! ### Port units -/

/-- The start record of a frame in reception (R51). -/
structure StartRecord where
  offset : Nat
  cycle : Word
  unbroken : Bool
  deriving DecidableEq, Repr

/-- A frame in reception (Table 8-1): its start record, the frame, the ticks since its start of frame,
whether its pending advance has been ended by PENDING_ADVANCE_END (R76), and whether it keeps the
attribution interval of a cycle start before the current one open (R75, log 15). -/
structure Reception where
  start : StartRecord
  frame : List Byte
  elapsed : Nat
  advanceEnded : Bool
  holdsEarlier : Bool
  deriving DecidableEq, Repr

/-- The nineteen counters of a port, in the order of Table 8-4 (R139). -/
structure PortCounters where
  good : Word
  runts : Word
  giants : Word
  fcsErrors : Word
  abortedReceptions : Word
  malformed : Word
  requestsAccepted : Word
  foreign : Word
  marks : Word
  unknownTag : Word
  background : Word
  backgroundUnforwarded : Word
  transmitted : Word
  cyclicDrops : Word
  managementDrops : Word
  backgroundDrops : Word
  linkFlushDrops : Word
  abandoned : Word
  quenchDiscards : Word
  deriving DecidableEq, Repr

/-- A port unit (R128, Table 8-1). -/
structure PortUnit where
  link : LinkState
  reception : Option Reception
  counters : PortCounters
  deriving DecidableEq, Repr

/-- A received frame that entries refer to (R32, R144): its name, arrival port and bytes. -/
structure HeldFrame where
  id : Nat
  port : Port
  bytes : List Byte
  deriving DecidableEq, Repr

/-! ### Egress units -/

/-- An entry of a cyclic queue (Table 9-1). -/
inductive CyclicEntry where
  | real (stream : StreamIx) (phase : Phase) (ref : Nat)
  | substitute (stream : StreamIx) (phase : Phase)
  | mark (ref : Nat)
  deriving DecidableEq, Repr

/-- An entry of a management queue (Table 9-1); a response that answers a RESTART with OK is known by
its restart field (R177). -/
inductive MgmtEntry where
  | response (frame : List Byte) (restart : Bool)
  | notification (frame : List Byte)
  deriving DecidableEq, Repr

/-- What the frame on the wire is (R145). -/
inductive Sent where
  | real (ref : Nat)
  | substitute (stream : StreamIx)
  | mark (ref : Nat)
  | background (ref : Nat)
  | response (restart : Bool)
  | notification
  deriving DecidableEq, Repr

/-- A transmission in progress: the frame on the wire, the ticks left to its completion (R145) and, for
a management or background frame, whether the timer was RUNNING at its start (R149). -/
structure Transmission where
  sent : Sent
  frame : List Byte
  remaining : Nat
  startedRunning : Option Bool
  deriving DecidableEq, Repr

/-- Transmitter states (Table 9-2). -/
inductive Transmitter where
  | down
  | idle
  | waiting
  | sending (t : Transmission)
  deriving DecidableEq, Repr

/-- An egress unit (R142, Table 9-1). selectDue is the model's own mark that the arbiter is to select
(R146, R148); see log 13. -/
structure Egress where
  cyclic : List CyclicEntry
  mgmt : List MgmtEntry
  background : List Nat
  transmitter : Transmitter
  selectDue : Bool
  deriving DecidableEq, Repr

/-! ### Quench unit -/

/-- The six quench causes (Table 6-2). -/
inductive Cause where
  | line
  | command
  | stream
  | mark
  | startup
  | restart
  deriving DecidableEq, Repr

/-- The cause set (R92): each cause present or not. -/
structure CauseSet where
  line : Bool
  command : Bool
  stream : Bool
  mark : Bool
  startup : Bool
  restart : Bool
  deriving DecidableEq, Repr

/-- Line modes (R93, R94). -/
inductive LineMode where
  | auto
  | latched
  deriving DecidableEq, Repr

/-- Release modes (Table 6-4). -/
inductive ReleaseMode where
  | immediate
  | cycle
  | mark
  deriving DecidableEq, Repr

/-- Release waits (R98). -/
inductive ReleaseWait where
  | cycle
  | mark
  deriving DecidableEq, Repr

/-- Unit states (Table 6-1). -/
inductive QuenchState where
  | normal
  | quenched
  | releasing
  deriving DecidableEq, Repr

/-- The quench unit record (Table 6-1) with the level of QUENCH_N that the unit has taken, the level on
the pin, and the ticks for which the pin has had it, counted up to 2 (R93, log 11). QACT equals qs (R97). -/
structure Quench where
  causes : CauseSet
  qf : Bool
  qs : Bool
  unit : QuenchState
  wait : Option ReleaseWait
  lineEnable : Bool
  lineMode : LineMode
  releaseMode : ReleaseMode
  level : LineLevel
  pin : LineLevel
  pinTicks : Nat
  deriving DecidableEq, Repr

/-! ### Staging controller -/

/-- The two physical banks (R108). -/
inductive BankName where
  | a
  | b
  deriving DecidableEq, Repr

/-- Staging states (R111). -/
inductive StagingState where
  | ready
  | pending
  | restaging
  deriving DecidableEq, Repr

/-- Commit targets (R117). -/
inductive CommitTarget where
  | nextStart
  | atCycle (n : Word)
  deriving DecidableEq, Repr

/-- The pending commit record (Table 7-3). -/
structure PendingCommit where
  target : CommitTarget
  owner : Option StationAddr
  requestedAt : Word
  deriving DecidableEq, Repr

/-- Parts a fault record names (Table 7-3). -/
inductive FaultPart where
  | settings
  | window
  | stream
  | step
  deriving DecidableEq, Repr

/-- The validation fault record (R116); check is the number of Table 7-5. -/
structure FaultRecord where
  part : FaultPart
  index : Option Nat
  stream : Option Nat
  check : Nat
  deriving DecidableEq, Repr

/-- Restage reasons (R123). -/
inductive RestageReason where
  | apply
  | lease
  | restart
  deriving DecidableEq, Repr

/-- The staging controller record (R111, Table 7-3). restageEnd is the moment of the base at which
the restage in progress completes (R123). -/
structure Staging where
  active : BankName
  state : StagingState
  commit : Option PendingCommit
  dirty : Vector Bool 128
  fault : Option FaultRecord
  reason : Option RestageReason
  restageEnd : Option Nat
  deriving DecidableEq, Repr

/-! ### Event unit -/

/-- The sixteen event classes (Table 10-1). -/
inductive EventClass where
  | stray
  | hold
  | stall
  | misplaced
  | surplus
  | unknown
  | quenchOn
  | quenchOff
  | markFault
  | commit
  | lease
  | egressDrop
  | foreign
  | link
  | stageReady
  | step
  deriving DecidableEq, Repr

/-- An occurrence as a block raises it (R153); test marks one of RAISE-FLAG (R155). -/
structure Occurrence where
  cls : EventClass
  stream : Option StreamIx
  port : Option Port
  detail : Half
  test : Bool
  deriving DecidableEq, Repr

/-- Enable and listener of a class (R156). -/
structure ClassSetting where
  enabled : Bool
  listener : ListenerIx
  deriving DecidableEq, Repr

/-- A listener record (Table 10-2); the retry interval is in milliseconds. -/
structure Listener where
  enabled : Bool
  addr : StationAddr
  port : Port
  retryInterval : Nat
  retryLimit : Nat
  nextSeq : Half
  missed : Nat
  lapse : Nat
  deriving DecidableEq, Repr

/-- The state of a notification record (R158): UNSENT; AWAITING with its retry timer running to a
moment of the base; AWAITING with the timer expired, which is resend-due (R161). -/
inductive NotifState where
  | unsent
  | awaiting (expiry : Nat)
  | resendDue
  deriving DecidableEq, Repr

/-- A notification record (Table 10-3). -/
structure NotifRecord where
  listener : ListenerIx
  seq : Half
  cls : EventClass
  test : Bool
  cycleCount : Word
  offset : Nat
  stream : Option StreamIx
  port : Option Port
  detail : Half
  missed : Option Nat
  sendCount : Nat
  state : NotifState
  deriving DecidableEq, Repr

/-- The event unit (R153 to R164); flag n is the flag of class n. -/
structure EventUnit where
  flags : BitVec 16
  classes : Vector ClassSetting 16
  listeners : Vector Listener 4
  queue : List NotifRecord
  deriving DecidableEq, Repr

/-! ### Management agent -/

/-- A management request in the intake queue (R166, R180): arrival port, source address, body, and
whether the payload length exceeded the bytes the frame holds. -/
structure Request where
  port : Port
  source : StationAddr
  body : List Byte
  overrun : Bool
  deriving DecidableEq, Repr

/-- The ownership record (Table 11-3), held as a whole; the expiry is a moment of the base. -/
structure Owner where
  holder : StationAddr
  token : Word
  leaseLength : Nat
  expiry : Nat
  deriving DecidableEq, Repr

/-- A reply cache entry (R168). -/
structure CacheEntry where
  addr : StationAddr
  tag : Half
  response : List Byte
  deriving DecidableEq, Repr

/-- The restart wait (R177): the moment 1 ms after the offer of the response, and whether an outcome
other than completed has been handed over for it. -/
structure RestartWait where
  deadline : Nat
  failed : Bool
  deriving DecidableEq, Repr

/-- The management agent (R166 to R179); the cache is kept most recently used first (R168). -/
structure Agent where
  intake : List Request
  cache : List CacheEntry
  owner : Option Owner
  mgmtPorts : PortSet
  restartWait : Option RestartWait
  executed : Word
  cacheAnswers : Word
  intakeDiscards : Word
  deriving DecidableEq, Repr

/-- Status codes of a response (Table 11-2). -/
inductive Status where
  | ok
  | notOwner
  | owned
  | busy
  | pending
  | invalid
  | late
  | range
  | state
  | stillActive
  | malformed
  | unknownRequest
  deriving DecidableEq, Repr

end Sys2Proof.Machine
end

