-- ==== Sys2Proof/Machine/Bytes.lean ====
section
/-! DEFINITION. Bytes on the wire: byte order, the frame check sequence, padding (spec/00
"Conventions", spec/12 intro). -/

namespace Sys2Proof.Machine

/-- A 16-bit field, most significant byte first. -/
def be16 (v : BitVec 16) : List Byte := [v.extractLsb' 8 8, v.extractLsb' 0 8]

/-- A 24-bit field, most significant byte first. -/
def be24 (v : BitVec 24) : List Byte :=
  [v.extractLsb' 16 8, v.extractLsb' 8 8, v.extractLsb' 0 8]

/-- A 32-bit field, most significant byte first. -/
def be32 (v : BitVec 32) : List Byte :=
  [v.extractLsb' 24 8, v.extractLsb' 16 8, v.extractLsb' 8 8, v.extractLsb' 0 8]

/-- A station address, first byte first. -/
def be48 (v : BitVec 48) : List Byte :=
  [v.extractLsb' 40 8, v.extractLsb' 32 8, v.extractLsb' 24 8, v.extractLsb' 16 8,
   v.extractLsb' 8 8, v.extractLsb' 0 8]

/-- The byte at a place of a list, 0 past its end. -/
def byteAt (l : List Byte) (i : Nat) : Byte := l.getD i 0#8

/-- The value of a field of n bytes at a place, most significant byte first. -/
def natAt (l : List Byte) (i : Nat) : Nat → Nat
  | 0 => 0
  | n + 1 => natAt l i n * 256 + (byteAt l (i + n)).toNat

/-- The 16-bit field at a place. -/
def halfAt (l : List Byte) (i : Nat) : Half := BitVec.ofNat 16 (natAt l i 2)

/-- The 32-bit field at a place. -/
def wordAt (l : List Byte) (i : Nat) : Word := BitVec.ofNat 32 (natAt l i 4)

/-- The address at a place. -/
def addrAt (l : List Byte) (i : Nat) : StationAddr := BitVec.ofNat 48 (natAt l i 6)

/-- A yes/no field: 1 for yes, 0 for no. -/
def yesNo (b : Bool) : Byte := if b then 1#8 else 0#8

/-- A port set as a byte: the mask in its low four bits. -/
def maskByte (s : PortSet) : Byte := s.setWidth 8

/-- One bit entering the FCS register (spec/00 "FCS": generator 0x04C11DB7, highest power in the top bit). -/
def fcsBit (reg : BitVec 32) (b : Bool) : BitVec 32 :=
  let shifted := reg <<< (1 : Nat)
  if reg.getLsbD 31 != b then shifted ^^^ 0x04C11DB7#32 else shifted

/-- The bits of one byte entering, least significant first. -/
def fcsByte (reg : BitVec 32) (b : Byte) : BitVec 32 :=
  [0, 1, 2, 3, 4, 5, 6, 7].foldl (fun r k => fcsBit r (b.getLsbD k)) reg

/-- The final register over the bytes of a frame, from all ones. -/
def fcsRegister (l : List Byte) : BitVec 32 := l.foldl fcsByte 0xFFFFFFFF#32

/-- Eight coefficients of the register, the one of the highest power as the bit sent first, which is a
byte's least significant bit (log 25). -/
def fcsSentByte (reg : BitVec 32) (top : Nat) : Byte :=
  [0, 1, 2, 3, 4, 5, 6, 7].foldl
    (fun acc k => if reg.getLsbD (top - k) then acc ||| (1#8 <<< (k : Nat)) else acc) 0#8

/-- The four FCS bytes of a frame: the complement of the final register, highest power first. -/
def fcs (l : List Byte) : List Byte :=
  let reg := ~~~ (fcsRegister l)
  [fcsSentByte reg 31, fcsSentByte reg 23, fcsSentByte reg 15, fcsSentByte reg 7]

/-- A frame with its FCS behind it. -/
def withFcs (l : List Byte) : List Byte := l ++ fcs l

/-- Zero bytes up to 60 bytes before the FCS (Table 12-1, R182). -/
def padded (l : List Byte) : List Byte := l ++ List.replicate (60 - l.length) 0#8

/-- Wire time in ticks of a frame of L bytes, (L + 20) × 2 (spec/00 "Time"). -/
def wireTime (len : Nat) : Nat := (len + 20) * 2

end Sys2Proof.Machine
end

