-- ==== Sys2Proof/Config.lean ====
section
/-! DEFINITION. The fixed numbers of the part and the free values: what the spec leaves open stands
here as a constant without a body, so that no proof can lean on a value of it. -/

namespace Sys2Proof

/-- Ticks of REFCLK in one millisecond: one tick is 40 ns (spec/00 "Time"). -/
def Config.ticksPerMs : Nat := 25000

/-- Ticks of a restage, 400 µs (R123). -/
def Config.restageTicks : Nat := 10000

/-- FREE VALUE (log 5, log 14): the order in which claims that meet at one moment are taken, and
occurrences that different blocks raise at one moment (R153), applied to State's draws. -/
opaque Config.tieOrder : Nat → Nat

/-- FREE VALUE (log 8): a byte of a response for which the spec gives no value, applied to State's
draws and the byte's place. -/
opaque Config.unstatedByte : Nat → Byte

/-- FREE VALUE (log 9): whether a remaining lease of so many ticks, not a whole number of
milliseconds, is reported rounded up. -/
opaque Config.leaseRoundsUp : Nat → Bool

end Sys2Proof
end

