-- ==== Sys2Proof/Machine/ColdValues.lean ====
section
/-! DEFINITION. The cold-reset value of each block, as its chapter's table gives it. -/

namespace Sys2Proof.Machine

/-- Table 7-2, column "Default". -/
def Settings.cold : Settings :=
  { period := 25000, follow := .free, markPort := .p0, tolerance := 0, faultLimit := 3,
    markForward := 0#4, quenchEgress := 0b1110#4, background := ⟨0#4, 0#4, 0#4, 0#4⟩ }

/-- Table 3-1, column "Cold-reset default". -/
def WindowRec.cold : WindowRec :=
  { valid := false, kind := .admitting, port := .p0, openOff := 0, closeOff := 0 }

/-- Table 1-1, column "Cold-reset default". -/
def StreamRec.cold : StreamRec :=
  { enabled := false, tag := 0#16, window := 0, framesPerCycle := 1, ringBase := 0, ringLength := 2,
    entryStep := 0, repeatPolicy := .forward, strayPolicy := .count, fill := false,
    absenceLimit := 0, stallPolicy := .hold, template := none }

/-- Table 1-2, column "Cold-reset default". -/
def StepRec.cold : StepRec := { phase := 0#4, egress := 0#4, notify := false }

/-- Table 7-1, column "Cold-reset default". -/
def Bank.cold : Bank :=
  { settings := .cold
    windows := Vector.replicate 64 .cold
    streams := Vector.replicate 128 .cold
    steps := Vector.replicate 1024 .cold
    templates := Vector.replicate 32 none }

/-- All eleven counters of a stream at 0 (R10). -/
def StreamCounters.zero : StreamCounters :=
  { admitted := 0#32, lockOns := 0#32, advances := 0#32, repeats := 0#32, strays := 0#32,
    seeks := 0#32, misplaced := 0#32, surplus := 0#32, absences := 0#32, substitutesSent := 0#32,
    suppressed := 0#32 }

/-- Table 1-8, column "Cold reset". -/
def StreamRun.cold : StreamRun :=
  { state := .disabled, position := 0, admittedCount := 0, absenceRun := 0, holdCause := none,
    lastAdvance := none, spacing := none, counters := .zero }

/-- Table 4-1, column "Cold reset". No cycle has begun, so no P, T and mode are kept (log 29). -/
def Timer.cold : Timer :=
  { state := .stopped, counter := 0, cycleCount := 0#32, cycleLength := 25000, faultCount := 0,
    attribution := none, current := none, ended := none, closesTaken := [] }

/-- All nineteen counters of a port at 0 (R139). -/
def PortCounters.zero : PortCounters :=
  { good := 0#32, runts := 0#32, giants := 0#32, fcsErrors := 0#32, abortedReceptions := 0#32,
    malformed := 0#32, requestsAccepted := 0#32, foreign := 0#32, marks := 0#32,
    unknownTag := 0#32, background := 0#32, backgroundUnforwarded := 0#32, transmitted := 0#32,
    cyclicDrops := 0#32, managementDrops := 0#32, backgroundDrops := 0#32, linkFlushDrops := 0#32,
    abandoned := 0#32, quenchDiscards := 0#32 }

/-- Table 8-1, column "Cold reset": the link state is the PHY's. -/
def PortUnit.cold (link : LinkState) : PortUnit :=
  { link := link, reception := none, counters := .zero }

/-- Table 9-3, column "Cold reset": the transmitter is DOWN or IDLE from the PHY. -/
def Egress.cold (link : LinkState) : Egress :=
  { cyclic := [], mgmt := [], background := []
    transmitter := match link with | .up => .idle | .down => .down
    selectDue := false }

/-- Table 6-1, column "Cold reset" (R106): STARTUP, and LINE when the line is asserted. The level on the
pin when the reset ends counts as held (log 11). -/
def Quench.cold (level : LineLevel) : Quench :=
  { causes := { line := decide (level = .asserted), command := false, stream := false, mark := false,
                startup := true, restart := false }
    qf := true, qs := true, unit := .quenched, wait := none
    lineEnable := true, lineMode := .auto, releaseMode := .immediate
    level := level, pin := level, pinTicks := 2 }

/-- Table 7-3, column "Cold reset". -/
def Staging.cold : Staging :=
  { active := .a, state := .ready, commit := none, dirty := Vector.replicate 128 false, fault := none,
    reason := none, restageEnd := none }

/-- Table 10-2, column "Cold reset". -/
def Listener.cold : Listener :=
  { enabled := false, addr := 0#48, port := .p0, retryInterval := 100, retryLimit := 3,
    nextSeq := 0#16, missed := 0, lapse := 0 }

/-- R164: flags clear, classes disabled with listener 0, listeners disabled, queue empty. -/
def EventUnit.cold : EventUnit :=
  { flags := 0#16, classes := Vector.replicate 16 { enabled := false, listener := 0 }
    listeners := Vector.replicate 4 .cold, queue := [] }

/-- R179: everything empty, management port set {P0}. -/
def Agent.cold : Agent :=
  { intake := [], cache := [], owner := none, mgmtPorts := 0b0001#4, restartWait := none,
    executed := 0#32, cacheAnswers := 0#32, intakeDiscards := 0#32 }

end Sys2Proof.Machine
end

