-- ==== Sys2Proof/Machine/State.lean ====
section
/-! DEFINITION. The state of the gate, all of it, and its value right after power-up. -/

namespace Sys2Proof.Machine

/-- The state: every block's record, both banks, the held frames, the time base, and the queue of
commands. base, draws, nextFrame and pending are described in INVENTORY.md. -/
structure State where
  /-- The free-running time base in ticks (spec/00 "Time"; log 10). -/
  base : Nat
  /-- The sampled value of ADDR[3:0] (R132). -/
  strap : BitVec 4
  ports : PerPort PortUnit
  egress : PerPort Egress
  /-- The received frames that entries refer to (R32). -/
  frames : List HeldFrame
  /-- The model's name for the next received frame to be held (log 19). -/
  nextFrame : Nat
  timer : Timer
  streams : Vector StreamRun 128
  staging : Staging
  bankA : Bank
  bankB : Bank
  quench : Quench
  events : EventUnit
  agent : Agent
  /-- The model's own counter to which the free values are applied (log 7). -/
  draws : Nat
  /-- The commands that wait, first in, first out. -/
  pending : List Instr
  deriving DecidableEq, Repr

/-- Why a step can stop the machine: no rule of the spec stops the gate, so there is no constructor
(log 26). An empty list of faults is neither safe nor unsafe by itself: no meaning ends in one. -/
inductive Fault where
  deriving DecidableEq, Repr

/-- Why a step can have no meaning. -/
inductive Refusal where
  /-- Raised by a command whose meaning has not been written; safe. No arm of exec answers it. -/
  | notModelled (mnemonic : String)
  deriving DecidableEq, Repr

/-- The gate right after power-up (R21, R106, R128, R132, R164, R179), with straps 0, all links DOWN
and QUENCH_N deasserted (DESIGN CHOICE, log 6) and the model's own fields at 0 (log 7). -/
def State.reset : State :=
  { base := 0
    strap := 0#4
    ports := ⟨.cold .down, .cold .down, .cold .down, .cold .down⟩
    egress := ⟨.cold .down, .cold .down, .cold .down, .cold .down⟩
    frames := []
    nextFrame := 0
    timer := .cold
    streams := Vector.replicate 128 .cold
    staging := .cold
    bankA := .cold
    bankB := .cold
    quench := .cold .deasserted
    events := .cold
    agent := .cold
    draws := 0
    pending := [] }

end Sys2Proof.Machine
end

