-- ==== Sys2Proof/Machine/Ops.lean ====
section
/-! DEFINITION. The named operations over State: one accessor and one update for each block, ports and
port sets, the active and staged set, held frames, and the free order of claims that meet. -/

namespace Sys2Proof

/-- The number n of Pn. -/
def Port.index : Port → Nat
  | .p0 => 0
  | .p1 => 1
  | .p2 => 2
  | .p3 => 3

/-- The port of a number, P3 for 3 and above. -/
def Port.numbered : Nat → Port
  | 0 => .p0
  | 1 => .p1
  | 2 => .p2
  | _ => .p3

/-- The four ports in ascending order. -/
def Port.all : List Port := [.p0, .p1, .p2, .p3]

/-- The value for one port. -/
def PerPort.get {α : Type} (v : PerPort α) : Port → α
  | .p0 => v.p0
  | .p1 => v.p1
  | .p2 => v.p2
  | .p3 => v.p3

/-- A new value for one port. -/
def PerPort.set {α : Type} (v : PerPort α) (p : Port) (x : α) : PerPort α :=
  match p with
  | .p0 => { v with p0 := x }
  | .p1 => { v with p1 := x }
  | .p2 => { v with p2 := x }
  | .p3 => { v with p3 := x }

/-- The same change at every port. -/
def PerPort.map {α β : Type} (v : PerPort α) (f : α → β) : PerPort β :=
  ⟨f v.p0, f v.p1, f v.p2, f v.p3⟩

end Sys2Proof

namespace Sys2Proof.Machine

/-- The outcome of a command of this machine. -/
abbrev Result := Host.Outcome State Fault Refusal

/-! ### Port sets and tables -/

/-- Whether a port set names a port. -/
def PortSet.has (s : PortSet) (p : Port) : Bool := s.getLsbD p.index

/-- The ports of a set without one port, ascending (spec/00 "Ports and port sets": a frame's arrival port
is left out). -/
def PortSet.portsWithout (s : PortSet) (p : Port) : List Port :=
  Port.all.filter (fun q => PortSet.has s q && decide (q ≠ p))

/-- The same change at every record of a table. -/
def mapTable {α β : Type} {n : Nat} (v : Vector α n) (f : α → β) : Vector β n :=
  ⟨⟨v.toArray.toList.map f⟩, by simp⟩

/-- A table whose record i is f i. -/
def tableOf {α : Type} {n : Nat} (f : Fin n → α) : Vector α n :=
  ⟨⟨(List.finRange n).map f⟩, by simp⟩

/-- The records of a table in order. -/
def tableList {α : Type} {n : Nat} (v : Vector α n) : List α := v.toArray.toList

/-- All stream indexes, ascending. -/
def allStreams : List StreamIx := List.finRange 128

/-- All window indexes, ascending. -/
def allWindows : List WindowIx := List.finRange 64

/-- A counter that saturates at 255 going up by one. -/
def satInc (n : Nat) : Nat := if n < 255 then n + 1 else n

/-! ### Updates of State, one for each block -/

/-- New port units. -/
def State.setPorts (s : State) (v : PerPort PortUnit) : State := { s with ports := v }
/-- New egress units. -/
def State.setEgress (s : State) (v : PerPort Egress) : State := { s with egress := v }
/-- New held frames. -/
def State.setFrames (s : State) (v : List HeldFrame) : State := { s with frames := v }
/-- A new timer record. -/
def State.setTimer (s : State) (v : Timer) : State := { s with timer := v }
/-- New stream runtime records. -/
def State.setStreams (s : State) (v : Vector StreamRun 128) : State := { s with streams := v }
/-- A new staging controller record. -/
def State.setStaging (s : State) (v : Staging) : State := { s with staging := v }
/-- A new quench unit record. -/
def State.setQuench (s : State) (v : Quench) : State := { s with quench := v }
/-- A new event unit. -/
def State.setEvents (s : State) (v : EventUnit) : State := { s with events := v }
/-- A new agent record. -/
def State.setAgent (s : State) (v : Agent) : State := { s with agent := v }
/-- A new queue of commands. -/
def State.setPending (s : State) (v : List Instr) : State := { s with pending := v }
/-- The free-value counter moved on by n. -/
def State.draw (s : State) (n : Nat) : State := { s with draws := s.draws + n }

/-- One port unit changed. -/
def State.updatePort (s : State) (p : Port) (f : PortUnit → PortUnit) : State :=
  s.setPorts (s.ports.set p (f (s.ports.get p)))
/-- One port's counters changed (R139). -/
def State.countPort (s : State) (p : Port) (f : PortCounters → PortCounters) : State :=
  s.updatePort p (fun u => { u with counters := f u.counters })
/-- One egress unit changed. -/
def State.updateEgress (s : State) (p : Port) (f : Egress → Egress) : State :=
  s.setEgress (s.egress.set p (f (s.egress.get p)))
/-- One stream runtime record changed. -/
def State.updateStream (s : State) (i : StreamIx) (f : StreamRun → StreamRun) : State :=
  s.setStreams (s.streams.set i (f s.streams[i]))
/-- One stream's counters changed (R10). -/
def State.countStream (s : State) (i : StreamIx) (f : StreamCounters → StreamCounters) : State :=
  s.updateStream i (fun r => { r with counters := f r.counters })

/-- The link state of a port. -/
def State.link (s : State) (p : Port) : LinkState := (s.ports.get p).link

/-! ### Banks by role (spec/00 "Banks", R108, R110) -/

/-- The other physical bank. -/
def BankName.other : BankName → BankName
  | .a => .b
  | .b => .a

/-- A physical bank. -/
def State.bank (s : State) : BankName → Bank
  | .a => s.bankA
  | .b => s.bankB

/-- The active set. -/
def State.active (s : State) : Bank := s.bank s.staging.active

/-- The staged set. -/
def State.staged (s : State) : Bank := s.bank s.staging.active.other

/-- A new content of the staged bank. -/
def State.setStaged (s : State) (b : Bank) : State :=
  match s.staging.active with
  | .a => { s with bankB := b }
  | .b => { s with bankA := b }

/-- The mark port of the active set (R136). -/
def State.markPort (s : State) : Port := s.active.settings.markPort

/-- A pool record of a bank; past the pool's end, which no decision reads (R3), the default step (log 20). -/
def Bank.step (b : Bank) (i : Nat) : StepRec :=
  if h : i < 1024 then b.steps[i] else .cold

/-- Ring step k of a stream: pool record ring base + k (R3). -/
def Bank.ringStep (b : Bank) (r : StreamRec) (k : Nat) : StepRec := b.step (r.ringBase.val + k)

/-- The position after one move, circularly (R4). -/
def nextPosition (r : StreamRec) (pos : Nat) : Nat := if pos + 1 < r.ringLength then pos + 1 else 0

/-! ### The timer's state -/

/-- Whether the timer is RUNNING. -/
def State.running (s : State) : Bool := decide (s.timer.state = .running)

/-- Whether the timer is RUNNING and the cycle in progress runs in FOLLOW mode (R63, R98). -/
def State.inFollowCycle (s : State) : Bool :=
  match s.timer.current with
  | some c => s.running && decide (c.follow = .follow)
  | none => false

/-! ### Held received frames (R32, R144) -/

/-- A received frame taken into the store, newest first; its name is the state's nextFrame before (log 19). -/
def State.holdFrame (s : State) (p : Port) (bytes : List Byte) : State :=
  { s with frames := { id := s.nextFrame, port := p, bytes := bytes } :: s.frames
           nextFrame := s.nextFrame + 1 }

/-- The bytes of a held frame. -/
def State.frameBytes (s : State) (ref : Nat) : List Byte :=
  match s.frames.find? (fun f => f.id == ref) with
  | some f => f.bytes
  | none => []

/-- Whether a cyclic entry refers to a frame. -/
def CyclicEntry.refersTo (e : CyclicEntry) (ref : Nat) : Bool :=
  match e with
  | .real _ _ r => r == ref
  | .mark r => r == ref
  | .substitute _ _ => false

/-- Whether what is on the wire refers to a frame (released at completion, R145). -/
def Sent.refersTo (x : Sent) (ref : Nat) : Bool :=
  match x with
  | .real r => r == ref
  | .mark r => r == ref
  | .background r => r == ref
  | .substitute _ => false
  | .response _ => false
  | .notification => false

/-- Whether an egress unit refers to a frame. -/
def Egress.refersTo (e : Egress) (ref : Nat) : Bool :=
  e.cyclic.any (fun x => x.refersTo ref) || e.background.any (fun r => r == ref) ||
    match e.transmitter with
    | .sending t => t.sent.refersTo ref
    | .down => false
    | .idle => false
    | .waiting => false

/-- Frames that nothing refers to any more are released (R32, R138, R144). -/
def State.releaseFrames (s : State) : State :=
  s.setFrames (s.frames.filter (fun f => Port.all.any (fun p => (s.egress.get p).refersTo f.id)))

/-! ### The free order of claims that meet (R153; log 5, log 14) -/

/-- The arrangement of a list that a number picks: each arrangement is picked by some number. -/
def arrangeFuel {α : Type} : Nat → Nat → List α → List α
  | 0, _, l => l
  | fuel + 1, k, l =>
    match l[k % l.length]? with
    | none => l
    | some x => x :: arrangeFuel fuel (k / l.length) (l.eraseIdx (k % l.length))

/-- The arrangement of a list that a number picks. -/
def arrange {α : Type} (k : Nat) (l : List α) : List α := arrangeFuel l.length k l

/-- Two effects of different blocks at one moment: in the written order, or, when both raise an
occurrence, in the order a free value picks. -/
def inEitherOrder (both : Bool) (f g : State → State) (s : State) : State :=
  if both then
    if Config.tieOrder s.draws % 2 = 0 then g (f (s.draw 1)) else f (g (s.draw 1))
  else g (f s)

end Sys2Proof.Machine
end

