-- ==== Sys2Proof/Machine/Operands.lean ====
section
/-! DEFINITION. The operands: what the classifier reads in a frame (R134), how the agent reads a
request's body (R180, R181, Tables 12-3 to 12-6), and how records travel in responses. -/

namespace Sys2Proof.Machine

/-! ### Frames (Tables 12-1 and 12-2) -/

/-- The destination address of a frame. -/
def frameDest (f : List Byte) : StationAddr := addrAt f 0
/-- The source address of a frame. -/
def frameSource (f : List Byte) : StationAddr := addrAt f 6
/-- A gate frame carries EtherType 0x88B5 directly after the source address. -/
def isGateFrame (f : List Byte) : Bool := halfAt f 12 == 0x88B5#16
/-- The version nibble of the gate header. -/
def frameVersion (f : List Byte) : Nat := (byteAt f 14).toNat / 16
/-- The kind nibble of the gate header. -/
def frameKind (f : List Byte) : Nat := (byteAt f 14).toNat % 16
/-- The phase code of the gate header. -/
def framePhase (f : List Byte) : Phase := (byteAt f 15).setWidth 4
/-- The stream tag of the gate header. -/
def frameTag (f : List Byte) : Half := halfAt f 16
/-- The payload length of the gate header. -/
def framePayloadLength (f : List Byte) : Nat := natAt f 18 2

/-- The bytes of a frame before its FCS. -/
def frameContent (f : List Byte) : List Byte := f.take (f.length - 4)

/-- The FCS matches the frame's bytes (R131). -/
def fcsMatches (f : List Byte) : Bool := f.drop (f.length - 4) == fcs (frameContent f)

/-- The broadcast address. -/
def broadcast : StationAddr := 0xFFFFFFFFFFFF#48

/-- The gate's station address, 02-4F-53-D2-40-0x (R132). -/
def State.stationAddr (s : State) : StationAddr := 0x024F53D24000#48 ||| s.strap.setWidth 48

/-- The body of a management request (R180): the payload-length bytes after the gate header, or the
bytes the frame holds when the payload length is greater. -/
def requestBody (f : List Byte) : List Byte :=
  ((frameContent f).drop 22).take (framePayloadLength f)

/-- The request a frame carries (R166, R180). -/
def requestOf (p : Port) (f : List Byte) : Request :=
  { port := p, source := frameSource f, body := requestBody f,
    overrun := decide (((frameContent f).drop 22).length < framePayloadLength f) }

/-! ### Request headers (section 12.2) -/

/-- The request code. -/
def Request.code (r : Request) : Nat := natAt r.body 0 2
/-- The request tag. -/
def Request.tag (r : Request) : Half := halfAt r.body 2
/-- The token. -/
def Request.token (r : Request) : Word := wordAt r.body 4
/-- The arguments after the 8-byte request header. -/
def Request.args (r : Request) : List Byte := r.body.drop 8
/-- Argument byte i. -/
def Request.arg (r : Request) (i : Nat) : Nat := (byteAt r.args i).toNat

/-- The row of the opcode table that a request is executed as: by its code, and for the codes that have
two rows by the byte that tells them apart (log 4, log 23). -/
def Request.command (r : Request) : Instr :=
  if r.body.length < 4 then .unknownRequest
  else if r.code = 0x0001 then .discover
  else if r.code = 0x0002 then .claim
  else if r.code = 0x0003 then .yieldOwnership
  else if r.code = 0x0010 then .readStatus
  else if r.code = 0x0011 then .readSet
  else if r.code = 0x0012 then .readStreamState
  else if r.code = 0x0013 then (if r.arg 2 = 1 then .readCountersClear else .readCounters)
  else if r.code = 0x0014 then .readFlags
  else if r.code = 0x0015 then .readFault
  else if r.code = 0x0020 then .writeSettings
  else if r.code = 0x0021 then .writeWindows
  else if r.code = 0x0022 then .writeStreams
  else if r.code = 0x0023 then .writeSteps
  else if r.code = 0x0024 then .writeTemplate
  else if r.code = 0x0030 then (if r.arg 0 = 0 then .commitNext else .commitAt)
  else if r.code = 0x0031 then .withdraw
  else if r.code = 0x0040 then .holdStream
  else if r.code = 0x0041 then (if r.arg 1 = 0 then .releaseStreamResume else .releaseStreamRearm)
  else if r.code = 0x0042 then .quench
  else if r.code = 0x0043 then .clearQuench
  else if r.code = 0x0050 then .setLive
  else if r.code = 0x0051 then .setListener
  else if r.code = 0x0052 then .setNotify
  else if r.code = 0x0053 then .clearFlags
  else if r.code = 0x0054 then .raiseFlag
  else if r.code = 0x0060 then (if r.arg 0 = 0 then .timerStartImmediate else .timerStartOnMark)
  else if r.code = 0x0061 then .timerStop
  else if r.code = 0x0062 then .restart
  else if r.code = 0x0070 then .ackNotify
  else .unknownRequest

/-! ### Forms: the exact body lengths of Table 12-3 (R180) -/

/-- Exactly n argument bytes. -/
def formBytes (n : Nat) (args : List Byte) : Bool := args.length == n

/-- A head, then n items of a size, n being the byte at a place of the head. -/
def formCounted (head place size : Nat) (args : List Byte) : Bool :=
  decide (head ≤ args.length) && args.length == head + size * (byteAt args place).toNat

/-! ### Records and their ranges (Tables 12-5 and 12-6, R181) -/

/-- A byte that is a yes/no field, 0 or 1. -/
def readYesNo (b : Byte) : Option Bool :=
  if b = 0#8 then some false else if b = 1#8 then some true else none

/-- A byte that is a port, 0 to 3. -/
def readPort (b : Byte) : Option Port := if b.toNat < 4 then some (Port.numbered b.toNat) else none

/-- A byte that is a port set: a mask without bits above bit 3. -/
def readMask (b : Byte) : Option PortSet := if b.toNat < 16 then some (b.setWidth 4) else none

/-- A follow mode code. -/
def readFollow (b : Byte) : Option FollowMode :=
  if b = 0#8 then some .free else if b = 1#8 then some .follow else none

/-- A value within a range. -/
def readRange (lo hi n : Nat) : Option Nat := if lo ≤ n ∧ n ≤ hi then some n else none

/-- A settings record within its ranges (Tables 12-5 and 7-2). -/
def readSettings (a : List Byte) : Option Settings := do
  let period ← readRange 2500 1048575 (natAt a 0 4)
  let mode ← readFollow (byteAt a 4)
  let markPort ← readPort (byteAt a 5)
  let tolerance ← readRange 0 64 (natAt a 6 1)
  let faultLimit ← readRange 1 15 (natAt a 7 1)
  let markForward ← readMask (byteAt a 8)
  let quenchEgress ← readMask (byteAt a 9)
  let b0 ← readMask (byteAt a 10)
  let b1 ← readMask (byteAt a 11)
  let b2 ← readMask (byteAt a 12)
  let b3 ← readMask (byteAt a 13)
  return { period, follow := mode, markPort, tolerance, faultLimit, markForward, quenchEgress,
           background := ⟨b0, b1, b2, b3⟩ }

/-- A window record within its ranges (Tables 12-6 and 3-1). -/
def readWindow (a : List Byte) : Option WindowRec := do
  let b := byteAt a 0
  let _ ← if b &&& 0x3C#8 = 0#8 then some () else none
  let openOff ← readRange 0 1048575 (natAt a 1 3)
  let closeOff ← readRange 0 1048575 (natAt a 4 3)
  return { valid := b.getLsbD 7, kind := if b.getLsbD 6 then .guard else .admitting,
           port := Port.numbered (b &&& 0x03#8).toNat, openOff, closeOff }

/-- A repeat policy code (Table 12-4). -/
def readRepeat (b : Byte) : Option RepeatPolicy :=
  if b = 0#8 then some .forward else if b = 1#8 then some .drop else none

/-- A stray policy code (Table 12-4). -/
def readStray (b : Byte) : Option StrayPolicy :=
  if b = 0#8 then some .count else if b = 1#8 then some .hold
  else if b = 2#8 then some .holdAndQuench else none

/-- A stall policy code (Table 12-4). -/
def readStall (b : Byte) : Option StallPolicy :=
  if b = 0#8 then some .hold else if b = 1#8 then some .holdAndQuench else none

/-- A template index, 0xFF for none (Table 12-6). -/
def readTemplateIx (b : Byte) : Option (Option TemplateIx) :=
  if b = 0xFF#8 then some none
  else if h : b.toNat < 32 then some (some ⟨b.toNat, h⟩) else none

/-- A number as a table index. -/
def readIndex (n i : Nat) : Option (Fin n) := if h : i < n then some ⟨i, h⟩ else none

/-- A stream record within its ranges (Tables 12-6 and 1-1). -/
def readStream (a : List Byte) : Option StreamRec := do
  let enabled ← readYesNo (byteAt a 0)
  let window ← readIndex 64 (natAt a 3 1)
  let framesPerCycle ← readRange 1 4 (natAt a 4 1)
  let ringBase ← readIndex 1024 (natAt a 5 2)
  let ringLength ← readRange 2 16 (natAt a 7 1)
  let entryStep ← readRange 0 15 (natAt a 8 1)
  let repeatPolicy ← readRepeat (byteAt a 9)
  let strayPolicy ← readStray (byteAt a 10)
  let fill ← readYesNo (byteAt a 11)
  let stallPolicy ← readStall (byteAt a 13)
  let template ← readTemplateIx (byteAt a 14)
  return { enabled, tag := halfAt a 1, window, framesPerCycle, ringBase, ringLength, entryStep,
           repeatPolicy, strayPolicy, fill, absenceLimit := natAt a 12 1, stallPolicy, template }

/-- A step record within its ranges (Tables 12-6 and 1-2). -/
def readStep (a : List Byte) : Option StepRec :=
  if (byteAt a 0).toNat < 16 ∧ byteAt a 1 &&& 0x70#8 = 0#8 then
    some { phase := (byteAt a 0).setWidth 4, egress := (byteAt a 1).setWidth 4,
           notify := (byteAt a 1).getLsbD 7 }
  else none

/-- n records of a size, each within its ranges. -/
def readMany {α : Type} (read : List Byte → Option α) (size : Nat) : Nat → List Byte → Option (List α)
  | 0, _ => some []
  | n + 1, a => do
    let x ← read (a.take size)
    let xs ← readMany read size n (a.drop size)
    return x :: xs

/-- A quench cause code (Table 12-4). -/
def readCause (b : Byte) : Option Cause :=
  if b = 0#8 then some .line else if b = 1#8 then some .command else if b = 2#8 then some .stream
  else if b = 3#8 then some .mark else if b = 4#8 then some .startup
  else if b = 5#8 then some .restart else none

/-- A line mode code. -/
def readLineMode (b : Byte) : Option LineMode :=
  if b = 0#8 then some .auto else if b = 1#8 then some .latched else none

/-- A release mode code. -/
def readReleaseMode (b : Byte) : Option ReleaseMode :=
  if b = 0#8 then some .immediate else if b = 1#8 then some .cycle
  else if b = 2#8 then some .mark else none

/-- The number of an event class (Table 10-1). -/
def EventClass.number : EventClass → Fin 16
  | .stray => 0
  | .hold => 1
  | .stall => 2
  | .misplaced => 3
  | .surplus => 4
  | .unknown => 5
  | .quenchOn => 6
  | .quenchOff => 7
  | .markFault => 8
  | .commit => 9
  | .lease => 10
  | .egressDrop => 11
  | .foreign => 12
  | .link => 13
  | .stageReady => 14
  | .step => 15

/-- The sixteen classes in the order of their numbers. -/
def EventClass.all : List EventClass :=
  [.stray, .hold, .stall, .misplaced, .surplus, .unknown, .quenchOn, .quenchOff, .markFault,
   .commit, .lease, .egressDrop, .foreign, .link, .stageReady, .step]

/-- A class number. -/
def readClass (b : Byte) : Option EventClass := EventClass.all[b.toNat]?

/-- All of a list, or none. -/
def readAll {α β : Type} (read : α → Option β) : List α → Option (List β)
  | [] => some []
  | x :: xs => do
    let y ← read x
    let ys ← readAll read xs
    return y :: ys

/-! ### Codes in responses (Table 12-4) -/

/-- The code of a hold cause, 0xFF when absent. -/
def holdCauseByte : Option HoldCause → Byte
  | some .stray => 1#8
  | some .stall => 2#8
  | some .manual => 3#8
  | none => 0xFF#8

/-- The code of a stream state. -/
def streamStateByte : StreamState → Byte
  | .disabled => 0#8
  | .armed => 1#8
  | .running => 2#8
  | .held => 3#8

/-- The code of a timer state. -/
def timerStateByte : TimerState → Byte
  | .stopped => 0#8
  | .armed => 1#8
  | .running => 2#8

/-- The code of a staging state. -/
def stagingStateByte : StagingState → Byte
  | .ready => 0#8
  | .pending => 1#8
  | .restaging => 2#8

/-- The code of a restage reason. -/
def reasonCode : RestageReason → Nat
  | .apply => 1
  | .lease => 2
  | .restart => 3

/-- The code of a unit state. -/
def quenchStateByte : QuenchState → Byte
  | .normal => 0#8
  | .quenched => 1#8
  | .releasing => 2#8

/-- The code of a release wait, 0xFF when absent. -/
def waitByte : Option ReleaseWait → Byte
  | some .cycle => 1#8
  | some .mark => 2#8
  | none => 0xFF#8

/-- The code of a release mode. -/
def releaseModeByte : ReleaseMode → Byte
  | .immediate => 0#8
  | .cycle => 1#8
  | .mark => 2#8

/-- The code of a line mode. -/
def lineModeByte : LineMode → Byte
  | .auto => 0#8
  | .latched => 1#8

/-- The code of a transmitter state. -/
def transmitterByte : Transmitter → Byte
  | .down => 0#8
  | .idle => 1#8
  | .waiting => 2#8
  | .sending _ => 3#8

/-- The code of a link state. -/
def linkByte : LinkState → Byte
  | .down => 0#8
  | .up => 1#8

/-- The code of a status. -/
def statusByte : Status → Byte
  | .ok => 0#8
  | .notOwner => 1#8
  | .owned => 2#8
  | .busy => 3#8
  | .pending => 4#8
  | .invalid => 5#8
  | .late => 6#8
  | .range => 7#8
  | .state => 8#8
  | .stillActive => 9#8
  | .malformed => 10#8
  | .unknownRequest => 11#8

/-- The number of a quench cause. -/
def causeCode : Cause → Nat
  | .line => 0
  | .command => 1
  | .stream => 2
  | .mark => 3
  | .startup => 4
  | .restart => 5

/-- A cause set as a mask with bit c for cause c. -/
def causeMask (c : CauseSet) : Byte :=
  (yesNo c.line) ||| (yesNo c.command <<< (1 : Nat)) ||| (yesNo c.stream <<< (2 : Nat)) |||
    (yesNo c.mark <<< (3 : Nat)) ||| (yesNo c.startup <<< (4 : Nat)) |||
    (yesNo c.restart <<< (5 : Nat))

/-! ### Records in responses (section 12.3) -/

/-- A settings record, 14 bytes. -/
def settingsBytes (x : Settings) : List Byte :=
  be32 (BitVec.ofNat 32 x.period) ++
    [match x.follow with | .free => 0#8 | .follow => 1#8,
     BitVec.ofNat 8 x.markPort.index, BitVec.ofNat 8 x.tolerance, BitVec.ofNat 8 x.faultLimit,
     maskByte x.markForward, maskByte x.quenchEgress,
     maskByte x.background.p0, maskByte x.background.p1, maskByte x.background.p2,
     maskByte x.background.p3]

/-- A window record, 7 bytes. -/
def windowBytes (x : WindowRec) : List Byte :=
  ((yesNo x.valid <<< (7 : Nat)) ||| (yesNo (decide (x.kind = .guard)) <<< (6 : Nat)) |||
      BitVec.ofNat 8 x.port.index) ::
    be24 (BitVec.ofNat 24 x.openOff) ++ be24 (BitVec.ofNat 24 x.closeOff)

/-- A stream record, 15 bytes. -/
def streamBytes (x : StreamRec) : List Byte :=
  [yesNo x.enabled] ++ be16 x.tag ++
    [BitVec.ofNat 8 x.window.val, BitVec.ofNat 8 x.framesPerCycle] ++
    be16 (BitVec.ofNat 16 x.ringBase.val) ++
    [BitVec.ofNat 8 x.ringLength, BitVec.ofNat 8 x.entryStep,
     match x.repeatPolicy with | .forward => 0#8 | .drop => 1#8,
     match x.strayPolicy with | .count => 0#8 | .hold => 1#8 | .holdAndQuench => 2#8,
     yesNo x.fill, BitVec.ofNat 8 x.absenceLimit,
     match x.stallPolicy with | .hold => 0#8 | .holdAndQuench => 1#8,
     match x.template with | none => 0xFF#8 | some i => BitVec.ofNat 8 i.val]

/-- A step record, 2 bytes. -/
def stepBytes (x : StepRec) : List Byte :=
  [x.phase.setWidth 8, (yesNo x.notify <<< (7 : Nat)) ||| maskByte x.egress]

/-- A template: index, presence, length, image. -/
def templateBytes (i : Nat) (t : Option (List Byte)) : List Byte :=
  match t with
  | none => [BitVec.ofNat 8 i, 0#8, 0#8]
  | some image => [BitVec.ofNat 8 i, 1#8, BitVec.ofNat 8 image.length] ++ image

/-- A stream runtime record, 16 bytes. -/
def streamRunBytes (i : Nat) (x : StreamRun) (dirty : Bool) : List Byte :=
  [BitVec.ofNat 8 i, streamStateByte x.state, BitVec.ofNat 8 x.position,
   BitVec.ofNat 8 x.admittedCount, BitVec.ofNat 8 x.absenceRun, holdCauseByte x.holdCause,
   yesNo dirty, yesNo x.lastAdvance.isSome ||| (yesNo x.spacing.isSome <<< (1 : Nat))] ++
    be32 (x.lastAdvance.getD 0#32) ++ be32 (x.spacing.getD 0#32)

/-- The counters of a stream, 44 bytes. -/
def streamCounterBytes (c : StreamCounters) : List Byte :=
  be32 c.admitted ++ be32 c.lockOns ++ be32 c.advances ++ be32 c.repeats ++ be32 c.strays ++
    be32 c.seeks ++ be32 c.misplaced ++ be32 c.surplus ++ be32 c.absences ++
    be32 c.substitutesSent ++ be32 c.suppressed

/-- The counters of a port, 76 bytes. -/
def portCounterBytes (c : PortCounters) : List Byte :=
  be32 c.good ++ be32 c.runts ++ be32 c.giants ++ be32 c.fcsErrors ++ be32 c.abortedReceptions ++
    be32 c.malformed ++ be32 c.requestsAccepted ++ be32 c.foreign ++ be32 c.marks ++
    be32 c.unknownTag ++ be32 c.background ++ be32 c.backgroundUnforwarded ++ be32 c.transmitted ++
    be32 c.cyclicDrops ++ be32 c.managementDrops ++ be32 c.backgroundDrops ++
    be32 c.linkFlushDrops ++ be32 c.abandoned ++ be32 c.quenchDiscards

/-- The code of a fault record's part. -/
def faultPartByte : FaultPart → Byte
  | .settings => 0#8
  | .window => 1#8
  | .stream => 2#8
  | .step => 3#8

/-- The fault record, 6 bytes; an absent record travels with all its fields absent (log 18). -/
def faultBytes : Option FaultRecord → List Byte
  | none => [0#8, 0xFF#8] ++ be16 0xFFFF#16 ++ [0xFF#8, 0xFF#8]
  | some f =>
    [1#8, faultPartByte f.part] ++
      be16 (match f.index with | some i => BitVec.ofNat 16 i | none => 0xFFFF#16) ++
      [match f.stream with | some i => BitVec.ofNat 8 i | none => 0xFF#8, BitVec.ofNat 8 f.check]

/-! ### Frames the gate builds (R182) -/

/-- A frame of the gate: station address as source, version 1, no flags, phase 0, tag 0, the payload
length of the body, the low 16 bits of the cycle count, padding and FCS. -/
def State.gateFrame (s : State) (dest : StationAddr) (kind : Nat) (body : List Byte) : List Byte :=
  withFcs (padded
    (be48 dest ++ be48 s.stationAddr ++ be16 0x88B5#16 ++ [BitVec.ofNat 8 (16 + kind), 0#8] ++
      be16 0#16 ++ be16 (BitVec.ofNat 16 body.length) ++ be16 (s.timer.cycleCount.setWidth 16) ++
      body))

/-- Bytes for which the spec gives no value: n free values at a place of the response (log 8). -/
def State.unstatedBytes (s : State) (place n : Nat) : List Byte :=
  (List.range n).map (fun i => Config.unstatedByte (s.draws + place + i))

/-- The remaining lease in milliseconds; a fraction is rounded as the free value says (log 9). -/
def State.remainingLease (s : State) (o : Owner) : Nat :=
  let ticks := o.expiry - s.base
  ticks / Config.ticksPerMs +
    (if ticks % Config.ticksPerMs = 0 then 0 else if Config.leaseRoundsUp ticks then 1 else 0)

end Sys2Proof.Machine
end

