-- ==== Sys2Proof/Machine/Flags.lean ====
section
/-! DEFINITION. The event unit: raising an occurrence (R153), generating a notification record (R159),
offering records to management queues (R160), and the detail codes of Table 12-9. -/

namespace Sys2Proof.Machine

/-! ### Room in a queue (R143) and entries taken -/

/-- A queue has room while it holds fewer entries than its capacity and the port's link is UP (R143). -/
def State.hasRoom (s : State) (p : Port) (held capacity : Nat) : Bool :=
  decide (s.link p = .up) && decide (held < capacity)

/-- A port's management queue has room. -/
def State.mgmtRoom (s : State) (p : Port) : Bool := s.hasRoom p (s.egress.get p).mgmt.length 4

/-- A port's cyclic queue has room. -/
def State.cyclicRoom (s : State) (p : Port) : Bool := s.hasRoom p (s.egress.get p).cyclic.length 8

/-- A port's background queue has room. -/
def State.backgroundRoom (s : State) (p : Port) : Bool :=
  s.hasRoom p (s.egress.get p).background.length 16

/-- The arbiter of a port is to select (R148). -/
def State.callSelection (s : State) (p : Port) : State :=
  s.updateEgress p (fun e => { e with selectDue := true })

/-- The arbiter of every port is to select: a guard reading may have changed (R148, log 13). -/
def State.callSelections (s : State) : State :=
  s.setEgress (s.egress.map (fun e => { e with selectDue := true }))

/-! ### Notification frames (section 12.5) -/

/-- The class byte: the class in bits 3–0, bit 7 for a TEST occurrence. -/
def classByte (c : EventClass) (test : Bool) : Byte :=
  BitVec.ofNat 8 c.number.val ||| (yesNo test <<< (7 : Nat))

/-- An optional stream index, 0xFF when absent. -/
def streamByte : Option StreamIx → Byte
  | none => 0xFF#8
  | some i => BitVec.ofNat 8 i.val

/-- An optional port, 0xFF when absent. -/
def portByte : Option Port → Byte
  | none => 0xFF#8
  | some p => BitVec.ofNat 8 p.index

/-- The 19-byte body of a notification. -/
def notificationBody (r : NotifRecord) (lapse : Nat) : List Byte :=
  [BitVec.ofNat 8 r.listener.val] ++ be16 r.seq ++ [classByte r.cls r.test] ++ be32 r.cycleCount ++
    be32 (BitVec.ofNat 32 r.offset) ++ [streamByte r.stream, portByte r.port] ++ be16 r.detail ++
    [BitVec.ofNat 8 (r.missed.getD 0), BitVec.ofNat 8 r.sendCount, BitVec.ofNat 8 lapse]

/-- The notification frame built from a record at its offer (R160, R182). -/
def State.notificationFrame (s : State) (r : NotifRecord) : List Byte :=
  s.gateFrame s.events.listeners[r.listener].addr 4
    (notificationBody r s.events.listeners[r.listener].lapse)

/-! ### Offers (R160) -/

/-- A record that is to be offered: UNSENT or resend-due. -/
def NotifRecord.isDue (r : NotifRecord) : Bool :=
  match r.state with
  | .unsent => true
  | .resendDue => true
  | .awaiting _ => false

/-- The state of a record is UNSENT. -/
def NotifRecord.isUnsent (r : NotifRecord) : Bool :=
  match r.state with
  | .unsent => true
  | .awaiting _ => false
  | .resendDue => false

/-- The record is resend-due (R158). -/
def NotifRecord.isResendDue (r : NotifRecord) : Bool :=
  match r.state with
  | .unsent => false
  | .awaiting _ => false
  | .resendDue => true

/-- A record as its offer leaves it: AWAITING, the send count one higher, the retry timer afresh. -/
def State.offered (s : State) (r : NotifRecord) : NotifRecord :=
  { r with sendCount := r.sendCount + 1
           state := .awaiting
             (s.base + s.events.listeners[r.listener].retryInterval * Config.ticksPerMs) }

/-- Offers of a port's due records, oldest first, for as long as room lasts: the records and the
management queue after the offers. -/
def offerRecords (s : State) (p : Port) :
    List NotifRecord → List MgmtEntry → List NotifRecord × List MgmtEntry
  | [], q => ([], q)
  | r :: rs, q =>
    if r.isDue && decide (s.events.listeners[r.listener].port = p) && decide (q.length < 4) then
      let rest := offerRecords s p rs (q ++ [.notification (s.notificationFrame (s.offered r))])
      (s.offered r :: rest.1, rest.2)
    else
      let rest := offerRecords s p rs q
      (r :: rest.1, rest.2)

/-- Whether a port has a due record and room for it. -/
def State.offerDue (s : State) (p : Port) : Bool :=
  s.mgmtRoom p &&
    s.events.queue.any
      (fun r => r.isDue && decide (s.events.listeners[r.listener].port = p))

/-- The event unit offers the due records of a port's listeners (R160). An entry taken calls for a
selection (R148; an IDLE transmitter: log 37). -/
def State.offerNotifications (s : State) (p : Port) : State :=
  if s.offerDue p then
    let out := offerRecords s p s.events.queue (s.egress.get p).mgmt
    ((s.setEvents { s.events with queue := out.1 }).updateEgress p
      (fun e => { e with mgmt := out.2, selectDue := true }))
  else s

/-! ### Occurrences (R153, R159) -/

/-- The record that an occurrence generates for a listener (Table 10-3). -/
def State.newRecord (s : State) (l : ListenerIx) (o : Occurrence) : NotifRecord :=
  { listener := l
    seq := s.events.listeners[l].nextSeq
    cls := o.cls
    test := o.test
    cycleCount := s.timer.cycleCount
    offset := s.timer.counter
    stream := o.stream
    port := o.port
    detail := o.detail
    missed := if s.events.listeners[l].missed = 0 then none else some s.events.listeners[l].missed
    sendCount := 0
    state := .unsent }

/-- One listener record changed. -/
def EventUnit.updateListener (e : EventUnit) (l : ListenerIx) (f : Listener → Listener) : EventUnit :=
  { e with listeners := e.listeners.set l (f e.listeners[l]) }

/-- The event unit with a new record at the back of its queue (R159). -/
def State.withRecord (s : State) (l : ListenerIx) (o : Occurrence) : State :=
  s.setEvents
    { s.events.updateListener l (fun x => { x with nextSeq := x.nextSeq + 1#16, missed := 0 }) with
      queue := s.events.queue ++ [s.newRecord l o] }

/-- A notification record is called for (R159): the listener loses it when the queue holds 32 records;
otherwise it joins the back of the queue and the port's due records are offered. -/
def State.generate (s : State) (l : ListenerIx) (o : Occurrence) : State :=
  if s.events.listeners[l].enabled then
    if s.events.queue.length < 32 then
      (s.withRecord l o).offerNotifications s.events.listeners[l].port
    else
      s.setEvents (s.events.updateListener l (fun x => { x with missed := satInc x.missed }))
  else s

/-- The flag of a class set (R153 step 1). -/
def State.setFlag (s : State) (c : EventClass) : State :=
  s.setEvents { s.events with flags := s.events.flags ||| (1#16 <<< c.number.val) }

/-- An occurrence is raised (R153): its flag becomes set, and a record is generated for the class's
listener when the class is enabled. -/
def State.raise (s : State) (o : Occurrence) : State :=
  if s.events.classes[o.cls.number].enabled then
    (s.setFlag o.cls).generate s.events.classes[o.cls.number].listener o
  else s.setFlag o.cls

/-! ### The occurrences of Table 10-1 with their details (Table 12-9) -/

/-- HOLD (R15). -/
def occHold (i : StreamIx) (c : HoldCause) : Occurrence :=
  { cls := .hold, stream := some i, port := none, detail := (holdCauseByte (some c)).setWidth 16,
    test := false }
/-- STRAY (R28). -/
def occStray (i : StreamIx) (p : Port) (phase : Phase) : Occurrence :=
  { cls := .stray, stream := some i, port := some p, detail := phase.setWidth 16, test := false }
/-- STALL (R38). -/
def occStall (i : StreamIx) (p : Port) (run : Nat) : Occurrence :=
  { cls := .stall, stream := some i, port := some p, detail := BitVec.ofNat 16 run, test := false }
/-- MISPLACED (R57). -/
def occMisplaced (i : StreamIx) (p : Port) (code : Half) : Occurrence :=
  { cls := .misplaced, stream := some i, port := some p, detail := code, test := false }
/-- SURPLUS (R57). -/
def occSurplus (i : StreamIx) (p : Port) (phase : Phase) : Occurrence :=
  { cls := .surplus, stream := some i, port := some p, detail := phase.setWidth 16, test := false }
/-- UNKNOWN (R137). -/
def occUnknown (p : Port) (tag : Half) : Occurrence :=
  { cls := .unknown, stream := none, port := some p, detail := tag, test := false }
/-- QUENCH-ON (R97). -/
def occQuenchOn (c : Cause) : Occurrence :=
  { cls := .quenchOn, stream := none, port := none, detail := BitVec.ofNat 16 (causeCode c),
    test := false }
/-- QUENCH-OFF (R102). -/
def occQuenchOff (code : Half) : Occurrence :=
  { cls := .quenchOff, stream := none, port := none, detail := code, test := false }
/-- MARK-FAULT (R74). -/
def occMarkFault (p : Port) (code : Half) : Occurrence :=
  { cls := .markFault, stream := none, port := some p, detail := code, test := false }
/-- COMMIT (R120, R124 to R126). -/
def occCommit (code : Half) : Occurrence :=
  { cls := .commit, stream := none, port := none, detail := code, test := false }
/-- LEASE with detail EXPIRED (R171). -/
def occLease : Occurrence :=
  { cls := .lease, stream := none, port := none, detail := 1#16, test := false }
/-- EGRESS-DROP (R143, R149). -/
def occEgressDrop (p : Port) (i : Option StreamIx) (code : Half) : Occurrence :=
  { cls := .egressDrop, stream := i, port := some p, detail := code, test := false }
/-- FOREIGN (R135). -/
def occForeign (p : Port) (code : Half) : Occurrence :=
  { cls := .foreign, stream := none, port := some p, detail := code, test := false }
/-- LINK (R128, R129). -/
def occLink (p : Port) (l : LinkState) : Occurrence :=
  { cls := .link, stream := none, port := some p, detail := (linkByte l).setWidth 16, test := false }
/-- STAGE-READY (R123). -/
def occStageReady (r : RestageReason) : Occurrence :=
  { cls := .stageReady, stream := none, port := none, detail := BitVec.ofNat 16 (reasonCode r),
    test := false }
/-- STEP with detail LOCK (R13, R27). -/
def occStepLock (i : StreamIx) : Occurrence :=
  { cls := .step, stream := some i, port := none, detail := 1#16, test := false }
/-- STEP with detail ADVANCE (R27). -/
def occStepAdvance (i : StreamIx) : Occurrence :=
  { cls := .step, stream := some i, port := none, detail := 2#16, test := false }
/-- An occurrence of RAISE-FLAG, detail TEST, which travels as 0 (R155). -/
def occTest (c : EventClass) : Occurrence :=
  { cls := c, stream := none, port := none, detail := 0#16, test := true }

end Sys2Proof.Machine
end

