-- ==== Sys2Proof/Machine/QuenchUnit.lean ====
section
/-! DEFINITION. The quench unit's shared operations: causes added and removed (R92), the rise (R97) and
fall (R98, R102) of QS, release waits (R99 to R101), the quench line (R93, R94). -/

namespace Sys2Proof.Machine

/-! ### Cause sets (R92) -/

/-- Whether a cause is present. -/
def CauseSet.has (s : CauseSet) : Cause → Bool
  | .line => s.line
  | .command => s.command
  | .stream => s.stream
  | .mark => s.mark
  | .startup => s.startup
  | .restart => s.restart

/-- A cause present or absent. -/
def CauseSet.put (s : CauseSet) (c : Cause) (present : Bool) : CauseSet :=
  match c with
  | .line => { s with line := present }
  | .command => { s with command := present }
  | .stream => { s with stream := present }
  | .mark => { s with mark := present }
  | .startup => { s with startup := present }
  | .restart => { s with restart := present }

/-- No cause is present. -/
def CauseSet.isEmpty (s : CauseSet) : Bool :=
  !(s.line || s.command || s.stream || s.mark || s.startup || s.restart)

/-- Every cause of a list removed. -/
def CauseSet.removeAll (s : CauseSet) (cs : List Cause) : CauseSet :=
  cs.foldl (fun acc c => acc.put c false) s

/-- QUENCH_N is asserted with line enable on (R93, R96). -/
def Quench.lineActive (q : Quench) : Bool := decide (q.level = .asserted) && q.lineEnable

/-! ### Rise and fall of QS -/

/-- The record after an addition: QF and QS set, QUENCHED, no wait (R92, R97). -/
def Quench.withCause (q : Quench) (c : Cause) : Quench :=
  { q with causes := q.causes.put c true, qf := true, qs := true, unit := .quenched, wait := none }

/-- A cause is added (R92, R97): nothing when it is present already; QUENCH-ON at a rise of QS. -/
def State.addCause (s : State) (c : Cause) : State :=
  if s.quench.causes.has c then s
  else if s.quench.causes.isEmpty then
    if s.quench.qs then s.setQuench (s.quench.withCause c)
    else (s.setQuench (s.quench.withCause c)).raise (occQuenchOn c)
  else s.setQuench { s.quench with causes := s.quench.causes.put c true }

/-- The fall of QS: NORMAL, QUENCH-OFF with its detail (R102). -/
def State.quenchFalls (s : State) (code : Half) : State :=
  (s.setQuench { s.quench with qs := false, unit := .normal, wait := none }).raise
    (occQuenchOff code)

/-- The row of Table 6-4 that applies: a release wait, or the detail of a fall at once (R98). -/
def State.releaseRow (s : State) : ReleaseWait ⊕ Half :=
  match s.quench.releaseMode with
  | .immediate => .inr 1#16
  | .cycle => if s.running then .inl .cycle else .inr 2#16
  | .mark =>
    if s.running then (if s.inFollowCycle then .inl .mark else .inr 3#16) else .inr 2#16

/-- QF has become clear (R98): QS falls at once, or the unit waits in RELEASING. -/
def State.release (s : State) : State :=
  match s.releaseRow with
  | .inl w =>
    s.setQuench { s.quench with qf := false, unit := .releasing, wait := some w }
  | .inr code => (s.setQuench { s.quench with qf := false }).quenchFalls code

/-- Causes are removed (R92, R96): when the removals empty the set, QF becomes clear. -/
def State.removeCauses (s : State) (cs : List Cause) : State :=
  let left := s.quench.causes.removeAll cs
  let s1 := s.setQuench { s.quench with causes := left }
  if !s.quench.causes.isEmpty && left.isEmpty then s1.release else s1

/-! ### Ends of release waits (R99, R100) -/

/-- A cycle start reaches the quench unit: it ends a CYCLE wait, and a MARK wait when the beginning
cycle runs in FREE mode. -/
def State.quenchCycleStart (s : State) : State :=
  match s.quench.wait with
  | some .cycle => s.quenchFalls 4#16
  | some .mark => if s.inFollowCycle then s else s.quenchFalls 3#16
  | none => s

/-- An on-time mark reaches the quench unit: it ends a MARK wait (R100). -/
def State.quenchOnTimeMark (s : State) : State :=
  match s.quench.wait with
  | some .mark => s.quenchFalls 5#16
  | some .cycle => s
  | none => s

/-- A TIMER-STOP reaches the quench unit: it ends any wait (R99, R100). -/
def State.quenchTimerStop (s : State) : State :=
  match s.quench.wait with
  | some _ => s.quenchFalls 6#16
  | none => s

/-! ### The quench line (R93, R94) -/

/-- LINE judged against the line values in force: added while the line is asserted and enabled,
otherwise removed in AUTO mode and kept in LATCHED mode. -/
def State.judgeLine (s : State) : State :=
  if s.quench.lineActive then s.addCause .line
  else
    match s.quench.lineMode with
    | .auto => s.removeCauses [.line]
    | .latched => s

/-- The line takes a level (R93). A level it already has is no change. -/
def State.takeLine (s : State) (l : LineLevel) : State :=
  if s.quench.level = l then s else (s.setQuench { s.quench with level := l }).judgeLine

/-- A level that has not been taken has been on the pin for two ticks (R93). -/
def Quench.lineDue (q : Quench) : Bool := decide (q.pin ≠ q.level) && decide (2 ≤ q.pinTicks)

/-- A level that has been on the pin for two ticks and has not been taken is taken (R93). -/
def State.settleLine (s : State) : State :=
  if s.quench.lineDue then s.takeLine s.quench.pin else s

/-- The pin is at a level (R93): what has stood its two ticks is taken, also where the pin leaves it at this
moment; a change of the pin begins the two ticks of the new level (log 11). -/
def State.pinAt (s : State) (l : LineLevel) : State :=
  if s.quench.pin = l then s.settleLine
  else s.settleLine.setQuench { s.settleLine.quench with pin := l, pinTicks := 0 }

/-! ### SET-LIVE at the quench unit (R93, R94, R101) -/

/-- A change of release mode re-judges the wait of a unit that is RELEASING (R101). -/
def State.rejudgeWait (s : State) : State :=
  match s.releaseRow with
  | .inl w => s.setQuench { s.quench with wait := some w }
  | .inr _ => s.quenchFalls 7#16

/-- The three live quench values take effect (R101): first the release mode, then the line values,
last the wait, if the unit was RELEASING before, is so still and the release mode changed. -/
def State.applyLive (s : State) (enable : Bool) (lm : LineMode) (rm : ReleaseMode) : State :=
  let s1 :=
    (s.setQuench { s.quench with lineEnable := enable, lineMode := lm, releaseMode := rm }).judgeLine
  if s.quench.unit = .releasing ∧ s1.quench.unit = .releasing ∧ s.quench.releaseMode ≠ rm then
    s1.rejudgeWait
  else s1

end Sys2Proof.Machine
end

