-- ==== Sys2Proof/Machine/Guards.lean ====
section
/-! DEFINITION. The window schedule's readings for the egress units: guard readings (R60, R61), the
pending advance (R76), the fit rule (R147), the guard cut-off (R149). -/

namespace Sys2Proof.Machine

/-! ### Guard readings -/

/-- The valid GUARD windows of a port in a set. -/
def guardWindows (b : Bank) (p : Port) : List WindowRec :=
  (tableList b.windows).filter
    (fun w => w.valid && decide (w.kind = .guard) && decide (w.port = p))

/-- The least number of a list. -/
def leastOf : List Nat → Option Nat
  | [] => none
  | x :: xs =>
    match leastOf xs with
    | none => some x
    | some y => some (min x y)

/-- The guard window of a port that is open at the counter, while the timer is RUNNING (R60). -/
def State.openGuard (s : State) (p : Port) : Option WindowRec :=
  if s.running then
    (guardWindows s.active p).find?
      (fun w => decide (w.openOff ≤ s.timer.counter) && decide (s.timer.counter < w.closeOff))
  else none

/-- A pending commit's target is met at the coming cycle start (R61, R119). -/
def State.targetMetNext (s : State) : Bool :=
  match s.staging.commit with
  | some c =>
    match c.target with
    | .nextStart => true
    | .atCycle n => s.timer.cycleCount + 1#32 == n
  | none => false

/-- The set that will govern the coming cycle (R61). -/
def State.comingSet (s : State) : Bank := if s.targetMetNext then s.staged else s.active

/-- The assumed end E of the current cycle (R61). -/
def State.assumedEnd (s : State) : Nat :=
  match s.timer.current with
  | some c =>
    match c.follow with
    | .follow => c.period - c.tolerance
    | .free => c.period
  | none => s.active.settings.period

/-- The next guard of a port while no guard is open: ticks to the next guard's open offset, in this
cycle or counted into the coming one; none when no guard limits the port (R60, R61). -/
def State.nextGuard (s : State) (p : Port) : Option Nat :=
  if s.running then
    match leastOf (((guardWindows s.active p).map (fun w => w.openOff)).filter
        (fun o => decide (s.timer.counter < o))) with
    | some o => some (o - s.timer.counter)
    | none =>
      match leastOf ((guardWindows s.comingSet p).map (fun w => w.openOff)) with
      | none => none
      | some g =>
        if s.assumedEnd ≤ s.timer.counter then some g
        else some (s.assumedEnd - s.timer.counter + g)
  else none

/-! ### Pending advance (R76) -/

/-- The bytes of a frame received so far: a byte takes two ticks after the eight bytes of preamble and
start delimiter (R130). -/
def Reception.received (r : Reception) : Nat := min r.frame.length (r.elapsed / 2 - 8)

/-- The attributed start of a frame that started late in cycle n is the start of cycle n + 1, with
current start NONE; a start not yet taken counts as NONE (R76). An empty record counts as NONE (log 16). -/
def State.earlyStartOpen (s : State) (r : StartRecord) : Bool :=
  match s.timer.current with
  | none => false
  | some c =>
    if r.cycle = s.timer.cycleCount then
      decide (c.follow = .follow) && decide (c.period - c.tolerance ≤ r.offset)
    else
      match s.timer.ended with
      | none => false
      | some e =>
        decide (r.cycle + 1#32 = s.timer.cycleCount) && decide (e.params.follow = .follow) &&
          decide (e.params.period - e.params.tolerance ≤ r.offset) &&
          (match s.timer.attribution with
           | some a => !a.onTime
           | none => true)

/-- The frame in reception on the mark port when all but its length makes it a candidate (R76). -/
def State.candidateStart (s : State) : Option Reception :=
  match (s.ports.get s.markPort).reception with
  | some r => if s.running && r.start.unbroken && s.earlyStartOpen r.start then some r else none
  | none => none

/-- The candidate: it has not yet passed 128 bytes (R76). -/
def State.candidate (s : State) : Option Reception :=
  match s.candidateStart with
  | some r => if r.received ≤ 128 then some r else none
  | none => none

/-- The pending advance A (Table 4-2). -/
def State.pendingAdvance (s : State) : Nat :=
  match s.candidate with
  | none => 0
  | some r =>
    if r.start.cycle = s.timer.cycleCount then s.timer.counter - r.start.offset
    else
      match s.timer.ended with
      | some e => e.length - r.start.offset
      | none => 0

/-- The fit rule (R147) for a management or background frame of wire time w. -/
def State.fits (s : State) (p : Port) (w : Nat) : Bool :=
  if s.running then
    match s.openGuard p with
    | some _ => false
    | none =>
      match s.nextGuard p with
      | none => true
      | some g => decide (w + s.pendingAdvance ≤ g)
  else true

/-! ### Outcomes of a RESTART response (R177) -/

/-- An outcome other than completed is handed over for the RESTART response. -/
def State.restartFailed (s : State) : State :=
  match s.agent.restartWait with
  | some w => s.setAgent { s.agent with restartWait := some { w with failed := true } }
  | none => s

/-! ### Guard cut-off (R149) -/

/-- A guard is open on a port and a frame recorded as started while RUNNING is on its wire. -/
def State.cutDue (s : State) (p : Port) : Bool :=
  (s.openGuard p).isSome &&
    match (s.egress.get p).transmitter with
    | .sending t => t.startedRunning == some true
    | .down => false
    | .idle => false
    | .waiting => false

/-- The RESTART response is on the wire of a port. -/
def Egress.sendsRestart (e : Egress) : Bool :=
  match e.transmitter with
  | .sending t => decide (t.sent = .response true)
  | .down => false
  | .idle => false
  | .waiting => false

/-- The transmission on a port's wire ends by guard cut-off: EGRESS-DROP with detail GUARD-CUT; a
RESTART response is handed over as cut off; the arbiter is to select again (R146; IDLE until it does: log
37); a received frame whose last entry this was is released (R144). -/
def State.cutOff (s : State) (p : Port) : State :=
  let s1 := if (s.egress.get p).sendsRestart then s.restartFailed else s
  ((s1.updateEgress p (fun e => { e with transmitter := .idle, selectDue := true })).raise
    (occEgressDrop p none 5#16)).releaseFrames

/-- The cut-off of one port, where it is due. -/
def State.cutOffIfDue (s : State) (p : Port) : State := if s.cutDue p then s.cutOff p else s

/-- The cut-offs of all ports at one moment; with two or more, in a free order (log 14). -/
def State.cutOffs (s : State) : State :=
  let due := Port.all.filter s.cutDue
  if 2 ≤ due.length then
    (arrange (Config.tieOrder s.draws) due).foldl State.cutOffIfDue (s.draw 1)
  else due.foldl State.cutOffIfDue s

end Sys2Proof.Machine
end

