-- ==== Sys2Proof/Machine/Queues.lean ====
section
/-! DEFINITION. Offers to the cyclic, background and management queues (R31, R32, R138, R143, R167). -/

namespace Sys2Proof.Machine

/-- The stream index of a cyclic entry, absent for a MARK entry (Table 9-1). -/
def CyclicEntry.stream : CyclicEntry → Option StreamIx
  | .real i _ _ => some i
  | .substitute i _ => some i
  | .mark _ => none

/-- The detail of EGRESS-DROP for an entry's kind (Table 12-9). -/
def CyclicEntry.kindCode : CyclicEntry → Half
  | .real _ _ _ => 1#16
  | .substitute _ _ => 2#16
  | .mark _ => 3#16

/-- One entry offered to one port's cyclic queue (R143): taken, or discarded, counted and raised as
EGRESS-DROP with the entry's kind, or LINK when the link is DOWN. An IDLE transmitter stays IDLE until the
arbiter has selected (log 37); so it does at the other offers. -/
def State.offerCyclic (s : State) (e : CyclicEntry) (p : Port) : State :=
  if s.cyclicRoom p then
    s.updateEgress p (fun x => { x with cyclic := x.cyclic ++ [e], selectDue := true })
  else
    (s.countPort p (fun c => { c with cyclicDrops := c.cyclicDrops + 1#32 })).raise
      (occEgressDrop p e.stream (match s.link p with | .up => e.kindCode | .down => 4#16))

/-- One entry offered to the cyclic queues of several ports, each on its own (R32). Where two or more
ports have no room, their drops are raised in a free order (log 14). -/
def State.offerCyclicTo (s : State) (e : CyclicEntry) (ps : List Port) : State :=
  if 2 ≤ (ps.filter (fun p => !s.cyclicRoom p)).length then
    (arrange (Config.tieOrder s.draws) ps).foldl (fun t p => t.offerCyclic e p) (s.draw 1)
  else ps.foldl (fun t p => t.offerCyclic e p) s

/-- A background frame offered to one port's background queue (R143; an IDLE transmitter: log 37). -/
def State.offerBackground (s : State) (ref : Nat) (p : Port) : State :=
  if s.backgroundRoom p then
    s.updateEgress p (fun x => { x with background := x.background ++ [ref], selectDue := true })
  else s.countPort p (fun c => { c with backgroundDrops := c.backgroundDrops + 1#32 })

/-- A response offered to the management queue of a port (R143, R167): taken, or discarded and counted;
a discarded RESTART response is handed to the agent as dropped (R177; an IDLE transmitter: log 37). -/
def State.offerResponse (s : State) (p : Port) (frame : List Byte) (isRestart : Bool) : State :=
  if s.mgmtRoom p then
    s.updateEgress p
      (fun x => { x with mgmt := x.mgmt ++ [.response frame isRestart], selectDue := true })
  else
    let s1 := s.countPort p (fun c => { c with managementDrops := c.managementDrops + 1#32 })
    if isRestart then s1.restartFailed else s1

end Sys2Proof.Machine
end

