-- ==== Sys2Proof/Machine/StreamTable.lean ====
section
/-! DEFINITION. The stream table: phase checking of an admitted frame (R13, R23 to R33), the examination
at a window close (R34 to R38), holding and releasing (R16 to R19), the per-cycle count (R58). -/

namespace Sys2Proof.Machine

/-- The configuration record of a stream in the active set (R1). -/
def State.streamRec (s : State) (i : StreamIx) : StreamRec := s.active.streams[i]

/-- The current step of a stream (R4). -/
def State.currentStep (s : State) (i : StreamIx) : StepRec :=
  s.active.ringStep (s.streamRec i) s.streams[i].position

/-- The next step of a stream (R4). -/
def State.nextStep (s : State) (i : StreamIx) : StepRec :=
  s.active.ringStep (s.streamRec i) (nextPosition (s.streamRec i) s.streams[i].position)

/-- The advance history after a LOCK or ADVANCE at cycle count c (R9). -/
def StreamRun.recordAdvance (r : StreamRun) (c : Word) : StreamRun :=
  { r with
    spacing := match r.lastAdvance with
      | some l => some (c - l)
      | none => r.spacing
    lastAdvance := some c }

/-- A frame forwarded unaltered (R31): one REAL entry offered to each port of the current step's egress
set without the arrival port, captured phase the frame's phase code. -/
def State.forwardReal (s : State) (i : StreamIx) (p : Port) (phase : Phase) (ref : Nat) : State :=
  s.offerCyclicTo (.real i phase ref) ((s.currentStep i).egress.portsWithout p)

/-- SUBSTITUTE entries for a stream's current step, offered to its egress set without one port, when a
template index is given (R33, R36). -/
def State.offerSubstitutes (s : State) (i : StreamIx) (p : Port) : State :=
  match (s.streamRec i).template with
  | some _ =>
    s.offerCyclicTo (.substitute i (s.currentStep i).phase) ((s.currentStep i).egress.portsWithout p)
  | none => s

/-- Entry into HELD with its cause, and HOLD (R9, R15). -/
def State.enterHeld (s : State) (i : StreamIx) (c : HoldCause) : State :=
  (s.updateStream i (fun r => { r with state := .held, holdCause := some c })).raise (occHold i c)

/-! ### An admitted frame (R23) -/

/-- The runtime record after a LOCK (R13). -/
def StreamRun.locked (r : StreamRun) (c : Word) : StreamRun :=
  { ({ r with state := .running, absenceRun := 0 } : StreamRun).recordAdvance c with
    counters := { r.counters with lockOns := r.counters.lockOns + 1#32 } }

/-- LOCK (R13). -/
def State.lock (s : State) (i : StreamIx) (p : Port) (phase : Phase) (ref : Nat) : State :=
  (((s.updateStream i (fun r => r.locked s.timer.cycleCount)).forwardReal i p phase ref).raise
    (occStepLock i))

/-- SEEK (R13). -/
def State.seek (s : State) (i : StreamIx) : State :=
  s.countStream i (fun c => { c with seeks := c.seeks + 1#32 })

/-- REPEAT (R25): forwarded or dropped by the repeat policy. -/
def State.repeated (s : State) (i : StreamIx) (p : Port) (phase : Phase) (ref : Nat) : State :=
  let s1 := s.countStream i (fun c => { c with repeats := c.repeats + 1#32 })
  match (s.streamRec i).repeatPolicy with
  | .forward => s1.forwardReal i p phase ref
  | .drop => s1

/-- The runtime record after an ADVANCE (R26). -/
def StreamRun.advanced (r : StreamRun) (cfg : StreamRec) (c : Word) : StreamRun :=
  { ({ r with position := nextPosition cfg r.position, absenceRun := 0 } : StreamRun).recordAdvance c
    with counters := { r.counters with advances := r.counters.advances + 1#32 } }

/-- ADVANCE (R26, R27). -/
def State.advance (s : State) (i : StreamIx) (p : Port) (phase : Phase) (ref : Nat) : State :=
  let s1 := (s.updateStream i (fun r => r.advanced (s.streamRec i) s.timer.cycleCount)).forwardReal
    i p phase ref
  if (s.nextStep i).notify then s1.raise (occStepAdvance i) else s1

/-- The effects of every STRAY (R28). -/
def State.strayed (s : State) (i : StreamIx) (p : Port) (phase : Phase) : State :=
  (s.countStream i (fun c => { c with strays := c.strays + 1#32 })).raise (occStray i p phase)

/-- STRAY (R28 to R30). -/
def State.stray (s : State) (i : StreamIx) (p : Port) (phase : Phase) : State :=
  match (s.streamRec i).strayPolicy with
  | .count => s.strayed i p phase
  | .hold => (s.strayed i p phase).enterHeld i .stray
  | .holdAndQuench => ((s.strayed i p phase).enterHeld i .stray).addCause .stream

/-- The stream table acts on an admitted frame by the stream's state (R23, R24, Table 2-1). -/
def State.admittedFrame (s : State) (i : StreamIx) (p : Port) (phase : Phase) (ref : Nat) : State :=
  match s.streams[i].state with
  | .disabled => s
  | .armed => if phase = (s.currentStep i).phase then s.lock i p phase ref else s.seek i
  | .running =>
    if phase = (s.currentStep i).phase then s.repeated i p phase ref
    else if phase = (s.nextStep i).phase then s.advance i p phase ref
    else s.stray i p phase
  | .held => s.offerSubstitutes i p

/-! ### The window close (R34 to R38) -/

/-- The runtime record of an absent stream after R35. -/
def StreamRun.absent (r : StreamRun) : StreamRun :=
  { r with absenceRun := satInc r.absenceRun
           counters := { r.counters with absences := r.counters.absences + 1#32 } }

/-- The absent close brings a RUNNING stream to its limit just now (R37). -/
def stallsAt (cfg : StreamRec) (before : StreamRun) : Bool :=
  decide (before.state = .running) && decide (1 ≤ cfg.absenceLimit) &&
    decide (before.absenceRun < 255) && decide (before.absenceRun + 1 = cfg.absenceLimit)

/-- A stall (R38): STALL, HELD, and the quench cause under HOLD-AND-QUENCH. -/
def State.stallStream (s : State) (i : StreamIx) (p : Port) : State :=
  let s1 := (s.raise (occStall i p s.streams[i].absenceRun)).enterHeld i .stall
  match (s.streamRec i).stallPolicy with
  | .hold => s1
  | .holdAndQuench => s1.addCause .stream

/-- An absent stream at the close of its window (R35 to R38). -/
def State.absentStream (s : State) (i : StreamIx) (p : Port) : State :=
  let s1 := s.updateStream i StreamRun.absent
  let s2 := if (s.streamRec i).fill then s1.offerSubstitutes i p else s1
  if stallsAt (s.streamRec i) s.streams[i] then s2.stallStream i p else s2

/-- One stream examined at the close of window w (R34). -/
def State.examineStream (s : State) (w : WindowIx) (i : StreamIx) : State :=
  if (s.streamRec i).window = w ∧ (s.streams[i].state = .running ∨ s.streams[i].state = .held) then
    if 1 ≤ s.streams[i].admittedCount then s.updateStream i (fun r => { r with absenceRun := 0 })
    else s.absentStream i s.active.windows[w].port
  else s

/-- The streams bound to a closing window are examined, in ascending order of stream index (R34), each
with all of R35 to R38 before the next (log 32). -/
def State.examineWindow (s : State) (w : WindowIx) : State :=
  allStreams.foldl (fun t i => t.examineStream w i) s

/-- Every admitted-this-cycle count is set to 0 (R58). -/
def State.zeroAdmitted (s : State) : State :=
  s.setStreams (mapTable s.streams (fun r => { r with admittedCount := 0 }))

/-! ### Releasing (R18, R19) -/

/-- The runtime record after RESUME (R18). -/
def StreamRun.resumed (r : StreamRun) : StreamRun :=
  { r with state := .running, holdCause := none, absenceRun := 0 }

/-- The runtime record after REARM (R19). -/
def StreamRun.rearmed (r : StreamRun) (cfg : StreamRec) : StreamRun :=
  { r with state := .armed, position := cfg.entryStep, holdCause := none, absenceRun := 0,
           lastAdvance := none, spacing := none }

/-- The runtime record a reseat or a warm restart starts from: ARMED or DISABLED by the enabled field. -/
def StreamRun.seated (r : StreamRun) (cfg : StreamRec) : StreamRun :=
  { state := if cfg.enabled then .armed else .disabled
    position := cfg.entryStep
    admittedCount := 0, absenceRun := 0, holdCause := none, lastAdvance := none, spacing := none
    counters := r.counters }

/-- The runtime record after a warm restart (R22, Table 1-8). -/
def StreamRun.restarted (cfg : StreamRec) : StreamRun :=
  { StreamRun.cold with
    state := if cfg.enabled then .armed else .disabled
    position := if cfg.enabled then cfg.entryStep else 0 }

end Sys2Proof.Machine
end

