-- ==== Sys2Proof/Machine/StagingUnit.lean ====
section
/-! DEFINITION. The staging controller: validation (R115, R116), apply and reseat (R120, R121), restage
(R123), the ends of a pending commit (R119, R124, R125), dirty marks (R113). -/

namespace Sys2Proof.Machine

/-! ### Validation (Table 7-5) -/

/-- Checks 1 and 2 on the settings. -/
def checkSettings (x : Settings) : Option FaultRecord :=
  if x.period < 2500 ∨ 1048575 < x.period ∨ 64 < x.tolerance ∨ x.faultLimit < 1 ∨ 15 < x.faultLimit
  then some { part := .settings, index := none, stream := none, check := 1 }
  else if x.period ≤ 4 * x.tolerance
  then some { part := .settings, index := none, stream := none, check := 2 }
  else none

/-- Checks 3 and 4 on one valid window. -/
def checkWindow (b : Bank) (w : WindowIx) : Option FaultRecord :=
  if !b.windows[w].valid then none
  else if b.windows[w].closeOff ≤ b.windows[w].openOff
  then some { part := .window, index := some w.val, stream := none, check := 3 }
  else if b.settings.period - b.settings.tolerance < b.windows[w].closeOff
  then some { part := .window, index := some w.val, stream := none, check := 4 }
  else none

/-- Two windows overlap when each opens before the other closes (R48). -/
def overlap (x y : WindowRec) : Bool :=
  decide (x.openOff < y.closeOff) && decide (y.openOff < x.closeOff)

/-- Two window records that check 5 compares: both valid, of one kind, on one port. -/
def sameLane (x y : WindowRec) : Bool :=
  x.valid && y.valid && decide (x.kind = y.kind) && decide (x.port = y.port)

/-- Check 5 on one window. -/
def checkOverlap (b : Bank) (w : WindowIx) : Option FaultRecord :=
  if allWindows.any (fun v =>
      decide (v.val < w.val) && sameLane b.windows[v] b.windows[w] &&
        overlap b.windows[v] b.windows[w])
  then some { part := .window, index := some w.val, stream := none, check := 5 }
  else none

/-- The pairs of adjacent ring steps in the order of R116: (0, 1) up to (length − 2, length − 1), last
(length − 1, 0). -/
def ringPairs (len : Nat) : List (Nat × Nat) :=
  (List.range (len - 1)).map (fun k => (k, k + 1)) ++ [(len - 1, 0)]

/-- Check 10: the pool record of the second step of the first pair with equal codes (R116). -/
def adjacentFault (b : Bank) (r : StreamRec) : Option Nat :=
  ((ringPairs r.ringLength).find?
    (fun q => (b.ringStep r q.1).phase == (b.ringStep r q.2).phase)).map
      (fun q => r.ringBase.val + q.2)

/-- Checks 6 to 13 on one enabled stream, in order. -/
def checkStream (b : Bank) (i : StreamIx) : Option FaultRecord :=
  let r := b.streams[i]
  let fail (n : Nat) : Option FaultRecord :=
    some { part := .stream, index := some i.val, stream := none, check := n }
  if !r.enabled then none
  else if !b.windows[r.window].valid || decide (b.windows[r.window].kind = .guard) then fail 6
  else if 1024 < r.ringBase.val + r.ringLength then fail 7
  else if r.ringLength < 2 ∨ 16 < r.ringLength then fail 8
  else if r.ringLength ≤ r.entryStep then fail 9
  else
    match adjacentFault b r with
    | some j => some { part := .step, index := some j, stream := some i.val, check := 10 }
    | none =>
      if r.framesPerCycle < 1 ∨ 4 < r.framesPerCycle then fail 11
      else if (match r.template with | some t => b.templates[t].isNone | none => false) then fail 12
      else if allStreams.any (fun k =>
          decide (k.val < i.val) && b.streams[k].enabled && b.streams[k].tag == r.tag)
      then fail 13
      else none

/-- Validation of a set: the first failure in the order of R115, or none. -/
def validate (b : Bank) : Option FaultRecord :=
  match checkSettings b.settings with
  | some f => some f
  | none =>
    match allWindows.findSome? (checkWindow b) with
    | some f => some f
    | none =>
      match allWindows.findSome? (checkOverlap b) with
      | some f => some f
      | none => allStreams.findSome? (checkStream b)

/-! ### Restage (R123) -/

/-- A restage begins: RESTAGING, the reason, every dirty mark cleared. An occasion that arrives while
one runs adds nothing. -/
def State.beginRestage (s : State) (why : RestageReason) : State :=
  match s.staging.state with
  | .restaging => s
  | .ready | .pending =>
    s.setStaging
      { s.staging with
        state := .restaging, reason := some why, dirty := Vector.replicate 128 false
        restageEnd := some (s.base + Config.restageTicks) }

/-! ### Apply and reseat (R120 to R122) -/

/-- Every dirty stream is reseated from its record in the active set (R121). -/
def State.reseatDirty (s : State) : State :=
  s.setStreams
    (tableOf (fun i : StreamIx =>
      if s.staging.dirty[i] then s.streams[i].seated (s.streamRec i) else s.streams[i]))

/-- The swap of the banks (R120 step 1). -/
def State.swapBanks (s : State) : State :=
  s.setStaging { s.staging with active := s.staging.active.other }

/-- The pending commit record and the fault record become absent (R120 step 3). -/
def State.dropCommit (s : State) : State :=
  s.setStaging { s.staging with commit := none, fault := none }

/-- A commit applies (R120). A guard reading may change (R148). -/
def State.applyCommit (s : State) : State :=
  ((s.swapBanks.reseatDirty.dropCommit.raise (occCommit 0x0100#16)).beginRestage .apply).callSelections

/-- A pending commit is withdrawn with its reason's detail (R124, R125): READY, edits and dirty marks
kept. A guard reading may change (R148). -/
def State.withdrawCommit (s : State) (code : Half) : State :=
  ((s.setStaging { s.staging with commit := none, state := .ready }).raise
    (occCommit code)).callSelections

/-! ### What the timer and the agent hand over (R119, R125) -/

/-- A cycle start, after the cycle count has gone up, meets the target of a pending commit (R119). -/
def State.targetMet (s : State) : Bool :=
  match s.staging.commit with
  | some c =>
    match c.target with
    | .nextStart => true
    | .atCycle n => s.timer.cycleCount == n
  | none => false

/-- The staging controller takes a cycle start (R119). -/
def State.stagingCycleStart (s : State) : State :=
  if s.staging.state = .pending ∧ s.targetMet then s.applyCommit else s

/-- The staging controller takes a TIMER-STOP from RUNNING (R125). -/
def State.stagingTimerStop (s : State) : State :=
  match s.staging.state with
  | .pending =>
    match s.staging.commit with
    | some c =>
      match c.target with
      | .nextStart => s.applyCommit
      | .atCycle _ => s.withdrawCommit 0x0203#16
    | none => s
  | .ready => s
  | .restaging => s

/-- The staging controller takes a lease expiry of a station (R125). -/
def State.stagingLeaseExpiry (s : State) (a : StationAddr) : State :=
  match s.staging.state with
  | .ready => s.beginRestage .lease
  | .pending =>
    match s.staging.commit with
    | some c =>
      if c.owner = some a then (s.withdrawCommit 0x0202#16).beginRestage .lease else s
    | none => s
  | .restaging => s

/-- The staging controller takes a YIELD (R118): the owner field becomes absent. -/
def State.stagingYield (s : State) : State :=
  match s.staging.commit with
  | some c => s.setStaging { s.staging with commit := some { c with owner := none } }
  | none => s

/-! ### Staged writes and dirty marks (R112, R113) -/

/-- The staged ring of a stream covers a run of pool records from a first index (R113). -/
def ringCovers (r : StreamRec) (first count : Nat) : Bool :=
  decide (r.ringBase.val < first + count) && decide (first < r.ringBase.val + r.ringLength)

/-- Dirty marks set where a test holds. -/
def State.markDirty (s : State) (test : StreamIx → Bool) : State :=
  s.setStaging
    { s.staging with dirty := tableOf (fun i : StreamIx => s.staging.dirty[i] || test i) }

/-- A run of records written into a table from a first index. -/
def writeRun {α : Type} {n : Nat} (v : Vector α n) (first : Nat) : List α → Vector α n
  | [] => v
  | x :: xs =>
    writeRun (if h : first < n then v.set first x h else v) (first + 1) xs

end Sys2Proof.Machine
end

