-- ==== Sys2Proof/Machine/TimerUnit.lean ====
section
/-! DEFINITION. The cycle timer's shared operations: the cycle start handed to its neighbours (R64, R65),
mark faults (R74), marks judged and corrections (R70 to R73), the attribution interval (R75), the
starting mark (R67), the stop (R68). -/

namespace Sys2Proof.Machine

/-- The P, T and follow mode of a set (R63). -/
def Settings.params (x : Settings) : CycleParams :=
  { period := x.period, tolerance := x.tolerance, follow := x.follow }

/-! ### Mark faults (R74) -/

/-- A slip or a missing mark adds one to the mark-fault count; at the limit, LIMIT and cause MARK follow. -/
def State.markFault (s : State) (code : Half) : State :=
  let n := satInc s.timer.faultCount
  let s1 := (s.setTimer { s.timer with faultCount := n }).raise (occMarkFault s.markPort code)
  if n = s.active.settings.faultLimit then
    (s1.raise (occMarkFault s.markPort 3#16)).addCause .mark
  else s1

/-! ### The attribution interval (R75) -/

/-- A frame in reception on the mark port that may still be the mark of the current start. -/
def State.holdsInterval (s : State) (r : Reception) : Bool :=
  r.start.unbroken &&
    ((match s.timer.current with
      | some c => decide (r.start.cycle = s.timer.cycleCount) && decide (r.start.offset ≤ c.tolerance)
      | none => false) ||
     (match s.timer.ended with
      | some e => decide (r.start.cycle + 1#32 = s.timer.cycleCount) &&
          decide (e.params.period - e.params.tolerance ≤ r.start.offset)
      | none => false))

/-- The attribution interval of the current start is open and both its conditions hold (R75). -/
def State.intervalOver (s : State) : Bool :=
  s.running &&
    (match s.timer.attribution with | some a => a.isOpen | none => false) &&
    (match s.timer.current with
     | some c => decide (c.tolerance + 1 ≤ s.timer.counter)
     | none => false) &&
    (match (s.ports.get s.markPort).reception with
     | some r => !s.holdsInterval r
     | none => true)

/-- The interval closes; a start without an on-time mark has a missing mark. -/
def State.closeInterval (s : State) : State :=
  match s.timer.attribution with
  | some a =>
    let s1 := s.setTimer { s.timer with attribution := some { a with isOpen := false } }
    if a.onTime then s1 else s1.markFault 2#16
  | none => s

/-- The interval closes where it is over. -/
def State.closeIntervalIfOver (s : State) : State :=
  if s.intervalOver then s.closeInterval else s

/-- A frame in reception on the mark port holds the current start's open interval, which has no on-time
mark. -/
def State.intervalHeld (s : State) : Bool :=
  (match s.timer.attribution with | some a => a.isOpen && !a.onTime | none => false) &&
    (match (s.ports.get s.markPort).reception with
     | some r => s.holdsInterval r
     | none => false)

/-- A cycle start finds the interval of the start before it still open: a frame that holds it keeps it
open to its arrival or discard, which is noted at the frame, on the port that serves this interval (R77);
otherwise it closes (R75, log 15). -/
def State.carryInterval (s : State) : State :=
  if s.intervalHeld then
    s.updatePort s.markPort (fun u =>
      { u with reception := u.reception.map (fun r => { r with holdsEarlier := true }) })
  else
    match s.timer.attribution with
    | some a => if a.isOpen then s.closeInterval else s
    | none => s

/-- A frame has left reception: the interval of an earlier start that it held open closes with a missing
mark, unless the timer has been stopped since (R75, log 15). -/
def State.closeHeldInterval (s : State) : Option Reception → State
  | some r => if s.running && r.start.unbroken && r.holdsEarlier then s.markFault 2#16 else s
  | none => s

/-- A frame that leaves reception on a port was on the mark port and held the current start's interval. -/
def State.heldCurrent (s : State) (p : Port) : Option Reception → Bool
  | some r => decide (p = s.markPort) && s.holdsInterval r
  | none => false

/-- A frame has left reception on a port: the intervals that it held close, an earlier start's (log 15) before
the current one's (R75). A frame on another port than the mark port, and a port without a frame, leave the
timer's record as it is (R63). -/
def State.endHolds (before after : State) (p : Port) (r : Option Reception) : State :=
  let s1 := after.closeHeldInterval r
  if before.heldCurrent p r then s1.closeIntervalIfOver else s1

/-! ### Window closes in the cycle in progress (R49, R60) -/

/-- A window's close has been reached in this cycle and not been taken. -/
def State.closeReached (s : State) (w : WindowIx) : Bool :=
  s.running && s.active.windows[w].valid &&
    decide (s.active.windows[w].closeOff ≤ s.timer.counter) &&
    !s.timer.closesTaken.contains w.val

/-- The close of a window is noted as taken. -/
def State.noteClose (s : State) (w : WindowIx) : State :=
  s.setTimer { s.timer with closesTaken := w.val :: s.timer.closesTaken }

/-- A window close or guard close is taken (R34, R49, R60). -/
def State.takeClose (s : State) (w : WindowIx) : State :=
  match s.active.windows[w].kind with
  | .admitting => (s.noteClose w).examineWindow w
  | .guard => (s.noteClose w).callSelection s.active.windows[w].port

/-! ### The cycle start (R64, R65) -/

/-- The length, P, T and mode of the cycle that begins, and its attribution record (R63, R65). -/
def State.beginCycle (s : State) (firstOfRun : Bool) : State :=
  s.setTimer
    { s.timer with
      cycleLength := s.active.settings.period
      ended := if firstOfRun then none
        else s.timer.current.map (fun c => { params := c, length := s.timer.cycleLength })
      current := some s.active.settings.params
      attribution := match s.active.settings.follow with
        | .follow => some { onTime := false, isOpen := true }
        | .free => none
      closesTaken := [] }

/-- Both the quench unit and a guard cut-off raise an occurrence at this cycle start. -/
def State.quenchAndCut (s : State) : Bool := s.quench.wait.isSome && Port.all.any s.cutDue

/-- A cycle start is handed on (R64): the staging controller first, then the timer's own record, then
the other neighbours. -/
def State.handCycleStart (s : State) (firstOfRun : Bool) : State :=
  let s1 := (s.stagingCycleStart.beginCycle firstOfRun).zeroAdmitted
  (inEitherOrder s1.quenchAndCut State.quenchCycleStart State.cutOffs s1).callSelections

/-- Where a cycle start of the period match is due: the counter has reached the cycle length and no close
of the cycle is outstanding (R50, R64). -/
def State.cycleStartDue (s : State) : Bool :=
  s.running && decide (s.timer.cycleLength ≤ s.timer.counter) &&
    !allWindows.any s.closeReached

/-- The period match (R64). The interval of the start before may outlast it (R75). -/
def State.periodMatch (s : State) : State :=
  let s1 := s.carryInterval
  (s1.setTimer { s1.timer with counter := 0, cycleCount := s1.timer.cycleCount + 1#32 }).handCycleStart
    false

/-! ### Marks (R67, R70 to R74) -/

/-- What every on-time mark does (R70, R74): current start ON-TIME, interval CLOSED, fault count 0, and
the quench unit. In a FREE cycle the record stays empty (log 16). -/
def State.onTimeMark (s : State) : State :=
  (s.setTimer
    { s.timer with
      attribution := s.timer.attribution.map (fun _ => { onTime := true, isOpen := false })
      faultCount := 0 }).quenchOnTimeMark

/-- A late on-time mark at offset o lengthens the current cycle (R71). -/
def State.lateMark (s : State) (c : CycleParams) (o : Nat) : State :=
  (s.setTimer { s.timer with cycleLength := c.period + o }).onTimeMark

/-- A window into a list ordered by close offset, behind those that close no later; windows that close at
one offset keep the order in which they come (log 33). -/
def insertByClose (b : Bank) (w : WindowIx) : List WindowIx → List WindowIx
  | [] => [w]
  | v :: vs =>
    if b.windows[w].closeOff < b.windows[v].closeOff then w :: v :: vs
    else v :: insertByClose b w vs

/-- Windows in ascending order of close offset (R73), and of index among equal offsets (log 33). -/
def sortByClose (b : Bank) (ws : List WindowIx) : List WindowIx :=
  ws.foldl (fun acc w => insertByClose b w acc) []

/-- The counter is advanced to x: the closes it passes are taken in ascending order of offset, at the new
counter value (log 34), then a guard that is open at x cuts off (log 36; the order of the two: log 40), and
readings are recomputed (R73, R149). -/
def State.advanceCounter (s : State) (x : Nat) : State :=
  let passed := allWindows.filter (fun w =>
    s.active.windows[w].valid && decide (s.timer.counter < s.active.windows[w].closeOff) &&
      decide (s.active.windows[w].closeOff ≤ x) && !s.timer.closesTaken.contains w.val)
  ((sortByClose s.active passed).foldl State.takeClose
      (s.setTimer { s.timer with counter := x })).cutOffs.callSelections

/-- An early on-time mark at offset o of the cycle just ended, with wire time w (R72): the advance first, then
the quench unit's part (log 40). -/
def State.earlyMark (s : State) (o w : Nat) : State :=
  ((s.advanceCounter w).setTimer
    { (s.advanceCounter w).timer with
      ended := (s.advanceCounter w).timer.ended.map (fun e => { e with length := o }) }).onTimeMark

/-- P, T and mode of the cycle in which a frame started, where the timer keeps them (R63, log 17). -/
def State.paramsAt (s : State) (r : StartRecord) : Option CycleParams :=
  if r.cycle = s.timer.cycleCount then s.timer.current
  else
    match s.timer.ended with
    | some e => if r.cycle + 1#32 = s.timer.cycleCount then some e.params else none
    | none => none

/-- The current start has no on-time mark yet. -/
def State.startOpen (s : State) : Bool :=
  match s.timer.attribution with
  | some a => !a.onTime
  | none => false

/-- A mark of len bytes is judged for following (R70). -/
def State.judgeMark (s : State) (r : StartRecord) (len : Nat) : State :=
  if s.running && r.unbroken then
    match s.paramsAt r with
    | none => s
    | some c =>
      match c.follow with
      | .free => s
      | .follow =>
        if 128 < len then s.markFault 1#16
        else if r.offset ≤ c.tolerance then
          if r.cycle = s.timer.cycleCount ∧ s.startOpen then s.lateMark c r.offset
          else s.markFault 1#16
        else if c.period - c.tolerance ≤ r.offset then
          if r.cycle = s.timer.cycleCount then s
          else if s.earlyStartOpen r then s.earlyMark r.offset (wireTime len)
          else s.markFault 1#16
        else s.markFault 1#16
  else s

/-- The windows whose close lies at or below an offset: their closes are not taken in a first cycle that
begins there (R49, R67). -/
def closesBelow (b : Bank) (x : Nat) : List Nat :=
  (allWindows.filter (fun w => decide (b.windows[w].closeOff ≤ x))).map (fun w => w.val)

/-- The first mark of at most 128 bytes starts an ARMED timer (R67). -/
def State.startOnMark (s : State) (len : Nat) : State :=
  let s1 := (s.setTimer { s.timer with
    state := .running, cycleCount := 0#32, counter := wireTime len }).handCycleStart true
  let s2 := s1.setTimer { s1.timer with closesTaken := closesBelow s1.active (wireTime len) }
  match s2.active.settings.follow with
  | .follow => s2.onTimeMark
  | .free => s2

/-- The timer acts on a cycle mark (R67, R70). -/
def State.timerTakesMark (s : State) (r : StartRecord) (len : Nat) : State :=
  match s.timer.state with
  | .stopped => s
  | .armed => if len ≤ 128 then s.startOnMark len else s
  | .running => s.judgeMark r len

/-! ### The stop (R68) -/

/-- The unbroken-run field of every frame in reception becomes no (R51). -/
def State.breakRuns (s : State) : State :=
  s.setPorts (s.ports.map (fun u =>
    { u with reception := u.reception.map (fun r =>
        { r with start := { r.start with unbroken := false } }) }))

/-- The timer record after a stop: STOPPED, the attribution record empty, the rest kept (R68). -/
def Timer.stop (t : Timer) : Timer := { t with state := .stopped, attribution := none }

/-- TIMER-STOP taken (R68). The staging controller and the quench unit may both raise an occurrence; their
order is free (log 14). -/
def State.stopTimer (s : State) : State :=
  if s.running then
    let s1 := (s.setTimer s.timer.stop).breakRuns.callSelections
    inEitherOrder (s1.staging.commit.isSome && s1.quench.wait.isSome)
      State.stagingTimerStop State.quenchTimerStop s1
  else s.setTimer s.timer.stop

end Sys2Proof.Machine
end

