-- ==== Sys2Proof/Machine/RestartUnit.lean ====
section
/-! DEFINITION. The warm restart (R177, R178): what every block does at the moment it takes effect. -/

namespace Sys2Proof.Machine

/-- The agent (R178): intake, cache and ownership emptied, counters 0, no restart wait; the management
port set is kept. -/
def Agent.restarted (a : Agent) : Agent := { Agent.cold with mgmtPorts := a.mgmtPorts }

/-- A port unit (R140): the frame in reception discarded, counters 0, link state kept. -/
def PortUnit.restarted (u : PortUnit) : PortUnit := PortUnit.cold u.link

/-- An egress unit (R151, Table 9-3): queues flushed; a frame on the wire goes on; WAITING becomes IDLE. -/
def Egress.restarted (e : Egress) : Egress :=
  { cyclic := [], mgmt := [], background := []
    transmitter := match e.transmitter with
      | .waiting => .idle
      | .down => .down
      | .idle => .idle
      | .sending t => .sending t
    selectDue := false }

/-- The timer (R69): as a TIMER-STOP, with the mark-fault count 0. -/
def Timer.restarted (t : Timer) : Timer := { t.stop with faultCount := 0 }

/-- A listener record (R164): missed and lapse count 0, the rest kept. -/
def Listener.restarted (l : Listener) : Listener := { l with missed := 0, lapse := 0 }

/-- The event unit (R164): flags clear, queue empty, enables and listeners kept. -/
def EventUnit.restarted (e : EventUnit) : EventUnit :=
  { e with flags := 0#16, queue := [], listeners := mapTable e.listeners Listener.restarted }

/-- The quench unit (R107): RESTART added, QF and QS set, QUENCHED, no wait; causes and live settings kept. -/
def Quench.restarted (q : Quench) : Quench := q.withCause .restart

/-- The staging controller (R126): no pending record, no fault record. -/
def Staging.restarted (g : Staging) : Staging :=
  { g with
    commit := none, fault := none
    state := match g.state with | .pending => .ready | .ready => .ready | .restaging => .restaging }

/-- Every block at its warm-restart values, before the restart's own occurrences. -/
def State.restartBlocks (s : State) : State :=
  ({ s with
      ports := s.ports.map PortUnit.restarted
      egress := s.egress.map Egress.restarted
      timer := s.timer.restarted
      streams := mapTable s.active.streams StreamRun.restarted
      staging := s.staging.restarted
      quench := s.quench.restarted
      events := s.events.restarted
      agent := s.agent.restarted } : State)

/-- COMMIT with detail WITHDRAWN and reason RESTART, where a commit was pending (R126). -/
def State.restartCommit (s : State) : State := s.raise (occCommit 0x0204#16)

/-- QUENCH-ON with detail RESTART, where QS was clear (R107). -/
def State.restartQuenchOn (s : State) : State := s.raise (occQuenchOn .restart)

/-- The warm restart takes effect (R178): every block's effects, then the restage, then the occurrences
the restart raises, on the event unit as it stands after its own effects; two of them in a free
order (log 14). -/
def State.warmRestart (s : State) : State :=
  let s1 := (s.restartBlocks.beginRestage .restart).releaseFrames
  let s2 :=
    match s.staging.commit.isSome, s.quench.qs with
    | true, false => inEitherOrder true State.restartCommit State.restartQuenchOn s1
    | true, true => s1.restartCommit
    | false, false => s1.restartQuenchOn
    | false, true => s1
  s2

/-- A restart whose response met an outcome other than completed takes effect at that outcome when 1 ms
has passed since the offer (R177), behind the occurrences that the outcome raised (log 38). After an
earlier outcome too, the first occurrence of the 1 ms moment that can bring one settles it (log 45). -/
def State.settleRestart (s : State) : State :=
  match s.agent.restartWait with
  | some w => if w.failed && decide (w.deadline ≤ s.base) then s.warmRestart else s
  | none => s

end Sys2Proof.Machine
end

