-- ==== Sys2Proof/Machine/AgentUnit.lean ====
section
/-! DEFINITION. The management agent's shared operations: the steps of R167, the reply cache (R168), the
ownership check (R170), responses (section 12.4), and the results that several requests carry. -/

namespace Sys2Proof.Machine

/-! ### Responses -/

/-- What a request ends in: its status, its result, and the state its effect leaves. -/
structure Reply where
  status : Status
  result : List Byte
  after : State

/-- The response frame (R167, R182, section 12.4). -/
def State.responseFrame (s : State) (dest : StationAddr) (code : Half) (tag : Half) (status : Status)
    (result : List Byte) : List Byte :=
  s.gateFrame dest 3
    (be16 code ++ be16 tag ++ [statusByte status] ++ be16 (BitVec.ofNat 16 result.length) ++ result)

/-- OK, with a result. -/
def Reply.ok (s : State) (result : List Byte) : Reply := { status := .ok, result := result, after := s }

/-- A refusal: a status other than OK, with a result, and nothing changed. -/
def Reply.refuse (s : State) (status : Status) (result : List Byte) : Reply :=
  { status := status, result := result, after := s }

/-- The free bytes of one response are spent (log 8). -/
def State.spendDraws (s : State) : State := s.draw 64

/-! ### The reply cache (R168) -/

/-- The entry whose address and tag match a request. -/
def State.cacheHit (s : State) (r : Request) : Option CacheEntry :=
  s.agent.cache.find? (fun e => decide (e.addr = r.source) && decide (e.tag = r.tag))

/-- A response stored: it replaces the entry of the same address, fills an empty place, or replaces the
least recently used entry. -/
def storeReply (cache : List CacheEntry) (e : CacheEntry) : List CacheEntry :=
  (e :: cache.filter (fun x => decide (x.addr ≠ e.addr))).take 4

/-- An entry that answers becomes the most recently used. -/
def touchReply (cache : List CacheEntry) (e : CacheEntry) : List CacheEntry :=
  e :: cache.filter (fun x => decide (x.addr ≠ e.addr))

/-! ### Ownership (R170) -/

/-- The request's source and token are the record's. -/
def State.ownsGate (s : State) (r : Request) : Bool :=
  match s.agent.owner with
  | some o => decide (o.holder = r.source) && decide (o.token = r.token)
  | none => false

/-! ### The steps of R167 -/

/-- The end of an execution that reached step 3: the response is stored and offered. -/
def State.conclude (s : State) (r : Request) (status : Status) (result : List Byte)
    (isRestart : Bool) : State :=
  let frame := s.responseFrame r.source (halfAt r.body 0) r.tag status result
  ((s.setAgent { s.agent with
      cache := storeReply s.agent.cache { addr := r.source, tag := r.tag, response := frame } }).offerResponse
    r.port frame isRestart).spendDraws

/-- Step 1 fails: MALFORMED with code 0 and tag 0, not cached (R167, R180). -/
def State.answerUnreadable (s : State) (r : Request) : State :=
  s.offerResponse r.port (s.responseFrame r.source 0#16 0#16 .malformed []) false

/-- Step 2 answers from the cache (R168). -/
def State.answerFromCache (s : State) (r : Request) (e : CacheEntry) : State :=
  (s.setAgent { s.agent with
      cache := touchReply s.agent.cache e
      cacheAnswers := s.agent.cacheAnswers + 1#32 }).offerResponse r.port e.response false

/-- A row of the request table: whether it needs ownership, the form of its arguments, its ranges, its
effect (Table 11-1, Table 12-3). -/
structure RequestRow where
  command : Instr
  needsOwner : Bool
  form : List Byte → Bool
  ranges : Request → Bool
  effect : Request → State → Reply
  isRestart : Bool

/-- The body check (R180): the payload length does not exceed the frame, the request header is there, and
the arguments have the row's form. -/
def RequestRow.bodyOk (row : RequestRow) (r : Request) : Bool :=
  !r.overrun && decide (8 ≤ r.body.length) && row.form r.args

/-- Steps 4 to 7 of R167. MALFORMED and RANGE carry no result (R180, R181), nor does NOT-OWNER (R170); the
result that a request's rule names for its refusal comes with a refusal by its block, at step 7 (log 39). -/
def RequestRow.judge (row : RequestRow) (r : Request) (s : State) : State :=
  if !row.bodyOk r then s.conclude r .malformed [] false
  else if row.needsOwner && !s.ownsGate r then s.conclude r .notOwner [] false
  else if !row.ranges r then s.conclude r .range [] false
  else
    (row.effect r s).after.conclude r (row.effect r s).status (row.effect r s).result
      (row.isRestart && decide ((row.effect r s).status = .ok))

/-- The request has left the intake queue (R167). -/
def State.tookRequest (s : State) (rest : List Request) : State :=
  s.setAgent { s.agent with intake := rest }

/-- An execution has reached step 3 (R167): counted there, so that a READ-STATUS reads itself counted (log
44). -/
def State.countExecuted (s : State) : State :=
  s.setAgent { s.agent with executed := s.agent.executed + 1#32 }

/-- The agent executes the request at the head of its intake queue when it is one of the row of a command
and no restart wait is present (R167, R177); otherwise this occurrence does not take place (log 2).
Steps 1 and 2 stand here; what follows from step 3 on is the row's. -/
def State.agentExecutes (s : State) (command : Instr) (fromStep3 : Request → State → State) : State :=
  match s.agent.restartWait, s.agent.intake with
  | none, r :: rest =>
    if r.command = command then
      if r.body.length < 4 then (s.tookRequest rest).answerUnreadable r
      else
        match (s.tookRequest rest).cacheHit r with
        | some e => (s.tookRequest rest).answerFromCache r e
        | none => fromStep3 r (s.tookRequest rest).countExecuted
    else s
  | none, [] => s
  | some _, _ => s

/-- The agent executes a request of a row of the request table. -/
def RequestRow.execute (row : RequestRow) (s : State) : State :=
  s.agentExecutes row.command row.judge

/-! ### Results that several requests carry (Table 12-7) -/

/-- QUENCH and CLEAR-QUENCH: cause set, QF, QS, unit state, release wait. -/
def State.quenchResult (s : State) : List Byte :=
  [causeMask s.quench.causes, yesNo s.quench.qf, yesNo s.quench.qs, quenchStateByte s.quench.unit,
   waitByte s.quench.wait]

/-- HOLD-STREAM and RELEASE-STREAM: stream, state, position, hold cause (R16). -/
def State.holdResult (s : State) (i : StreamIx) : List Byte :=
  [BitVec.ofNat 8 i.val, streamStateByte s.streams[i].state, BitVec.ofNat 8 s.streams[i].position,
   holdCauseByte s.streams[i].holdCause]

/-- TIMER-START and TIMER-STOP: state, counter, cycle count. -/
def State.timerResult (s : State) : List Byte :=
  [timerStateByte s.timer.state] ++ be32 (BitVec.ofNat 32 s.timer.counter) ++ be32 s.timer.cycleCount

/-- The holder's address and the remaining lease in milliseconds (R169). -/
def State.holderBytes (s : State) (o : Owner) : List Byte :=
  be48 o.holder ++ be16 (BitVec.ofNat 16 (s.remainingLease o))

/-- Holder present, holder, remaining lease; the values of an absent holder are not given (log 8). -/
def State.ownerResult (s : State) : List Byte :=
  match s.agent.owner with
  | some o => [1#8] ++ s.holderBytes o
  | none => [0#8] ++ s.unstatedBytes 14 8

/-- Pending target, N: N is given for an AT target only (Table 12-8, log 8). -/
def State.targetBytes (s : State) : List Byte :=
  match s.staging.commit with
  | some c =>
    match c.target with
    | .nextStart => [0#8] ++ s.unstatedBytes 0 4
    | .atCycle n => [1#8] ++ be32 n
  | none => [0xFF#8] ++ s.unstatedBytes 0 4

/-- A stream index of the table from an argument byte. -/
def streamArg (n : Nat) : Option StreamIx := readIndex 128 n

end Sys2Proof.Machine
end

