-- ==== Sys2Proof/Machine/Commits.lean ====
section
/-! DEFINITION. COMMIT_NEXT, COMMIT_AT (R115 to R117) and WITHDRAW (R124). -/

namespace Sys2Proof.Machine

/-- The result of a COMMIT answered OK (Table 12-7): the state, the target and the cycle count. -/
def State.commitResult (s : State) : List Byte :=
  [stagingStateByte s.staging.state] ++ s.targetBytes ++ be32 s.timer.cycleCount

/-- The result of a COMMIT refused LATE: READY, no target, N 0, the cycle count at execution. -/
def State.lateResult (s : State) : List Byte := [0#8, 0xFF#8] ++ be32 0#32 ++ be32 s.timer.cycleCount

/-- A pending commit record is made (R117). A guard reading may change (R148). -/
def State.makePending (s : State) (t : CommitTarget) : State :=
  (s.setStaging { s.staging with
    state := .pending
    commit := some
      { target := t, owner := s.agent.owner.map (fun o => o.holder)
        requestedAt := s.timer.cycleCount } }).callSelections

/-- The cycle number N lies 1 to 2^31 cycles ahead of the cycle count (R117). -/
def State.targetAhead (s : State) (n : Word) : Bool :=
  let d := (n - s.timer.cycleCount).toNat
  decide (1 ≤ d ∧ d ≤ 2 ^ 31)

/-- A valid set is committed (R117): applied at once while the timer is not RUNNING, else pending, or LATE. -/
def State.commitValid (s : State) (t : CommitTarget) : Reply :=
  if s.running then
    match t with
    | .nextStart => .ok (s.makePending t) (s.makePending t).commitResult
    | .atCycle n =>
      if s.targetAhead n then .ok (s.makePending t) (s.makePending t).commitResult
      else .refuse s .late s.lateResult
  else .ok s.applyCommit s.applyCommit.commitResult

/-- Validation has failed: the fault record is set and carried (R115, R116). -/
def State.commitInvalid (s : State) (f : FaultRecord) : Reply :=
  { status := .invalid, result := faultBytes (some f)
    after := s.setStaging { s.staging with fault := some f } }

/-- The effect of COMMIT by staging state (R117). -/
def State.commitEffect (s : State) (t : CommitTarget) : Reply :=
  match s.staging.state with
  | .pending => .refuse s .pending []
  | .restaging => .refuse s .busy []
  | .ready =>
    match validate s.staged with
    | some f => s.commitInvalid f
    | none => s.commitValid t

/-- The row of COMMIT with target NEXT; the cycle number carried is not examined. -/
def commitNextRow : RequestRow :=
  { command := .commitNext, needsOwner := true, form := formBytes 5
    ranges := fun r => decide (r.arg 0 ≤ 1)
    effect := fun _ s => s.commitEffect .nextStart, isRestart := false }

/-- COMMIT_NEXT (R117). -/
def execCommitNext (s : State) : Result := .next (commitNextRow.execute s)

/-- The row of COMMIT with target AT; a target value above 1 is RANGE. -/
def commitAtRow : RequestRow :=
  { command := .commitAt, needsOwner := true, form := formBytes 5
    ranges := fun r => decide (r.arg 0 ≤ 1)
    effect := fun r s => s.commitEffect (.atCycle (wordAt r.args 1)), isRestart := false }

/-- COMMIT_AT (R117). -/
def execCommitAt (s : State) : Result := .next (commitAtRow.execute s)

/-- The effect of WITHDRAW: taken in PENDING, else refused STATE; the result is the staging state. -/
def withdrawEffect (_ : Request) (s : State) : Reply :=
  match s.staging.state with
  | .pending => .ok (s.withdrawCommit 0x0201#16) [stagingStateByte .ready]
  | .ready => .refuse s .state [stagingStateByte .ready]
  | .restaging => .refuse s .state [stagingStateByte .restaging]

/-- The row of WITHDRAW. -/
def withdrawRow : RequestRow :=
  { command := .withdraw, needsOwner := true, form := formBytes 0, ranges := fun _ => true
    effect := withdrawEffect, isRestart := false }

/-- WITHDRAW (R124). -/
def execWithdraw (s : State) : Result := .next (withdrawRow.execute s)

end Sys2Proof.Machine
end

