-- ==== Sys2Proof/Machine/EventRequests.lean ====
section
/-! DEFINITION. SET_LISTENER (R157), SET_NOTIFY (R156), CLEAR_FLAGS (R154), RAISE_FLAG (R155),
ACK_NOTIFY (R162). -/

namespace Sys2Proof.Machine

/-- The listener of a request's first argument byte. -/
def namedListener (n : Nat) : Option ListenerIx := readIndex 4 n

/-! ### SET-LISTENER -/

/-- The five new values of a listener record. -/
structure ListenerValues where
  listener : ListenerIx
  enabled : Bool
  addr : StationAddr
  port : Port
  retryInterval : Nat
  retryLimit : Nat
  deriving DecidableEq, Repr

/-- A unicast address: the group bit of its first byte is clear (Table 10-2; log 22). -/
def isUnicast (a : StationAddr) : Bool := !a.getLsbD 40

/-- The values that a SET-LISTENER carries, each within its range (Table 10-2). -/
def carriedListener (r : Request) : Option ListenerValues := do
  let listener ← namedListener (r.arg 0)
  let enabled ← readYesNo (byteAt r.args 1)
  let _ ← if isUnicast (addrAt r.args 2) then some () else none
  let port ← readPort (byteAt r.args 8)
  let retryInterval ← readRange 1 255 (r.arg 9)
  let retryLimit ← readRange 0 7 (r.arg 10)
  return { listener, enabled, addr := addrAt r.args 2, port, retryInterval, retryLimit }

/-- The five fields replaced and the listener's records removed (R157). -/
def State.setListener (s : State) (v : ListenerValues) : State :=
  s.setEvents
    { s.events.updateListener v.listener (fun l => { l with
        enabled := v.enabled, addr := v.addr, port := v.port
        retryInterval := v.retryInterval, retryLimit := v.retryLimit }) with
      queue := s.events.queue.filter (fun n => decide (n.listener ≠ v.listener)) }

/-- The number of records of a listener. -/
def State.recordsOf (s : State) (l : ListenerIx) : Nat :=
  (s.events.queue.filter (fun n => decide (n.listener = l))).length

/-- The effect of SET-LISTENER. -/
def setListenerEffect (r : Request) (s : State) : Reply :=
  match carriedListener r with
  | some v => .ok (s.setListener v) [BitVec.ofNat 8 (s.recordsOf v.listener)]
  | none => .refuse s .range []

/-- The row of SET-LISTENER. -/
def setListenerRow : RequestRow :=
  { command := .setListener, needsOwner := true, form := formBytes 11
    ranges := fun r => (carriedListener r).isSome, effect := setListenerEffect, isRestart := false }

/-- SET_LISTENER (R157). -/
def execSetListener (s : State) : Result := .next (setListenerRow.execute s)

/-! ### SET-NOTIFY -/

/-- The classes of a list of class numbers that starts at a place. -/
def namedClasses (r : Request) (place count : Nat) : Option (List EventClass) :=
  readAll readClass ((r.args.drop place).take count)

/-- The ranges of SET-NOTIFY. -/
def setNotifyRanges (r : Request) : Bool :=
  decide (r.arg 0 ≤ 1) && decide (r.arg 1 < 4) && (namedClasses r 3 (r.arg 2)).isSome

/-- Enable and listener of every named class replaced (R156). -/
def State.setNotify (s : State) (x : ClassSetting) (cs : List EventClass) : State :=
  s.setEvents { s.events with
    classes := cs.foldl (fun v c => v.set c.number x) s.events.classes }

/-- The effect of SET-NOTIFY. -/
def setNotifyEffect (r : Request) (s : State) : Reply :=
  match namedListener (r.arg 1), namedClasses r 3 (r.arg 2) with
  | some l, some cs => .ok (s.setNotify { enabled := decide (r.arg 0 = 1), listener := l } cs) []
  | some _, none => .refuse s .range []
  | none, _ => .refuse s .range []

/-- The row of SET-NOTIFY. -/
def setNotifyRow : RequestRow :=
  { command := .setNotify, needsOwner := true, form := formCounted 3 2 1, ranges := setNotifyRanges
    effect := setNotifyEffect, isRestart := false }

/-- SET_NOTIFY (R156). -/
def execSetNotify (s : State) : Result := .next (setNotifyRow.execute s)

/-! ### CLEAR-FLAGS -/

/-- Flags with the flag of one class clear. -/
def clearFlag (flags : BitVec 16) (c : EventClass) : BitVec 16 := flags &&& ~~~ (1#16 <<< c.number.val)

/-- The flags of a list of classes cleared (R154). -/
def State.clearFlags (s : State) (cs : List EventClass) : State :=
  s.setEvents { s.events with flags := cs.foldl clearFlag s.events.flags }

/-- The effect of CLEAR-FLAGS: the result is all sixteen flags after execution. -/
def clearFlagsEffect (r : Request) (s : State) : Reply :=
  match namedClasses r 1 (r.arg 0) with
  | some cs => .ok (s.clearFlags cs) (be16 (s.clearFlags cs).events.flags)
  | none => .refuse s .range []

/-- The row of CLEAR-FLAGS. -/
def clearFlagsRow : RequestRow :=
  { command := .clearFlags, needsOwner := true, form := formCounted 1 0 1
    ranges := fun r => (namedClasses r 1 (r.arg 0)).isSome, effect := clearFlagsEffect
    isRestart := false }

/-- CLEAR_FLAGS (R154). -/
def execClearFlags (s : State) : Result := .next (clearFlagsRow.execute s)

/-! ### RAISE-FLAG -/

/-- What becomes of a TEST occurrence of a class, and the sequence number it uses (Table 12-7). A class that is
not enabled answers so whatever its listener (log 42). -/
def State.testOutcome (s : State) (c : EventClass) : Byte × Half :=
  let x := s.events.classes[c.number]
  if !x.enabled then (2#8, 0#16)
  else if !s.events.listeners[x.listener].enabled then (3#8, 0#16)
  else if s.events.queue.length < 32 then (0#8, s.events.listeners[x.listener].nextSeq)
  else (1#8, 0#16)

/-- A TEST occurrence taken and reported (R155). -/
def State.raiseTest (s : State) (c : EventClass) : Reply :=
  .ok (s.raise (occTest c))
    ([(s.testOutcome c).1] ++ be16 (s.testOutcome c).2 ++ be16 (s.raise (occTest c)).events.flags)

/-- The effect of RAISE-FLAG. -/
def raiseFlagEffect (r : Request) (s : State) : Reply :=
  match readClass (byteAt r.args 0) with
  | some c => s.raiseTest c
  | none => .refuse s .range []

/-- The row of RAISE-FLAG. -/
def raiseFlagRow : RequestRow :=
  { command := .raiseFlag, needsOwner := true, form := formBytes 1
    ranges := fun r => (readClass (byteAt r.args 0)).isSome, effect := raiseFlagEffect
    isRestart := false }

/-- RAISE_FLAG (R155). -/
def execRaiseFlag (s : State) : Result := .next (raiseFlagRow.execute s)

/-! ### ACK-NOTIFY -/

/-- An AWAITING record of a listener at or before a sequence number S: (S − q) modulo 65,536 lies in
0..32,767. Resend-due records are AWAITING (R162). -/
def acknowledged (l : ListenerIx) (upTo : Half) (n : NotifRecord) : Bool :=
  decide (n.listener = l) && !n.isUnsent && decide ((upTo - n.seq).toNat ≤ 32767)

/-- The acknowledged records removed (R162). -/
def State.acknowledge (s : State) (l : ListenerIx) (upTo : Half) : State :=
  s.setEvents { s.events with queue := s.events.queue.filter (fun n => !acknowledged l upTo n) }

/-- The effect of ACK-NOTIFY: the address is compared first, then the enabled field (R162). -/
def ackNotifyEffect (r : Request) (s : State) : Reply :=
  match namedListener (r.arg 0) with
  | some l =>
    if r.source ≠ s.events.listeners[l].addr then .refuse s .notOwner []
    else if !s.events.listeners[l].enabled then .refuse s .state []
    else
      .ok (s.acknowledge l (halfAt r.args 1))
        [BitVec.ofNat 8 (s.events.queue.filter (acknowledged l (halfAt r.args 1))).length]
  | none => .refuse s .range []

/-- The row of ACK-NOTIFY. -/
def ackNotifyRow : RequestRow :=
  { command := .ackNotify, needsOwner := false, form := formBytes 3
    ranges := fun r => decide (r.arg 0 < 4), effect := ackNotifyEffect, isRestart := false }

/-- ACK_NOTIFY (R162). -/
def execAckNotify (s : State) : Result := .next (ackNotifyRow.execute s)

end Sys2Proof.Machine
end

