-- ==== Sys2Proof/Machine/Emitter.lean ====
section
/-! DEFINITION. The substitute emitter (R81 to R83) and the arbiter's shared operations: selection (R146),
quench at transmit start (R103), completion (R145), flush and abandonment (R150). -/

namespace Sys2Proof.Machine

/-! ### Substitutes (R81) -/

/-- A template with the fields of Table 5-2 written at their places: the SUB flag and phase code in frame
byte 15, the stream tag in bytes 16–17, the cycle tag in bytes 20–21. -/
def patchTemplate (image : List Byte) (tag : Half) (phase : Phase) (cycleTag : Half) : List Byte :=
  ((((image.set 15 (0x80#8 ||| (byteAt image 15 &&& 0x70#8) ||| phase.setWidth 8)).set 16
    (tag.extractLsb' 8 8)).set 17 (tag.extractLsb' 0 8)).set 20 (cycleTag.extractLsb' 8 8)).set 21
      (cycleTag.extractLsb' 0 8)

/-- The substitute of a stream with a captured phase, built from the active set as it stands; none when
the template index is none or names an absent template (R81, R83). -/
def State.substituteFrame (s : State) (i : StreamIx) (phase : Phase) : Option (List Byte) :=
  match (s.streamRec i).template with
  | none => none
  | some t =>
    match s.active.templates[t] with
    | none => none
    | some image =>
      some (withFcs
        (patchTemplate image (s.streamRec i).tag phase (s.timer.cycleCount.setWidth 16)))

/-! ### Transmit starts (R103, R145, R146) -/

/-- The port begins to send a frame (R145). -/
def State.beginSending (s : State) (p : Port) (sent : Sent) (frame : List Byte)
    (startedRunning : Option Bool) : State :=
  s.updateEgress p (fun e => { e with
    transmitter := .sending
      { sent := sent, frame := frame, remaining := wireTime frame.length,
        startedRunning := startedRunning } })

/-- QS is set and the port belongs to the quench egress set of the active set (R103). -/
def State.quenchedPort (s : State) (p : Port) : Bool :=
  s.quench.qs && PortSet.has s.active.settings.quenchEgress p

/-- A substitute starts, or is suppressed and counted; the flag says whether a frame started (R83). -/
def State.startSubstitute (s : State) (p : Port) (i : StreamIx) (phase : Phase) : State × Bool :=
  match s.substituteFrame i phase with
  | some frame => (s.beginSending p (.substitute i) frame none, true)
  | none => (s.countStream i (fun c => { c with suppressed := c.suppressed + 1#32 }), false)

/-- The transmit start of a cyclic entry that has left its queue (Table 6-6). -/
def State.startCyclic (s : State) (p : Port) (e : CyclicEntry) : State × Bool :=
  match e with
  | .real i phase ref =>
    if s.quenchedPort p then s.startSubstitute p i phase
    else (s.beginSending p (.real ref) (s.frameBytes ref) none, true)
  | .substitute i phase => s.startSubstitute p i phase
  | .mark ref => (s.beginSending p (.mark ref) (s.frameBytes ref) none, true)

/-- The frame of a management entry. -/
def MgmtEntry.frame : MgmtEntry → List Byte
  | .response f _ => f
  | .notification f => f

/-- What a management entry is on the wire. -/
def MgmtEntry.sent : MgmtEntry → Sent
  | .response _ isRestart => .response isRestart
  | .notification _ => .notification

/-- The transmit start of a management entry that has left its queue. -/
def State.startMgmt (s : State) (p : Port) (e : MgmtEntry) : State :=
  s.beginSending p e.sent e.frame (some s.running)

/-- The transmit start of a background entry that has left its queue: discarded and counted on a quenched
port (R104). -/
def State.startBackground (s : State) (p : Port) (ref : Nat) : State × Bool :=
  if s.quenchedPort p then
    (s.countPort p (fun c => { c with quenchDiscards := c.quenchDiscards + 1#32 }), false)
  else (s.beginSending p (.background ref) (s.frameBytes ref) (some s.running), true)

/-- A selection that finds nothing eligible: WAITING, or IDLE when all queues are empty (R146). -/
def State.rest (s : State) (p : Port) : State :=
  s.updateEgress p (fun e => { e with
    transmitter :=
      if e.cyclic.isEmpty && e.mgmt.isEmpty && e.background.isEmpty then .idle else .waiting })

/-- The selection of the management queue's head, or rest (R146 cases 2 and 4). -/
def State.selectMgmt (s : State) (p : Port) : Option State :=
  match (s.egress.get p).mgmt with
  | m :: rest =>
    if s.fits p (wireTime m.frame.length) then
      some ((s.updateEgress p (fun e => { e with mgmt := rest })).startMgmt p m)
    else none
  | [] => none

/-- The background queue's head when it fits (R146 case 3). -/
def State.fittingBackground (s : State) (p : Port) : Option (Nat × List Nat) :=
  match (s.egress.get p).background with
  | ref :: rest => if s.fits p (wireTime (s.frameBytes ref).length) then some (ref, rest) else none
  | [] => none

/-- The arbiter selects (R146): a suppressed or discarded entry starts nothing and the arbiter selects
again. Every round but the last takes an entry out of a queue, which bounds the rounds. -/
def State.selectRounds (p : Port) : Nat → State → State
  | 0, s => s.rest p
  | n + 1, s =>
    match (s.egress.get p).cyclic with
    | c :: rest =>
      let out := (s.updateEgress p (fun e => { e with cyclic := rest })).startCyclic p c
      if out.2 then out.1 else State.selectRounds p n out.1
    | [] =>
      match s.selectMgmt p with
      | some t => t
      | none =>
        match s.fittingBackground p with
        | some (ref, rest) =>
          let out := (s.updateEgress p (fun e => { e with background := rest })).startBackground p ref
          if out.2 then out.1 else State.selectRounds p n out.1
        | none => s.rest p

/-- The arbiter of a port is free to select and called to (R146, R148). -/
def Egress.maySelect (e : Egress) : Bool :=
  e.selectDue &&
    match e.transmitter with
    | .idle => true
    | .waiting => true
    | .down => false
    | .sending _ => false

/-- One whole selection of a port's arbiter. -/
def State.select (s : State) (p : Port) : State :=
  State.selectRounds p
    ((s.egress.get p).cyclic.length + (s.egress.get p).background.length + 1)
    (s.updateEgress p (fun e => { e with selectDue := false }))

/-! ### Completion (R145) -/

/-- What a completion does for the frame that was on the wire: a substitute is counted on its stream
(R89), a RESTART response brings the warm restart (R177). -/
def State.completeSent (s : State) (x : Sent) : State :=
  match x with
  | .substitute i => s.countStream i (fun c => { c with substitutesSent := c.substitutesSent + 1#32 })
  | .response isRestart => if isRestart then s.warmRestart else s
  | .real _ => s
  | .mark _ => s
  | .background _ => s
  | .notification => s

/-- A transmission completes: counted, the transmitter free, the arbiter called to select again; until it
does the transmitter reads IDLE (log 37). -/
def State.completeTransmission (s : State) (p : Port) (t : Transmission) : State :=
  (((s.countPort p (fun c => { c with transmitted := c.transmitted + 1#32 })).updateEgress p
    (fun e => { e with transmitter := .idle, selectDue := true })).completeSent t.sent).releaseFrames

/-! ### Link down at the egress unit (R150) -/

/-- The RESTART response stands in a management queue. -/
def Egress.queuesRestart (e : Egress) : Bool :=
  e.mgmt.any (fun m =>
    match m with
    | .response _ isRestart => isRestart
    | .notification _ => false)

/-- The number of queued entries of an egress unit. -/
def Egress.queued (e : Egress) : Nat := e.cyclic.length + e.mgmt.length + e.background.length

/-- A frame is on the wire. -/
def Egress.isSending (e : Egress) : Bool :=
  match e.transmitter with
  | .sending _ => true
  | .down => false
  | .idle => false
  | .waiting => false

/-- The three queues are flushed and counted, a transmission is abandoned and counted, the transmitter
becomes DOWN; a RESTART response is handed over as flushed or abandoned (R150, R177). -/
def State.flushDown (s : State) (p : Port) : State :=
  let e := s.egress.get p
  let s1 := s.countPort p (fun c => { c with
    linkFlushDrops := c.linkFlushDrops + BitVec.ofNat 32 e.queued
    abandoned := if e.isSending then c.abandoned + 1#32 else c.abandoned })
  let s2 := if e.queuesRestart || e.sendsRestart then s1.restartFailed else s1
  s2.updateEgress p (fun x => { x with
    cyclic := [], mgmt := [], background := [], transmitter := .down, selectDue := false })

end Sys2Proof.Machine
end

