-- ==== Sys2Proof/Machine/Classifier.lean ====
section
/-! DEFINITION. Reception and classification: the checks of R131, the rows of Table 8-3 (R134 to R138),
the tag lookup (R7), admission (R52 to R57), the agent's intake (R166). -/

namespace Sys2Proof.Machine

/-! ### Tag lookup and admission -/

/-- The enabled stream of the active set that carries a tag (R7). -/
def State.lookupTag (s : State) (tag : Half) : Option StreamIx :=
  allStreams.find? (fun i => (s.streamRec i).enabled && decide ((s.streamRec i).tag = tag))

/-- The window of a stream (R54). -/
def State.streamWindow (s : State) (i : StreamIx) : WindowRec := s.active.windows[(s.streamRec i).window]

/-- Outcomes of admission (Table 3-2). -/
inductive Admission where
  | admitted
  | misplaced (code : Half)
  | surplus
  deriving DecidableEq, Repr

/-- The four checks of admission in order (R52 to R55, Table 3-2). -/
def State.admission (s : State) (i : StreamIx) (p : Port) (r : StartRecord) : Admission :=
  if !s.running || !r.unbroken then .misplaced 1#16
  else if r.cycle ≠ s.timer.cycleCount then .misplaced 2#16
  else if p ≠ (s.streamWindow i).port then .misplaced 3#16
  else if r.offset < (s.streamWindow i).openOff ∨ (s.streamWindow i).closeOff ≤ r.offset then
    .misplaced 4#16
  else if s.streams[i].admittedCount = (s.streamRec i).framesPerCycle then .surplus
  else .admitted

/-- The runtime record after a frame is admitted (R56). -/
def StreamRun.admit1 (r : StreamRun) : StreamRun :=
  { r with counters := { r.counters with admitted := r.counters.admitted + 1#32 }
           admittedCount := r.admittedCount + 1 }

/-- A stream data frame with a known tag: judged by admission, and handed to the stream table when
admitted (R52, R56, R57). -/
def State.streamFrame (s : State) (i : StreamIx) (p : Port) (r : StartRecord) (f : List Byte) : State :=
  match s.admission i p r with
  | .misplaced code =>
    (s.countStream i (fun c => { c with misplaced := c.misplaced + 1#32 })).raise
      (occMisplaced i p code)
  | .surplus =>
    (s.countStream i (fun c => { c with surplus := c.surplus + 1#32 })).raise
      (occSurplus i p (framePhase f))
  | .admitted =>
    ((s.updateStream i StreamRun.admit1).holdFrame p f).admittedFrame i p (framePhase f) s.nextFrame

/-- A frame of kind 0 (R137). -/
def State.streamData (s : State) (p : Port) (r : StartRecord) (f : List Byte) : State :=
  match s.lookupTag (frameTag f) with
  | some i => s.streamFrame i p r f
  | none =>
    (s.countPort p (fun c => { c with unknownTag := c.unknownTag + 1#32 })).raise
      (occUnknown p (frameTag f))

/-! ### Requests (R135, R166) -/

/-- The request code as FOREIGN's detail: 0xFFFF when the body holds none (Table 12-9); the body is that of
R180, so its length is read here (log 41). -/
def foreignCode (f : List Byte) : Half :=
  if (requestBody f).length < 2 then 0xFFFF#16 else halfAt (requestBody f) 0

/-- The intake queue takes a request while it holds fewer than 4, else discards and counts it (R166). -/
def State.intakeRequest (s : State) (r : Request) : State :=
  if s.agent.intake.length < 4 then
    s.setAgent { s.agent with intake := s.agent.intake ++ [r] }
  else s.setAgent { s.agent with intakeDiscards := s.agent.intakeDiscards + 1#32 }

/-- A management request (R135): accepted on a port of the management port set, else FOREIGN. -/
def State.managementRequest (s : State) (p : Port) (f : List Byte) : State :=
  if PortSet.has s.agent.mgmtPorts p then
    (s.countPort p (fun c => { c with requestsAccepted := c.requestsAccepted + 1#32 })).intakeRequest
      (requestOf p f)
  else
    (s.countPort p (fun c => { c with foreign := c.foreign + 1#32 })).raise
      (occForeign p (foreignCode f))

/-! ### Marks and background (R136, R78, R138) -/

/-- A cycle mark: counted, forwarded to the mark forward set, then handed to the timer (R78, R136). -/
def State.cycleMark (s : State) (p : Port) (r : StartRecord) (f : List Byte) : State :=
  let s1 := s.countPort p (fun c => { c with marks := c.marks + 1#32 })
  let s2 := (s1.holdFrame p f).offerCyclicTo (.mark s.nextFrame)
    (s.active.settings.markForward.portsWithout p)
  s2.timerTakesMark r f.length

/-- The ports a background frame goes to (R138). -/
def State.backgroundPorts (s : State) (p : Port) : List Port :=
  (s.active.settings.background.get p).portsWithout p

/-- A background frame (R138). -/
def State.backgroundFrame (s : State) (p : Port) (f : List Byte) : State :=
  let s1 := s.countPort p (fun c => { c with background := c.background + 1#32 })
  if (s.backgroundPorts p).isEmpty then
    s1.countPort p (fun c => { c with backgroundUnforwarded := c.backgroundUnforwarded + 1#32 })
  else
    (s.backgroundPorts p).foldl (fun t q => t.offerBackground s.nextFrame q) (s1.holdFrame p f)

/-! ### Classification (Table 8-3) -/

/-- The classes of a good frame. -/
inductive FrameClass where
  | malformed
  | request
  | mark
  | streamData
  | background
  deriving DecidableEq, Repr

/-- The first row of Table 8-3 that a good frame meets (R134). Rows 2 and 3 are one class, rows 5 and 6
another. The code of row 3 is read from the body of R180 (log 41). -/
def State.classify (s : State) (p : Port) (f : List Byte) : FrameClass :=
  if isGateFrame f then
    if frameVersion f ≠ 1 ∨ 4 < frameKind f then .malformed
    else if frameKind f = 2 ∧ frameDest f = s.stationAddr then .request
    else if frameKind f = 2 ∧ frameDest f = broadcast ∧ 2 ≤ (requestBody f).length ∧
        natAt (requestBody f) 0 2 = 0x0001 then .request
    else if frameKind f = 1 ∧ p = s.markPort then .mark
    else if frameKind f = 0 then .streamData
    else .background
  else .background

/-- A good frame takes its one path (R134). -/
def State.goodFrame (s : State) (p : Port) (r : StartRecord) (f : List Byte) : State :=
  match s.classify p f with
  | .malformed => s.countPort p (fun c => { c with malformed := c.malformed + 1#32 })
  | .request => s.managementRequest p f
  | .mark => s.cycleMark p r f
  | .streamData => s.streamData p r f
  | .background => s.backgroundFrame p f

/-- The checks of a frame at its arrival (R131): runt, giant, FCS error, or a good frame. -/
def State.receiveFrame (s : State) (p : Port) (r : StartRecord) (f : List Byte) : State :=
  if f.length < 64 then s.countPort p (fun c => { c with runts := c.runts + 1#32 })
  else if 1522 < f.length then s.countPort p (fun c => { c with giants := c.giants + 1#32 })
  else if !fcsMatches f then s.countPort p (fun c => { c with fcsErrors := c.fcsErrors + 1#32 })
  else (s.countPort p (fun c => { c with good := c.good + 1#32 })).goodFrame p r f

/-- The frame in reception of a port is gone. -/
def State.clearReception (s : State) (p : Port) : State :=
  s.updatePort p (fun u => { u with reception := none })

/-- A pending advance that has ended calls for selections (R148). -/
def State.noteAdvanceEnd (before after : State) : State :=
  if before.pendingAdvance = after.pendingAdvance then after else after.callSelections

end Sys2Proof.Machine
end

