-- ==== Sys2Proof/Machine/Wire.lean ====
section
/-! DEFINITION. The commands of the pins, the PHYs and the wire: COLD_RESET, QUENCH_LINE_ASSERTED,
QUENCH_LINE_DEASSERTED, LINK_UP, LINK_DOWN, START_OF_FRAME, FRAME_ARRIVAL. -/

namespace Sys2Proof.Machine

/-- COLD_RESET (R21, R106, R128, R132, R140, R151, R164, R179): every block at its cold-reset values, with
the straps, the link states and the level of QUENCH_N as they stand when the reset ends. The time base,
the model's own counters and the queue of commands are kept (log 6, log 7). -/
def State.coldReset (s : State) (strap : BitVec 4) (links : PerPort LinkState) (level : LineLevel) :
    State :=
  { s with
    strap := strap
    ports := links.map PortUnit.cold
    egress := links.map Egress.cold
    frames := []
    timer := .cold
    streams := Vector.replicate 128 .cold
    staging := .cold
    bankA := .cold
    bankB := .cold
    quench := .cold level
    events := .cold
    agent := .cold }

/-- COLD_RESET. -/
def execColdReset (strap : BitVec 4) (links : PerPort LinkState) (level : LineLevel) (s : State) :
    Result :=
  .next (s.coldReset strap links level)

/-- QUENCH_LINE_ASSERTED (R93): the pin is low; after two ticks the line becomes asserted, and LINE is added
while line enable is on. -/
def execQuenchLineAsserted (s : State) : Result := .next (s.pinAt .asserted)

/-- QUENCH_LINE_DEASSERTED (R93, R94): the pin is high; after two ticks the line becomes deasserted, and LINE
goes in AUTO and stays in LATCHED. -/
def execQuenchLineDeasserted (s : State) : Result := .next (s.pinAt .deasserted)

/-- The link state of a port changes (R128). -/
def State.setLink (s : State) (p : Port) (l : LinkState) : State :=
  s.updatePort p (fun u => { u with link := l })

/-- A change to UP (R128, R151): the transmitter becomes IDLE and LINK is raised with detail UP. -/
def State.linkUp (s : State) (p : Port) : State :=
  ((s.setLink p .up).updateEgress p (fun e => { e with transmitter := .idle })).raise (occLink p .up)

/-- LINK_UP (R128). A report that repeats the state already held changes nothing. -/
def execLinkUp (p : Port) (s : State) : Result :=
  .next (match s.link p with | .up => s | .down => s.linkUp p)

/-- The frame in reception of a port discarded by link down, counted (R129). -/
def State.abortReception (s : State) (p : Port) : State :=
  match (s.ports.get p).reception with
  | some _ =>
    (s.clearReception p).countPort p
      (fun c => { c with abortedReceptions := c.abortedReceptions + 1#32 })
  | none => s

/-- A change to DOWN (R129, R150): reception discarded, queues flushed, LINK raised with detail DOWN; then
the attribution intervals that the discarded frame held close (R75; LINK before MISSING: log 35); the end of
a pending advance (R76), and a restart whose response was flushed or abandoned after 1 ms (R177; LINK before
the warm restart: log 38). -/
def State.linkDown (s : State) (p : Port) : State :=
  let s1 := (((s.setLink p .down).abortReception p).flushDown p).raise (occLink p .down)
  let s2 := s.endHolds s1 p (s.ports.get p).reception
  ((State.noteAdvanceEnd s s2).settleRestart).releaseFrames

/-- LINK_DOWN (R129). A report that repeats the state already held changes nothing. -/
def execLinkDown (p : Port) (s : State) : Result :=
  .next (match s.link p with | .up => s.linkDown p | .down => s)

/-- The start record made at a start of frame (R51, R130). -/
def State.startRecord (s : State) : StartRecord :=
  { offset := s.timer.counter, cycle := s.timer.cycleCount, unbroken := s.running }

/-- A frame begins on a port (R130). -/
def State.beginReception (s : State) (p : Port) (frame : List Byte) : State :=
  s.updatePort p (fun u =>
    { u with reception := some (Reception.mk s.startRecord frame 0 false false) })

/-- The arrival of a frame (R131, R134): it leaves reception, is judged and takes its path; then the
attribution intervals that it held close (R75; the frame's own occurrences before MISSING: log 35); the end
of a pending advance (R76), the moment of a restart whose response was cut off (R177), and the release of a
frame nothing refers to (R32). -/
def State.frameArrives (s : State) (p : Port) (r : Reception) : State :=
  let s1 := (s.clearReception p).receiveFrame p r.start r.frame
  let s2 := s.endHolds s1 p (some r)
  ((State.noteAdvanceEnd s s2).settleRestart).releaseFrames

/-- START_OF_FRAME (R130). A frame on the port whose wire time has passed arrives before the next one begins
(R130); while one is still in reception none begins, and a port whose link is DOWN receives nothing
(R128; log 2). -/
def execStartOfFrame (p : Port) (frame : List Byte) (s : State) : Result :=
  .next
    (match s.link p, (s.ports.get p).reception with
     | .up, none => s.beginReception p frame
     | .up, some r =>
       if wireTime r.frame.length ≤ r.elapsed then (s.frameArrives p r).beginReception p frame else s
     | .down, _ => s)

/-- FRAME_ARRIVAL (R130, R131): taken one wire time after the start of frame, and not before. -/
def execFrameArrival (p : Port) (s : State) : Result :=
  .next
    (match (s.ports.get p).reception with
     | some r => if wireTime r.frame.length ≤ r.elapsed then s.frameArrives p r else s
     | none => s)

end Sys2Proof.Machine
end

