-- ==== Sys2Proof/Machine/Schedule.lean ====
section
/-! DEFINITION. The occurrences of the timer, the window schedule and the arbiters: CYCLE_START,
WINDOW_CLOSE, GUARD_OPEN, GUARD_CLOSE, ATTRIBUTION_INTERVAL_CLOSE, PENDING_ADVANCE_END, TRANSMIT_START,
TRANSMIT_COMPLETE. Each takes place when its moment has come and otherwise not (log 2). -/

namespace Sys2Proof.Machine

/-- CYCLE_START (R64): the period match, after every close of the ending cycle (R50). -/
def execCycleStart (s : State) : Result :=
  .next (if s.cycleStartDue then s.periodMatch.settleRestart else s)

/-- The close of a window of a kind is due: the timer is RUNNING, the window valid and of that kind, its
close offset reached and its close not yet taken in this cycle (R49, R60). -/
def State.closeDue (s : State) (k : WindowKind) (w : WindowIx) : Bool :=
  s.closeReached w && decide (s.active.windows[w].kind = k)

/-- WINDOW_CLOSE (R49): one close for each valid ADMIT window in each cycle. -/
def execWindowClose (w : Nat) (s : State) : Result :=
  .next
    (if h : w < 64 then
      if s.closeDue .admitting ⟨w, h⟩ then s.takeClose ⟨w, h⟩ else s
     else s)

/-- GUARD_OPEN (R149): the guard reading of a port has turned to guard open; a management or background
frame that started while RUNNING is cut off. A restart whose response this ends after 1 ms follows the
EGRESS-DROP (log 38). -/
def execGuardOpen (p : Port) (s : State) : Result :=
  .next (if s.cutDue p then (s.cutOff p).settleRestart else s)

/-- GUARD_CLOSE (R60): the port's egress unit is given a guard close and selects again. -/
def execGuardClose (w : Nat) (s : State) : Result :=
  .next
    (if h : w < 64 then
      if s.closeDue .guard ⟨w, h⟩ then s.takeClose ⟨w, h⟩ else s
     else s)

/-- ATTRIBUTION_INTERVAL_CLOSE (R75). -/
def execAttributionIntervalClose (s : State) : Result := .next s.closeIntervalIfOver

/-- A frame that but for its length is a candidate has passed 128 bytes and its pending advance has not
been ended yet (R76). -/
def State.advanceEndDue (s : State) : Bool :=
  match s.candidateStart with
  | some r => decide (128 < r.received) && !r.advanceEnded
  | none => false

/-- The pending advance ends: noted at the reception, and guard readings change (R76, R148). -/
def State.endAdvance (s : State) : State :=
  (s.updatePort s.markPort (fun u =>
    { u with reception := u.reception.map (fun r => { r with advanceEnded := true }) })).callSelections

/-- PENDING_ADVANCE_END (R76). -/
def execPendingAdvanceEnd (s : State) : Result :=
  .next (if s.advanceEndDue then s.endAdvance else s)

/-- TRANSMIT_START (R146): the arbiter selects, when it is free and called to. -/
def execTransmitStart (p : Port) (s : State) : Result :=
  .next (if (s.egress.get p).maySelect then (s.select p).releaseFrames else s)

/-- TRANSMIT_COMPLETE (R145): at the end of the frame's wire time. -/
def execTransmitComplete (p : Port) (s : State) : Result :=
  .next
    (match (s.egress.get p).transmitter with
     | .sending t => if t.remaining = 0 then s.completeTransmission p t else s
     | .down => s
     | .idle => s
     | .waiting => s)

end Sys2Proof.Machine
end

