-- ==== Sys2Proof/Machine/Expiries.lean ====
section
/-! DEFINITION. The occurrences of the event unit, the agent's lease, the restage and the restart wait:
NOTIFICATION_OFFER, RETRY_TIMER_EXPIRY, LEASE_EXPIRY, RESTAGE_COMPLETION, RESTART_WAIT_EXPIRY. -/

namespace Sys2Proof.Machine

/-- NOTIFICATION_OFFER (R160): the due records of a port's listeners are offered while room lasts. -/
def execNotificationOffer (p : Port) (s : State) : Result := .next (s.offerNotifications p)

/-- A record of a listener and sequence number whose retry timer has expired. The command names its record by
these two (DESIGN CHOICE, log 46); where several match, the oldest is taken. -/
def State.expiredRecord (s : State) (l : ListenerIx) (q : Half) (r : NotifRecord) : Bool :=
  decide (r.listener = l) && decide (r.seq = q) &&
    match r.state with
    | .awaiting t => decide (t ≤ s.base)
    | .unsent => false
    | .resendDue => false

/-- The first element that passes a test, changed. -/
def updateFirst {α : Type} (test : α → Bool) (f : α → α) : List α → List α
  | [] => []
  | x :: xs => if test x then f x :: xs else x :: updateFirst test f xs

/-- The record made resend-due, and offered where its port has room (R161). -/
def State.retryRecord (s : State) (l : ListenerIx) (q : Half) : State :=
  (s.setEvents { s.events with
    queue := updateFirst (s.expiredRecord l q) (fun r => { r with state := .resendDue })
      s.events.queue }).offerNotifications
        s.events.listeners[l].port

/-- The record removed, and the listener's lapse count raised (R161). -/
def State.lapseRecord (s : State) (l : ListenerIx) (q : Half) : State :=
  s.setEvents
    { s.events.updateListener l (fun x => { x with lapse := satInc x.lapse }) with
      queue := s.events.queue.eraseP (s.expiredRecord l q) }

/-- RETRY_TIMER_EXPIRY (R161): re-offered or resend-due while the send count is at or below the limit,
removed with a lapse above it. -/
def execRetryTimerExpiry (l : Fin 4) (q : Half) (s : State) : Result :=
  .next
    (match s.events.queue.find? (s.expiredRecord l q) with
     | some r =>
       if r.sendCount ≤ s.events.listeners[l].retryLimit then s.retryRecord l q
       else s.lapseRecord l q
     | none => s)

/-- The lease of an owner has run out: ownership emptied, LEASE raised, the expiry handed to the staging
controller (R171). -/
def State.leaseExpires (s : State) (o : Owner) : State :=
  ((s.setAgent { s.agent with owner := none }).raise occLease).stagingLeaseExpiry o.holder

/-- LEASE_EXPIRY (R171). -/
def execLeaseExpiry (s : State) : Result :=
  .next
    (match s.agent.owner with
     | some o => if o.expiry ≤ s.base then s.leaseExpires o else s
     | none => s)

/-- The restage in progress has reached its end (R123). -/
def State.restageDone (s : State) : Bool :=
  decide (s.staging.state = .restaging) &&
    match s.staging.restageEnd with
    | some t => decide (t ≤ s.base)
    | none => true

/-- The occurrence that ends a restage. -/
def State.raiseStageReady (s : State) : State :=
  match s.staging.reason with
  | some why => s.raise (occStageReady why)
  | none => s

/-- The completion of a restage (R123): the staged bank equals the active bank, READY, STAGE-READY with
the restage reason, which then becomes absent. -/
def State.completeRestage (s : State) : State :=
  let s1 := ((s.setStaged s.active).setStaging
    { s.staging with state := .ready, restageEnd := none }).raiseStageReady
  s1.setStaging { s1.staging with reason := none }

/-- RESTAGE_COMPLETION (R123): 400 µs after the restage began. -/
def execRestageCompletion (s : State) : Result :=
  .next (if s.restageDone then s.completeRestage else s)

/-- The restart wait has reached its end with the response not completed: an outcome other than completed
was handed over, or the response still waits in a management queue (R177). -/
def State.restartDue (s : State) : Bool :=
  match s.agent.restartWait with
  | some w =>
    decide (w.deadline ≤ s.base) && (w.failed || Port.all.any (fun p => (s.egress.get p).queuesRestart))
  | none => false

/-- RESTART_WAIT_EXPIRY (R177). -/
def execRestartWaitExpiry (s : State) : Result :=
  .next (if s.restartDue then s.warmRestart else s)

end Sys2Proof.Machine
end

