-- ==== Sys2Proof/Machine/Holds.lean ====
section
/-! DEFINITION. HOLD_STREAM (R16), RELEASE_STREAM_RESUME (R18), RELEASE_STREAM_REARM (R19). -/

namespace Sys2Proof.Machine

/-- A stream taken into HELD by hand, or refused STATE (R16). -/
def State.holdByHand (s : State) (i : StreamIx) : Reply :=
  match s.streams[i].state with
  | .running => .ok (s.enterHeld i .manual) ((s.enterHeld i .manual).holdResult i)
  | .armed => .ok (s.enterHeld i .manual) ((s.enterHeld i .manual).holdResult i)
  | .held => .refuse s .state (s.holdResult i)
  | .disabled => .refuse s .state (s.holdResult i)

/-- The effect of HOLD-STREAM on the stream named. -/
def holdEffect (r : Request) (s : State) : Reply :=
  match streamArg (r.arg 0) with
  | some i => s.holdByHand i
  | none => .refuse s .range []

/-- The row of HOLD-STREAM. -/
def holdStreamRow : RequestRow :=
  { command := .holdStream, needsOwner := true, form := formBytes 1
    ranges := fun r => decide (r.arg 0 < 128), effect := holdEffect, isRestart := false }

/-- HOLD_STREAM (R16). -/
def execHoldStream (s : State) : Result := .next (holdStreamRow.execute s)

/-- A HELD stream changed as a release mode says, or refused STATE (R17). -/
def State.releaseHeld (s : State) (i : StreamIx) (f : StreamRun → StreamRun) : Reply :=
  match s.streams[i].state with
  | .held => .ok (s.updateStream i f) ((s.updateStream i f).holdResult i)
  | .running => .refuse s .state (s.holdResult i)
  | .armed => .refuse s .state (s.holdResult i)
  | .disabled => .refuse s .state (s.holdResult i)

/-- The ranges of RELEASE-STREAM: an index of 0 to 127, a mode of 0 or 1 (R17). -/
def releaseRanges (r : Request) : Bool := decide (r.arg 0 < 128) && decide (r.arg 1 ≤ 1)

/-- The effect of RELEASE-STREAM RESUME (R18). -/
def resumeEffect (r : Request) (s : State) : Reply :=
  match streamArg (r.arg 0) with
  | some i => s.releaseHeld i StreamRun.resumed
  | none => .refuse s .range []

/-- The row of RELEASE-STREAM with mode RESUME. -/
def releaseResumeRow : RequestRow :=
  { command := .releaseStreamResume, needsOwner := true, form := formBytes 2
    ranges := releaseRanges, effect := resumeEffect, isRestart := false }

/-- RELEASE_STREAM_RESUME (R18). -/
def execReleaseStreamResume (s : State) : Result := .next (releaseResumeRow.execute s)

/-- The effect of RELEASE-STREAM REARM (R19). -/
def rearmEffect (r : Request) (s : State) : Reply :=
  match streamArg (r.arg 0) with
  | some i => s.releaseHeld i (fun x => x.rearmed (s.streamRec i))
  | none => .refuse s .range []

/-- The row of RELEASE-STREAM with mode REARM; a mode value above 1 is RANGE. -/
def releaseRearmRow : RequestRow :=
  { command := .releaseStreamRearm, needsOwner := true, form := formBytes 2
    ranges := releaseRanges, effect := rearmEffect, isRestart := false }

/-- RELEASE_STREAM_REARM (R19). -/
def execReleaseStreamRearm (s : State) : Result := .next (releaseRearmRow.execute s)

end Sys2Proof.Machine
end

