-- ==== Sys2Proof/Machine/Ownership.lean ====
section
/-! DEFINITION. CLAIM (R169) and YIELD (R170). -/

namespace Sys2Proof.Machine

/-- The lease length that a CLAIM carries. -/
def claimLease (r : Request) : Nat := natAt r.args 0 2

/-- The sender holds the gate with its token for the lease carried (R169). -/
def State.grant (s : State) (r : Request) : State :=
  s.setAgent { s.agent with
    owner := some
      { holder := r.source, token := r.token, leaseLength := claimLease r
        expiry := s.base + claimLease r * Config.ticksPerMs } }

/-- The effect of CLAIM: granted where nobody holds the gate or the sender renews with its token, else
OWNED with the holder and the remaining lease (R169). -/
def claimEffect (r : Request) (s : State) : Reply :=
  match s.agent.owner with
  | none => .ok (s.grant r) []
  | some o => if s.ownsGate r then .ok (s.grant r) [] else .refuse s .owned (s.holderBytes o)

/-- The row of CLAIM. -/
def claimRow : RequestRow :=
  { command := .claim, needsOwner := false, form := formBytes 2
    ranges := fun r => decide (100 ≤ claimLease r ∧ claimLease r ≤ 60000)
    effect := claimEffect, isRestart := false }

/-- CLAIM (R169). -/
def execClaim (s : State) : Result := .next (claimRow.execute s)

/-- The effect of YIELD: the record emptied, then the yield handed to the staging controller (R170). -/
def yieldEffect (_ : Request) (s : State) : Reply :=
  .ok (s.setAgent { s.agent with owner := none }).stagingYield []

/-- The row of YIELD. -/
def yieldRow : RequestRow :=
  { command := .yieldOwnership, needsOwner := true, form := formBytes 0, ranges := fun _ => true
    effect := yieldEffect, isRestart := false }

/-- YIELD (R170). -/
def execYield (s : State) : Result := .next (yieldRow.execute s)

end Sys2Proof.Machine
end

