-- ==== Sys2Proof/Machine/QuenchRequests.lean ====
section
/-! DEFINITION. QUENCH (R95), CLEAR_QUENCH (R96), SET_LIVE (R176). -/

namespace Sys2Proof.Machine

/-- The effect of QUENCH: COMMAND is added; the answer is OK whether or not it was present. -/
def quenchEffect (_ : Request) (s : State) : Reply :=
  .ok (s.addCause .command) (s.addCause .command).quenchResult

/-- The row of QUENCH. -/
def quenchRow : RequestRow :=
  { command := .quench, needsOwner := true, form := formBytes 0, ranges := fun _ => true
    effect := quenchEffect, isRestart := false }

/-- QUENCH (R95). -/
def execQuench (s : State) : Result := .next (quenchRow.execute s)

/-- The causes that a CLEAR-QUENCH names. -/
def namedCauses (r : Request) : Option (List Cause) :=
  readAll readCause ((r.args.drop 1).take (r.arg 0))

/-- LINE stays while the line is asserted with line enable on; the other named causes go (R96). -/
def State.clearCauses (s : State) (cs : List Cause) : Reply :=
  if s.quench.lineActive && cs.contains .line then
    { status := .stillActive
      result := (s.removeCauses (cs.filter (fun c => decide (c ≠ .line)))).quenchResult
      after := s.removeCauses (cs.filter (fun c => decide (c ≠ .line))) }
  else .ok (s.removeCauses cs) (s.removeCauses cs).quenchResult

/-- The effect of CLEAR-QUENCH on the list carried. -/
def clearQuenchEffect (r : Request) (s : State) : Reply :=
  match namedCauses r with
  | some cs => s.clearCauses cs
  | none => .refuse s .range []

/-- The row of CLEAR-QUENCH. -/
def clearQuenchRow : RequestRow :=
  { command := .clearQuench, needsOwner := true, form := formCounted 1 0 1
    ranges := fun r => (namedCauses r).isSome, effect := clearQuenchEffect, isRestart := false }

/-- CLEAR_QUENCH (R96). -/
def execClearQuench (s : State) : Result := .next (clearQuenchRow.execute s)

/-- The four values of SET-LIVE, each within its field. -/
structure LiveValues where
  enable : Bool
  lineMode : LineMode
  releaseMode : ReleaseMode
  ports : PortSet
  deriving DecidableEq, Repr

/-- The values that a SET-LIVE carries. -/
def carriedLive (r : Request) : Option LiveValues := do
  let enable ← readYesNo (byteAt r.args 0)
  let lineMode ← readLineMode (byteAt r.args 1)
  let releaseMode ← readReleaseMode (byteAt r.args 2)
  let ports ← readMask (byteAt r.args 3)
  return { enable, lineMode, releaseMode, ports }

/-- The ranges of SET-LIVE; the port set must hold the request's arrival port (R176). -/
def setLiveRanges (r : Request) : Bool :=
  match carriedLive r with
  | some v => PortSet.has v.ports r.port
  | none => false

/-- The four values applied: the management port set at the agent, the others at the quench unit. -/
def State.setLive (s : State) (v : LiveValues) : State :=
  (s.setAgent { s.agent with mgmtPorts := v.ports }).applyLive v.enable v.lineMode v.releaseMode

/-- The effect of SET-LIVE. -/
def setLiveEffect (r : Request) (s : State) : Reply :=
  match carriedLive r with
  | some v => .ok (s.setLive v) (r.args.take 4 ++ (s.setLive v).quenchResult)
  | none => .refuse s .range []

/-- The row of SET-LIVE. -/
def setLiveRow : RequestRow :=
  { command := .setLive, needsOwner := true, form := formBytes 4, ranges := setLiveRanges
    effect := setLiveEffect, isRestart := false }

/-- SET_LIVE (R176). -/
def execSetLive (s : State) : Result := .next (setLiveRow.execute s)

end Sys2Proof.Machine
end

