-- ==== Sys2Proof/Machine/Reads.lean ====
section
/-! DEFINITION. The requests that read: DISCOVER, READ_STATUS, READ_SET, READ_STREAM_STATE,
READ_COUNTERS, READ_COUNTERS_CLEAR, READ_FLAGS, READ_FAULT, and UNKNOWN_REQUEST. -/

namespace Sys2Proof.Machine

/-- No value of the request has a range. -/
def anyRange (_ : Request) : Bool := true

/-! ### DISCOVER (R172) -/

/-- The text "DZF-2408". -/
def partIdentity : List Byte := [0x44#8, 0x5A#8, 0x46#8, 0x2D#8, 0x32#8, 0x34#8, 0x30#8, 0x38#8]

/-- The result of DISCOVER, 27 bytes (Table 12-7). -/
def State.discoverResult (s : State) (r : Request) : List Byte :=
  be48 s.stationAddr ++ [s.strap.setWidth 8] ++ partIdentity ++
    [8#8, maskByte s.agent.mgmtPorts, BitVec.ofNat 8 r.port.index] ++ s.ownerResult

/-- The row of DISCOVER. -/
def discoverRow : RequestRow :=
  { command := .discover, needsOwner := false, form := formBytes 0, ranges := anyRange
    effect := fun r s => .ok s (s.discoverResult r), isRestart := false }

/-- DISCOVER (R172). -/
def execDiscover (s : State) : Result := .next (discoverRow.execute s)

/-! ### READ-STATUS (R173, Table 12-8) -/

/-- Staging group, 20 bytes; absent optional values are not given (log 8). -/
def State.stagingStatus (s : State) : List Byte :=
  [match s.staging.active with | .a => 0#8 | .b => 1#8, stagingStateByte s.staging.state,
   match s.staging.reason with | some w => BitVec.ofNat 8 (reasonCode w) | none => 0xFF#8] ++
    s.targetBytes ++
    (match s.staging.commit with
     | some c =>
       (match c.owner with
        | some a => [1#8] ++ be48 a
        | none => [0#8] ++ s.unstatedBytes 4 6) ++ be32 c.requestedAt
     | none => [0#8] ++ s.unstatedBytes 4 6 ++ s.unstatedBytes 10 4) ++
    [BitVec.ofNat 8 ((tableList s.staging.dirty).filter id).length]

/-- Quench group, 9 bytes. -/
def State.quenchStatus (s : State) : List Byte :=
  s.quenchResult ++
    [yesNo s.quench.lineEnable, lineModeByte s.quench.lineMode, releaseModeByte s.quench.releaseMode,
     yesNo (decide (s.quench.level = .asserted))]

/-- The five bytes of one port. -/
def State.portStatus (s : State) (p : Port) : List Byte :=
  [linkByte (s.link p), transmitterByte (s.egress.get p).transmitter,
   BitVec.ofNat 8 (s.egress.get p).cyclic.length, BitVec.ofNat 8 (s.egress.get p).mgmt.length,
   BitVec.ofNat 8 (s.egress.get p).background.length]

/-- How many records of the notification queue pass a test, as a byte. -/
def State.countRecords (s : State) (test : NotifRecord → Bool) : Byte :=
  BitVec.ofNat 8 (s.events.queue.filter test).length

/-- One listener record, 14 bytes. -/
def listenerBytes (l : Listener) : List Byte :=
  [yesNo l.enabled] ++ be48 l.addr ++
    [BitVec.ofNat 8 l.port.index, BitVec.ofNat 8 l.retryInterval, BitVec.ofNat 8 l.retryLimit] ++
    be16 l.nextSeq ++ [BitVec.ofNat 8 l.missed, BitVec.ofNat 8 l.lapse]

/-- Event unit group, 60 bytes. A resend-due record is AWAITING and counts in both numbers (R158,
log 31). -/
def State.eventStatus (s : State) : List Byte :=
  [s.countRecords (fun _ => true), s.countRecords NotifRecord.isUnsent,
   s.countRecords (fun r => !r.isUnsent), s.countRecords NotifRecord.isResendDue] ++
    (tableList s.events.listeners).flatMap listenerBytes

/-- The READ-STATUS result, 153 bytes in the order of Table 12-8. -/
def State.statusResult (s : State) : List Byte :=
  be48 s.stationAddr ++ [s.strap.setWidth 8] ++
    s.timerResult ++ be32 (BitVec.ofNat 32 s.timer.cycleLength) ++
    [BitVec.ofNat 8 s.timer.faultCount] ++
    s.stagingStatus ++ s.quenchStatus ++ Port.all.flatMap s.portStatus ++ s.eventStatus ++
    s.ownerResult ++ [maskByte s.agent.mgmtPorts, BitVec.ofNat 8 s.agent.intake.length] ++
    be32 s.agent.executed ++ be32 s.agent.cacheAnswers ++ be32 s.agent.intakeDiscards

/-- The row of READ-STATUS. -/
def readStatusRow : RequestRow :=
  { command := .readStatus, needsOwner := false, form := formBytes 0, ranges := anyRange
    effect := fun _ s => .ok s s.statusResult, isRestart := false }

/-- READ_STATUS (R173). -/
def execReadStatus (s : State) : Result := .next (readStatusRow.execute s)

/-! ### READ-SET (R114, R174) -/

/-- Part, first index and count are within their part and the result fits (R174, R181). -/
def readSetFits (part first count : Nat) : Bool :=
  if part = 0 then decide (first = 0 ∧ count = 1)
  else if part = 1 then decide (1 ≤ count ∧ first + count ≤ 64)
  else if part = 2 then decide (1 ≤ count ∧ count ≤ 92 ∧ first + count ≤ 128)
  else if part = 3 then decide (1 ≤ count ∧ count ≤ 697 ∧ first + count ≤ 1024)
  else if part = 4 then decide (count = 1 ∧ first < 32)
  else false

/-- The ranges of READ-SET. -/
def readSetRanges (r : Request) : Bool :=
  decide (r.arg 0 ≤ 1) && readSetFits (r.arg 1) (natAt r.args 2 2) (natAt r.args 4 2)

/-- A run of a table as bytes. -/
def runBytes {α : Type} {n : Nat} (v : Vector α n) (first count : Nat) (bytes : α → List Byte) :
    List Byte :=
  (((tableList v).drop first).take count).flatMap bytes

/-- The records of a part (section 12.3). -/
def Bank.partBytes (b : Bank) (part first count : Nat) : List Byte :=
  if part = 0 then settingsBytes b.settings
  else if part = 1 then runBytes b.windows first count windowBytes
  else if part = 2 then runBytes b.streams first count streamBytes
  else if part = 3 then runBytes b.steps first count stepBytes
  else templateBytes first ((tableList b.templates).getD first none)

/-- The result of READ-SET: its head, which repeats the arguments, then the records (Table 12-7). -/
def Bank.setResult (b : Bank) (r : Request) : List Byte :=
  r.args.take 6 ++ b.partBytes (r.arg 1) (natAt r.args 2 2) (natAt r.args 4 2)

/-- The effect of READ-SET: ACTIVE in every staging state, STAGED refused with BUSY in RESTAGING (R114). -/
def readSetEffect (r : Request) (s : State) : Reply :=
  if r.arg 0 = 0 then .ok s (s.active.setResult r)
  else
    match s.staging.state with
    | .restaging => .refuse s .busy []
    | .ready => .ok s (s.staged.setResult r)
    | .pending => .ok s (s.staged.setResult r)

/-- The row of READ-SET. -/
def readSetRow : RequestRow :=
  { command := .readSet, needsOwner := false, form := formBytes 6, ranges := readSetRanges
    effect := readSetEffect, isRestart := false }

/-- READ_SET (R174). -/
def execReadSet (s : State) : Result := .next (readSetRow.execute s)

/-! ### READ-STREAM-STATE (R174) -/

/-- The ranges of READ-STREAM-STATE. -/
def readStreamStateRanges (r : Request) : Bool :=
  decide (1 ≤ r.arg 1 ∧ r.arg 1 ≤ 87 ∧ r.arg 0 + r.arg 1 ≤ 128)

/-- The runtime records of a run of streams with their dirty marks. -/
def State.streamStateResult (s : State) (r : Request) : List Byte :=
  r.args.take 2 ++
    ((allStreams.drop (r.arg 0)).take (r.arg 1)).flatMap
      (fun i => streamRunBytes i.val s.streams[i] s.staging.dirty[i])

/-- The row of READ-STREAM-STATE. -/
def readStreamStateRow : RequestRow :=
  { command := .readStreamState, needsOwner := false, form := formBytes 2
    ranges := readStreamStateRanges
    effect := fun r s => .ok s (s.streamStateResult r), isRestart := false }

/-- READ_STREAM_STATE (R174). -/
def execReadStreamState (s : State) : Result := .next (readStreamStateRow.execute s)

/-! ### READ-COUNTERS (R175) -/

/-- The object and its index are within their ranges, and the clear byte is a yes/no. -/
def readCountersRanges (r : Request) : Bool :=
  decide (r.arg 0 ≤ 1) && decide (r.arg 1 < if r.arg 0 = 0 then 128 else 4) && decide (r.arg 2 ≤ 1)

/-- The counter set of the object named (section 12.3). -/
def State.countersResult (s : State) (r : Request) : List Byte :=
  r.args.take 2 ++
    if r.arg 0 = 0 then
      match streamArg (r.arg 1) with
      | some i => streamCounterBytes s.streams[i].counters
      | none => []
    else portCounterBytes (s.ports.get (Port.numbered (r.arg 1))).counters

/-- The counters of the object named are zeroed (R10, R139). -/
def State.zeroCounters (s : State) (r : Request) : State :=
  if r.arg 0 = 0 then
    match streamArg (r.arg 1) with
    | some i => s.countStream i (fun _ => .zero)
    | none => s
  else s.countPort (Port.numbered (r.arg 1)) (fun _ => .zero)

/-- The row of READ-COUNTERS without the clear option. -/
def readCountersRow : RequestRow :=
  { command := .readCounters, needsOwner := false, form := formBytes 3, ranges := readCountersRanges
    effect := fun r s => .ok s (s.countersResult r), isRestart := false }

/-- READ_COUNTERS (R175). -/
def execReadCounters (s : State) : Result := .next (readCountersRow.execute s)

/-- The row of READ-COUNTERS with the clear option: read, then zeroed, in the same execution. -/
def readCountersClearRow : RequestRow :=
  { command := .readCountersClear, needsOwner := true, form := formBytes 3
    ranges := readCountersRanges
    effect := fun r s => .ok (s.zeroCounters r) (s.countersResult r), isRestart := false }

/-- READ_COUNTERS_CLEAR (R175). -/
def execReadCountersClear (s : State) : Result := .next (readCountersClearRow.execute s)

/-! ### READ-FLAGS and READ-FAULT -/

/-- The row of READ-FLAGS (R154). -/
def readFlagsRow : RequestRow :=
  { command := .readFlags, needsOwner := false, form := formBytes 0, ranges := anyRange
    effect := fun _ s => .ok s (be16 s.events.flags), isRestart := false }

/-- READ_FLAGS (R154). -/
def execReadFlags (s : State) : Result := .next (readFlagsRow.execute s)

/-- The row of READ-FAULT (R116). -/
def readFaultRow : RequestRow :=
  { command := .readFault, needsOwner := false, form := formBytes 0, ranges := anyRange
    effect := fun _ s => .ok s (faultBytes s.staging.fault), isRestart := false }

/-- READ_FAULT (R116). -/
def execReadFault (s : State) : Result := .next (readFaultRow.execute s)

/-! ### UNKNOWN_REQUEST (R167) -/

/-- A code that names no request is answered UNKNOWN-REQUEST at step 3 of R167. -/
def answerUnknown (r : Request) (s : State) : State := s.conclude r .unknownRequest [] false

/-- UNKNOWN_REQUEST (R167): unreadable requests are answered MALFORMED at step 1, others at step 3. -/
def execUnknownRequest (s : State) : Result := .next (s.agentExecutes .unknownRequest answerUnknown)

end Sys2Proof.Machine
end

