-- ==== Sys2Proof/Machine/StagedWrites.lean ====
section
/-! DEFINITION. The five staged writes (R80, R112, R113): WRITE_SETTINGS, WRITE_WINDOWS, WRITE_STREAMS,
WRITE_STEPS, WRITE_TEMPLATE. -/

namespace Sys2Proof.Machine

/-- A staged write: taken in READY, refused PENDING or BUSY otherwise (R112). -/
def stagedWrite (write : State → State) (s : State) : Reply :=
  match s.staging.state with
  | .ready => .ok (write s) []
  | .pending => .refuse s .pending []
  | .restaging => .refuse s .busy []

/-- A count of records in 1..64 from a first index, ending within a table of a size (R181). -/
def runFits (first count size : Nat) : Bool :=
  decide (1 ≤ count ∧ count ≤ 64 ∧ first + count ≤ size)

/-! ### WRITE-SETTINGS -/

/-- The staged settings record replaced. -/
def State.writeSettings (s : State) (r : Request) : State :=
  match readSettings r.args with
  | some x => s.setStaged { s.staged with settings := x }
  | none => s

/-- The row of WRITE-SETTINGS. -/
def writeSettingsRow : RequestRow :=
  { command := .writeSettings, needsOwner := true, form := formBytes 14
    ranges := fun r => (readSettings r.args).isSome
    effect := fun r => stagedWrite (fun s => s.writeSettings r), isRestart := false }

/-- WRITE_SETTINGS (R109, R112). -/
def execWriteSettings (s : State) : Result := .next (writeSettingsRow.execute s)

/-! ### WRITE-WINDOWS -/

/-- The window records that a request carries. -/
def carriedWindows (r : Request) : Option (List WindowRec) :=
  readMany readWindow 7 (r.arg 1) (r.args.drop 2)

/-- A run of staged window records replaced. -/
def State.writeWindows (s : State) (r : Request) : State :=
  match carriedWindows r with
  | some xs => s.setStaged { s.staged with windows := writeRun s.staged.windows (r.arg 0) xs }
  | none => s

/-- The row of WRITE-WINDOWS. -/
def writeWindowsRow : RequestRow :=
  { command := .writeWindows, needsOwner := true, form := formCounted 2 1 7
    ranges := fun r => runFits (r.arg 0) (r.arg 1) 64 && (carriedWindows r).isSome
    effect := fun r => stagedWrite (fun s => s.writeWindows r), isRestart := false }

/-- WRITE_WINDOWS (R112). -/
def execWriteWindows (s : State) : Result := .next (writeWindowsRow.execute s)

/-! ### WRITE-STREAMS -/

/-- The stream records that a request carries. -/
def carriedStreams (r : Request) : Option (List StreamRec) :=
  readMany readStream 15 (r.arg 1) (r.args.drop 2)

/-- A run of staged stream records replaced, and their dirty marks set (R113). -/
def State.writeStreams (s : State) (r : Request) : State :=
  match carriedStreams r with
  | some xs =>
    (s.setStaged { s.staged with streams := writeRun s.staged.streams (r.arg 0) xs }).markDirty
      (fun i => decide (r.arg 0 ≤ i.val) && decide (i.val < r.arg 0 + r.arg 1))
  | none => s

/-- The row of WRITE-STREAMS. -/
def writeStreamsRow : RequestRow :=
  { command := .writeStreams, needsOwner := true, form := formCounted 2 1 15
    ranges := fun r => runFits (r.arg 0) (r.arg 1) 128 && (carriedStreams r).isSome
    effect := fun r => stagedWrite (fun s => s.writeStreams r), isRestart := false }

/-- WRITE_STREAMS (R112). -/
def execWriteStreams (s : State) : Result := .next (writeStreamsRow.execute s)

/-! ### WRITE-STEPS -/

/-- The first pool index that a request names. -/
def stepsFirst (r : Request) : Nat := natAt r.args 0 2

/-- The step records that a request carries. -/
def carriedSteps (r : Request) : Option (List StepRec) :=
  readMany readStep 2 (r.arg 2) (r.args.drop 3)

/-- A run of staged step records replaced, and the dirty marks of the streams whose staged ring covers
one of them set, as the staged stream records stand at the execution (R113). -/
def State.writeSteps (s : State) (r : Request) : State :=
  match carriedSteps r with
  | some xs =>
    (s.setStaged { s.staged with steps := writeRun s.staged.steps (stepsFirst r) xs }).markDirty
      (fun i => ringCovers s.staged.streams[i] (stepsFirst r) (r.arg 2))
  | none => s

/-- The row of WRITE-STEPS. -/
def writeStepsRow : RequestRow :=
  { command := .writeSteps, needsOwner := true, form := formCounted 3 2 2
    ranges := fun r => runFits (stepsFirst r) (r.arg 2) 1024 && (carriedSteps r).isSome
    effect := fun r => stagedWrite (fun s => s.writeSteps r), isRestart := false }

/-- WRITE_STEPS (R112). -/
def execWriteSteps (s : State) : Result := .next (writeStepsRow.execute s)

/-! ### WRITE-TEMPLATE (R80) -/

/-- The ranges of WRITE-TEMPLATE: the index, the presence byte, and the length that goes with it. -/
def writeTemplateRanges (r : Request) : Bool :=
  decide (r.arg 0 < 32) &&
    if r.arg 1 = 0 then decide (r.arg 2 = 0)
    else decide (r.arg 1 = 1 ∧ 60 ≤ r.arg 2 ∧ r.arg 2 ≤ 128)

/-- The template that a request carries. -/
def carriedTemplate (r : Request) : Option (List Byte) :=
  if r.arg 1 = 0 then none else some ((r.args.drop 3).take (r.arg 2))

/-- One staged template replaced or made absent. -/
def State.writeTemplate (s : State) (r : Request) : State :=
  s.setStaged { s.staged with templates := writeRun s.staged.templates (r.arg 0) [carriedTemplate r] }

/-- The row of WRITE-TEMPLATE. -/
def writeTemplateRow : RequestRow :=
  { command := .writeTemplate, needsOwner := true, form := formCounted 3 2 1
    ranges := writeTemplateRanges
    effect := fun r => stagedWrite (fun s => s.writeTemplate r), isRestart := false }

/-- WRITE_TEMPLATE (R80). -/
def execWriteTemplate (s : State) : Result := .next (writeTemplateRow.execute s)

end Sys2Proof.Machine
end

