-- ==== Sys2Proof/Machine/TimerRequests.lean ====
section
/-! DEFINITION. TIMER_START_IMMEDIATE, TIMER_START_ON_MARK (R66), TIMER_STOP (R68), RESTART (R177). -/

namespace Sys2Proof.Machine

/-- A TIMER-START taken in STOPPED: the state given, counter and cycle count 0, mark-fault count 0, the
attribution record empty (R66). The cycle just ended is forgotten (log 29). -/
def State.prepareStart (s : State) (st : TimerState) : State :=
  s.setTimer { s.timer with
    state := st, counter := 0, cycleCount := 0#32, faultCount := 0, attribution := none
    current := none, ended := none, closesTaken := [] }

/-- The start in STOPPED, or the refusal STATE (R66). -/
def State.timerStart (s : State) (start : State → State) : Reply :=
  match s.timer.state with
  | .stopped => .ok (start s) (start s).timerResult
  | .armed => .refuse s .state s.timerResult
  | .running => .refuse s .state s.timerResult

/-- IMMEDIATE: RUNNING, and the moment of execution is a cycle start (R66). -/
def State.startNow (s : State) : State := (s.prepareStart .running).handCycleStart true

/-- The row of TIMER-START with mode IMMEDIATE. -/
def timerStartImmediateRow : RequestRow :=
  { command := .timerStartImmediate, needsOwner := true, form := formBytes 1
    ranges := fun r => decide (r.arg 0 ≤ 1)
    effect := fun _ s => s.timerStart State.startNow, isRestart := false }

/-- TIMER_START_IMMEDIATE (R66). -/
def execTimerStartImmediate (s : State) : Result := .next (timerStartImmediateRow.execute s)

/-- ON-MARK: ARMED, the counter not counting (R66). -/
def State.startArmed (s : State) : State := s.prepareStart .armed

/-- The row of TIMER-START with mode ON-MARK; a mode value above 1 is RANGE. -/
def timerStartOnMarkRow : RequestRow :=
  { command := .timerStartOnMark, needsOwner := true, form := formBytes 1
    ranges := fun r => decide (r.arg 0 ≤ 1)
    effect := fun _ s => s.timerStart State.startArmed, isRestart := false }

/-- TIMER_START_ON_MARK (R66). -/
def execTimerStartOnMark (s : State) : Result := .next (timerStartOnMarkRow.execute s)

/-- The effect of TIMER-STOP: taken in RUNNING and ARMED, STATE in STOPPED (R68). -/
def timerStopEffect (_ : Request) (s : State) : Reply :=
  match s.timer.state with
  | .stopped => .refuse s .state s.timerResult
  | .armed => .ok s.stopTimer s.stopTimer.timerResult
  | .running => .ok s.stopTimer s.stopTimer.timerResult

/-- The row of TIMER-STOP. -/
def timerStopRow : RequestRow :=
  { command := .timerStop, needsOwner := true, form := formBytes 0, ranges := fun _ => true
    effect := timerStopEffect, isRestart := false }

/-- TIMER_STOP (R68). -/
def execTimerStop (s : State) : Result := .next (timerStopRow.execute s)

/-- From the execution of RESTART the agent holds a restart wait, 1 ms long from the offer (R177). -/
def State.beginRestartWait (s : State) : State :=
  s.setAgent { s.agent with
    restartWait := some { deadline := s.base + Config.ticksPerMs, failed := false } }

/-- The row of RESTART. -/
def restartRow : RequestRow :=
  { command := .restart, needsOwner := true, form := formBytes 0, ranges := fun _ => true
    effect := fun _ s => .ok s.beginRestartWait [], isRestart := true }

/-- RESTART (R177). -/
def execRestart (s : State) : Result := .next (restartRow.execute s)

end Sys2Proof.Machine
end

