-- ==== Sys2Proof/Machine/Dispatch.lean ====
section
/-! DEFINITION. What each command does to everything but the queue: one arm for each constructor. -/

namespace Sys2Proof.Machine

/-- The effect of a command. -/
def exec (i : Instr) (s : State) : Host.Outcome State Fault Refusal :=
  match i with
  | .coldReset strap links level => Sys2Proof.Machine.execColdReset strap links level s
  | .quenchLineAsserted => Sys2Proof.Machine.execQuenchLineAsserted s
  | .quenchLineDeasserted => Sys2Proof.Machine.execQuenchLineDeasserted s
  | .linkUp port => Sys2Proof.Machine.execLinkUp port s
  | .linkDown port => Sys2Proof.Machine.execLinkDown port s
  | .startOfFrame port frame => Sys2Proof.Machine.execStartOfFrame port frame s
  | .frameArrival port => Sys2Proof.Machine.execFrameArrival port s
  | .cycleStart => Sys2Proof.Machine.execCycleStart s
  | .windowClose window => Sys2Proof.Machine.execWindowClose window s
  | .guardOpen port => Sys2Proof.Machine.execGuardOpen port s
  | .guardClose window => Sys2Proof.Machine.execGuardClose window s
  | .attributionIntervalClose => Sys2Proof.Machine.execAttributionIntervalClose s
  | .pendingAdvanceEnd => Sys2Proof.Machine.execPendingAdvanceEnd s
  | .transmitStart port => Sys2Proof.Machine.execTransmitStart port s
  | .transmitComplete port => Sys2Proof.Machine.execTransmitComplete port s
  | .notificationOffer port => Sys2Proof.Machine.execNotificationOffer port s
  | .retryTimerExpiry listener seq => Sys2Proof.Machine.execRetryTimerExpiry listener seq s
  | .leaseExpiry => Sys2Proof.Machine.execLeaseExpiry s
  | .restageCompletion => Sys2Proof.Machine.execRestageCompletion s
  | .restartWaitExpiry => Sys2Proof.Machine.execRestartWaitExpiry s
  | .discover => Sys2Proof.Machine.execDiscover s
  | .claim => Sys2Proof.Machine.execClaim s
  | .yieldOwnership => Sys2Proof.Machine.execYield s
  | .readStatus => Sys2Proof.Machine.execReadStatus s
  | .readSet => Sys2Proof.Machine.execReadSet s
  | .readStreamState => Sys2Proof.Machine.execReadStreamState s
  | .readCounters => Sys2Proof.Machine.execReadCounters s
  | .readCountersClear => Sys2Proof.Machine.execReadCountersClear s
  | .readFlags => Sys2Proof.Machine.execReadFlags s
  | .readFault => Sys2Proof.Machine.execReadFault s
  | .writeSettings => Sys2Proof.Machine.execWriteSettings s
  | .writeWindows => Sys2Proof.Machine.execWriteWindows s
  | .writeStreams => Sys2Proof.Machine.execWriteStreams s
  | .writeSteps => Sys2Proof.Machine.execWriteSteps s
  | .writeTemplate => Sys2Proof.Machine.execWriteTemplate s
  | .commitNext => Sys2Proof.Machine.execCommitNext s
  | .commitAt => Sys2Proof.Machine.execCommitAt s
  | .withdraw => Sys2Proof.Machine.execWithdraw s
  | .holdStream => Sys2Proof.Machine.execHoldStream s
  | .releaseStreamResume => Sys2Proof.Machine.execReleaseStreamResume s
  | .releaseStreamRearm => Sys2Proof.Machine.execReleaseStreamRearm s
  | .quench => Sys2Proof.Machine.execQuench s
  | .clearQuench => Sys2Proof.Machine.execClearQuench s
  | .setLive => Sys2Proof.Machine.execSetLive s
  | .setListener => Sys2Proof.Machine.execSetListener s
  | .setNotify => Sys2Proof.Machine.execSetNotify s
  | .clearFlags => Sys2Proof.Machine.execClearFlags s
  | .raiseFlag => Sys2Proof.Machine.execRaiseFlag s
  | .timerStartImmediate => Sys2Proof.Machine.execTimerStartImmediate s
  | .timerStartOnMark => Sys2Proof.Machine.execTimerStartOnMark s
  | .timerStop => Sys2Proof.Machine.execTimerStop s
  | .restart => Sys2Proof.Machine.execRestart s
  | .ackNotify => Sys2Proof.Machine.execAckNotify s
  | .unknownRequest => Sys2Proof.Machine.execUnknownRequest s

end Sys2Proof.Machine
end

