-- ==== Sys2Proof/Machine/Step.lean ====
section
/-! DEFINITION. One step: the command at the front of the queue is taken; on an empty queue an occurrence
that is due is put into it, or, when none is due, one tick passes (log 1). -/

namespace Sys2Proof.Machine

/-! ### Occurrences that are due -/

/-- The occurrences due at a port. -/
def State.portDue (s : State) (p : Port) : List Instr :=
  (if (s.egress.get p).maySelect then [.transmitStart p] else []) ++
  (match (s.egress.get p).transmitter with
   | .sending t => if t.remaining = 0 then [.transmitComplete p] else []
   | .down => []
   | .idle => []
   | .waiting => []) ++
  (match (s.ports.get p).reception with
   | some r => if wireTime r.frame.length ≤ r.elapsed then [.frameArrival p] else []
   | none => []) ++
  (if s.cutDue p then [.guardOpen p] else []) ++
  (if s.offerDue p then [.notificationOffer p] else [])

/-- The window closes and guard closes that are due. -/
def State.windowsDue (s : State) : List Instr :=
  allWindows.flatMap (fun w =>
    (if s.closeDue .admitting w then [.windowClose w.val] else []) ++
    (if s.closeDue .guard w then [.guardClose w.val] else []))

/-- The retry timers that have expired. -/
def State.retriesDue (s : State) : List Instr :=
  (s.events.queue.filter (fun r => s.expiredRecord r.listener r.seq r)).map
    (fun r => .retryTimerExpiry r.listener r.seq)

/-- The lease has run out (R171). -/
def State.leaseDue (s : State) : Bool :=
  match s.agent.owner with
  | some o => decide (o.expiry ≤ s.base)
  | none => false

/-- The request that the agent is to execute next, due at once (R167, R177; log 43). -/
def State.requestDue (s : State) : List Instr :=
  match s.agent.restartWait, s.agent.intake with
  | none, r :: _ => [r.command]
  | none, [] => []
  | some _, _ => []

/-- A level of QUENCH_N that is to be taken (R93). -/
def State.lineDue (s : State) : List Instr :=
  if s.quench.lineDue then
    [match s.quench.pin with | .asserted => .quenchLineAsserted | .deasserted => .quenchLineDeasserted]
  else []

/-- Everything that is due in a state. -/
def State.dueNow (s : State) : List Instr :=
  Port.all.flatMap s.portDue ++ s.windowsDue ++
  (if s.cycleStartDue then [.cycleStart] else []) ++
  (if s.intervalOver then [.attributionIntervalClose] else []) ++
  (if s.advanceEndDue then [.pendingAdvanceEnd] else []) ++
  s.lineDue ++
  s.retriesDue ++
  (if s.leaseDue then [.leaseExpiry] else []) ++
  (if s.restageDone then [.restageCompletion] else []) ++
  (if s.restartDue then [.restartWaitExpiry] else []) ++
  s.requestDue

/-! ### The tick -/

/-- One tick at a port unit: a frame in reception is one tick older. -/
def PortUnit.tick (u : PortUnit) : PortUnit :=
  { u with reception := u.reception.map (fun r => { r with elapsed := r.elapsed + 1 }) }

/-- One tick at an egress unit: a transmission has one tick less to go. -/
def Egress.tick (e : Egress) : Egress :=
  { e with
    transmitter := match e.transmitter with
      | .sending t => .sending { t with remaining := t.remaining - 1 }
      | .down => .down
      | .idle => .idle
      | .waiting => .waiting }

/-- One tick at the cycle timer: the counter counts while RUNNING (R63). -/
def Timer.tick (t : Timer) : Timer :=
  match t.state with
  | .running => { t with counter := t.counter + 1 }
  | .stopped => t
  | .armed => t

/-- One tick at the quench unit: the level on the pin has been held for a tick more (R93). -/
def Quench.tick (q : Quench) : Quench :=
  { q with pinTicks := if q.pinTicks < 2 then q.pinTicks + 1 else q.pinTicks }

/-- One tick of REFCLK passes with nothing due. -/
def State.tick (s : State) : State :=
  { s with
    base := s.base + 1
    ports := s.ports.map PortUnit.tick
    egress := s.egress.map Egress.tick
    timer := s.timer.tick
    quench := s.quench.tick }

/-! ### The step -/

/-- The queue is empty: one of the occurrences that are due, picked by a free value where there are several
(log 5), is put into the queue; when none is due, a tick passes. -/
def State.idle (s : State) : State :=
  match s.dueNow with
  | [] => s.tick
  | [c] => s.setPending [c]
  | c :: d :: rest =>
    (s.draw 1).setPending
      [(c :: d :: rest).getD (Config.tieOrder s.draws % (rest.length + 2)) c]

/-- One step. -/
def step (s : State) : Host.Outcome State Fault Refusal :=
  match s.pending with
  | [] => .next s.idle
  | c :: rest => exec c (s.setPending rest)

/-- The command that a table word spells, at the front of the queue; none spells one, since no row of the
table gives bits. A program does not exist on this block: commands come from outside or become due. -/
def State.withFetchWord (s : State) (nbits w : Nat) : State :=
  match decodeTableWord nbits w with
  | some c => s.setPending (c :: s.pending)
  | none => s

end Sys2Proof.Machine
end

