-- ==== Sys2Proof/Safety.lean ====
section
/-! DEFINITION. The predicates that statements about the gate are made of: which blocks a change may
touch, when the agent takes a request, and the laws that the spec says the gate keeps. -/

namespace Sys2Proof.Machine

/-! ### Which blocks a change may touch -/

/-- The blocks that a change may touch; the rest stays as it was. The time base and the queue of commands
are never touched by a command. -/
structure Footprint where
  strap : Bool := false
  ports : Bool := false
  egress : Bool := false
  frames : Bool := false
  timer : Bool := false
  streams : Bool := false
  staging : Bool := false
  banks : Bool := false
  quench : Bool := false
  events : Bool := false
  agent : Bool := false
  draws : Bool := false
  deriving DecidableEq, Repr

/-- From s to t nothing changed outside a footprint. -/
structure Within (f : Footprint) (s t : State) : Prop where
  base : t.base = s.base
  pending : t.pending = s.pending
  strap : f.strap = false → t.strap = s.strap
  ports : f.ports = false → t.ports = s.ports
  egress : f.egress = false → t.egress = s.egress
  frames : f.frames = false → t.frames = s.frames ∧ t.nextFrame = s.nextFrame
  timer : f.timer = false → t.timer = s.timer
  streams : f.streams = false → t.streams = s.streams
  staging : f.staging = false → t.staging = s.staging
  banks : f.banks = false → t.bankA = s.bankA ∧ t.bankB = s.bankB
  quench : f.quench = false → t.quench = s.quench
  events : f.events = false → t.events = s.events
  agent : f.agent = false → t.agent = s.agent
  draws : f.draws = false → t.draws = s.draws

/-- What an answer touches: the agent, and the arrival port's egress unit and counters. -/
def Footprint.answer : Footprint := { agent := true, egress := true, ports := true, draws := true }

/-- What raising an occurrence touches: the event unit, and the management queues that records enter. -/
def Footprint.raising : Footprint := { events := true, egress := true }

/-- What an answer touches where occurrences are raised as well. -/
def Footprint.answerRaising : Footprint := { Footprint.answer with events := true }

/-- Everything but the straps. -/
def Footprint.wide : Footprint :=
  { ports := true, egress := true, frames := true, timer := true, streams := true, staging := true
    banks := true, quench := true, events := true, agent := true, draws := true }

/-- The blocks that each command may touch, whatever the state it meets. -/
def footprint : Instr → Footprint
  | .coldReset _ _ _ => { Footprint.wide with strap := true, draws := false }
  | .quenchLineAsserted => { Footprint.raising with quench := true }
  | .quenchLineDeasserted => { Footprint.raising with quench := true }
  | .linkUp _ => { Footprint.raising with ports := true }
  | .linkDown _ => .wide
  | .startOfFrame _ _ => .wide
  | .frameArrival _ => .wide
  | .cycleStart => .wide
  | .windowClose _ =>
    { Footprint.raising with ports := true, timer := true, streams := true, quench := true, draws := true }
  | .guardOpen _ => .wide
  | .guardClose _ => { egress := true, timer := true }
  | .attributionIntervalClose => { Footprint.raising with timer := true, quench := true }
  | .pendingAdvanceEnd => { ports := true, egress := true }
  | .transmitStart _ => { ports := true, egress := true, frames := true, streams := true }
  | .transmitComplete _ => .wide
  | .notificationOffer _ => .raising
  | .retryTimerExpiry _ _ => .raising
  | .leaseExpiry => { Footprint.raising with agent := true, staging := true }
  | .restageCompletion => { Footprint.raising with staging := true, banks := true }
  | .restartWaitExpiry => .wide
  | .discover => .answer
  | .claim => .answer
  | .yieldOwnership => { Footprint.answer with staging := true }
  | .readStatus => .answer
  | .readSet => .answer
  | .readStreamState => .answer
  | .readCounters => .answer
  | .readCountersClear => { Footprint.answer with streams := true }
  | .readFlags => .answer
  | .readFault => .answer
  | .writeSettings => { Footprint.answer with banks := true }
  | .writeWindows => { Footprint.answer with banks := true }
  | .writeStreams => { Footprint.answer with banks := true, staging := true }
  | .writeSteps => { Footprint.answer with banks := true, staging := true }
  | .writeTemplate => { Footprint.answer with banks := true }
  | .commitNext => { Footprint.answerRaising with staging := true, streams := true }
  | .commitAt => { Footprint.answerRaising with staging := true, streams := true }
  | .withdraw => { Footprint.answerRaising with staging := true }
  | .holdStream => { Footprint.answerRaising with streams := true }
  | .releaseStreamResume => { Footprint.answer with streams := true }
  | .releaseStreamRearm => { Footprint.answer with streams := true }
  | .quench => { Footprint.answerRaising with quench := true }
  | .clearQuench => { Footprint.answerRaising with quench := true }
  | .setLive => { Footprint.answerRaising with quench := true }
  | .setListener => { Footprint.answer with events := true }
  | .setNotify => { Footprint.answer with events := true }
  | .clearFlags => { Footprint.answer with events := true }
  | .raiseFlag => .answerRaising
  | .timerStartImmediate =>
    { Footprint.answerRaising with
      timer := true, streams := true, staging := true, quench := true, frames := true }
  | .timerStartOnMark => { Footprint.answer with timer := true }
  | .timerStop =>
    { Footprint.answerRaising with timer := true, staging := true, streams := true, quench := true }
  | .restart => .answer
  | .ackNotify => { Footprint.answer with events := true }
  | .unknownRequest => .answer

/-! ### The agent takes a request (R167) -/

/-- The request at the head of the intake queue is one of a command's row, no restart wait is present,
its header is readable, and no reply cache entry answers it: its execution reaches step 3. -/
structure Takes (s : State) (c : Instr) (r : Request) (rest : List Request) : Prop where
  noWait : s.agent.restartWait = none
  head : s.agent.intake = r :: rest
  row : r.command = c
  readable : 4 ≤ r.body.length
  fresh : s.cacheHit r = none

/-- The request has a body of its 8-byte header and n argument bytes, all of them in the frame (R180). -/
structure Carries (r : Request) (n : Nat) : Prop where
  whole : r.overrun = false
  size : r.body.length = 8 + n

/-- The state in which the request's effect is taken: out of the queue and counted as executed. -/
def State.entered (s : State) (rest : List Request) : State :=
  { s with agent := { s.agent with intake := rest, executed := s.agent.executed + 1#32 } }

/-- The commands whose request needs ownership (Table 11-1, R175). -/
def ownerCommands : List Instr :=
  [.yieldOwnership, .readCountersClear, .writeSettings, .writeWindows, .writeStreams, .writeSteps,
   .writeTemplate, .commitNext, .commitAt, .withdraw, .holdStream, .releaseStreamResume,
   .releaseStreamRearm, .quench, .clearQuench, .setLive, .setListener, .setNotify, .clearFlags,
   .raiseFlag, .timerStartImmediate, .timerStartOnMark, .timerStop, .restart]

/-- The commands whose request needs no ownership and names a request. -/
def openCommands : List Instr :=
  [.discover, .claim, .readStatus, .readSet, .readStreamState, .readCounters, .readFlags, .readFault,
   .ackNotify]

/-! ### The checks of COMMIT (Table 7-5), each by its number -/

/-- Checks 1 and 2 on the settings. -/
def Settings.meets (x : Settings) : Nat → Prop
  | 1 => 2500 ≤ x.period ∧ x.period ≤ 1048575 ∧ x.tolerance ≤ 64 ∧ 1 ≤ x.faultLimit ∧ x.faultLimit ≤ 15
  | 2 => 4 * x.tolerance < x.period
  | _ => True

/-- Checks 3 to 5 on a valid window; check 5 compares it with the valid windows of its kind and port that
stand before it. -/
def Bank.windowMeets (b : Bank) (w : WindowIx) : Nat → Prop
  | 3 => b.windows[w].openOff < b.windows[w].closeOff
  | 4 => b.windows[w].closeOff ≤ b.settings.period - b.settings.tolerance
  | 5 => ∀ v : WindowIx, v.val < w.val → b.windows[v].valid = true →
      b.windows[v].kind = b.windows[w].kind → b.windows[v].port = b.windows[w].port →
      b.windows[v].closeOff ≤ b.windows[w].openOff ∨ b.windows[w].closeOff ≤ b.windows[v].openOff
  | _ => True

/-- Ring steps k and the one behind it, circularly, carry different codes (check 10). -/
def Bank.differsAt (b : Bank) (r : StreamRec) (k : Nat) : Prop :=
  (b.ringStep r k).phase ≠ (b.ringStep r (nextPosition r k)).phase

/-- Checks 6 to 13 on an enabled stream; check 13 compares its tag with those of the enabled streams that
stand before it. -/
def Bank.streamMeets (b : Bank) (i : StreamIx) : Nat → Prop
  | 6 => b.windows[b.streams[i].window].valid = true ∧ b.windows[b.streams[i].window].kind = .admitting
  | 7 => b.streams[i].ringBase.val + b.streams[i].ringLength ≤ 1024
  | 8 => 2 ≤ b.streams[i].ringLength ∧ b.streams[i].ringLength ≤ 16
  | 9 => b.streams[i].entryStep < b.streams[i].ringLength
  | 10 => ∀ k, k < b.streams[i].ringLength → b.differsAt b.streams[i] k
  | 11 => 1 ≤ b.streams[i].framesPerCycle ∧ b.streams[i].framesPerCycle ≤ 4
  | 12 => ∀ t, b.streams[i].template = some t → b.templates[t] ≠ none
  | 13 => ∀ j : StreamIx, j.val < i.val → b.streams[j].enabled = true → b.streams[j].tag ≠ b.streams[i].tag
  | _ => True

/-- Every settings check holds. -/
def Bank.settingsPass (b : Bank) : Prop := ∀ n, b.settings.meets n

/-- Checks 3 and 4 hold for a window that is valid. -/
def Bank.windowPasses (b : Bank) (w : WindowIx) : Prop :=
  b.windows[w].valid = true → b.windowMeets w 3 ∧ b.windowMeets w 4

/-- Check 5 holds for a window that is valid. -/
def Bank.lanePasses (b : Bank) (w : WindowIx) : Prop := b.windows[w].valid = true → b.windowMeets w 5

/-- Checks 6 to 13 hold for a stream that is enabled. -/
def Bank.streamPasses (b : Bank) (i : StreamIx) : Prop :=
  b.streams[i].enabled = true → ∀ n, b.streamMeets i n

/-! ### Laws that the gate keeps -/

/-- No queue holds more than its capacity (R142, R158, R166), and the reply cache holds at most four
entries, no two of one address (R168). -/
structure CapacityLaw (s : State) : Prop where
  cyclic : ∀ p : Port, (s.egress.get p).cyclic.length ≤ 8
  mgmt : ∀ p : Port, (s.egress.get p).mgmt.length ≤ 4
  background : ∀ p : Port, (s.egress.get p).background.length ≤ 16
  intake : s.agent.intake.length ≤ 4
  records : s.events.queue.length ≤ 32
  cache : s.agent.cache.length ≤ 4
  addresses : (s.agent.cache.map (fun e => e.addr)).Nodup

/-- QF is set exactly while a cause is present, QS is set while QF is, and the unit state and the release
wait say which of the three cases holds (R92, R97, R98). -/
structure QuenchLaw (q : Quench) : Prop where
  qfSet : q.qf = !q.causes.isEmpty
  qsSet : q.qf = true → q.qs = true
  normal : q.unit = .normal ↔ q.qs = false
  quenched : q.unit = .quenched ↔ q.qf = true
  waiting : q.wait.isSome = true ↔ q.unit = .releasing

/-- A pending commit record exists exactly in PENDING, a restage reason exactly in RESTAGING (R111, R118). -/
structure StagingLaw (g : Staging) : Prop where
  commit : g.commit.isSome = true ↔ g.state = .pending
  reason : g.reason.isSome = true ↔ g.state = .restaging

/-- The active set passes every check of COMMIT, and so does the staged set of a pending commit (R118,
R120). -/
structure ValidSetLaw (s : State) : Prop where
  staging : StagingLaw s.staging
  active : validate s.active = none
  staged : s.staging.state = .pending → validate s.staged = none

/-- The hold cause is present exactly in HELD (R9); a stream is DISABLED exactly when it is not enabled in
the active set (R11); the position of an enabled stream lies inside its ring (R4), and that of an ARMED
stream is its entry step (R13); the admitted-this-cycle count of an enabled stream stays at or below its
frames per cycle (R56); outside a restage a clean stream has equal records in both sets (R113). -/
structure StreamLaw (s : State) : Prop where
  sets : ValidSetLaw s
  holdCause : ∀ i : StreamIx, s.streams[i].holdCause.isSome = true ↔ s.streams[i].state = .held
  disabled : ∀ i : StreamIx, s.streams[i].state = .disabled ↔ (s.streamRec i).enabled = false
  position : ∀ i : StreamIx, (s.streamRec i).enabled = true →
    s.streams[i].position < (s.streamRec i).ringLength
  armed : ∀ i : StreamIx, s.streams[i].state = .armed →
    s.streams[i].position = (s.streamRec i).entryStep
  admitted : ∀ i : StreamIx, (s.streamRec i).enabled = true →
    s.streams[i].admittedCount ≤ (s.streamRec i).framesPerCycle
  clean : s.staging.state ≠ .restaging → ∀ i : StreamIx,
    s.staging.dirty[i] = false → s.staged.streams[i] = s.active.streams[i]

/-- A port whose link is DOWN has empty queues and its transmitter DOWN, and no other port has (Table 9-2,
R143, R150); its port unit has no frame in reception (R129). -/
structure LinkLaw (s : State) : Prop where
  transmitter : ∀ p : Port, s.link p = .down ↔ (s.egress.get p).transmitter = .down
  cyclic : ∀ p : Port, s.link p = .down → (s.egress.get p).cyclic = []
  mgmt : ∀ p : Port, s.link p = .down → (s.egress.get p).mgmt = []
  background : ∀ p : Port, s.link p = .down → (s.egress.get p).background = []
  reception : ∀ p : Port, s.link p = .down → (s.ports.get p).reception = none

/-- No frame is queued or on the wire of the port on which it arrived (R144): what an egress unit refers to
is a held frame of another port. Held frames have names of their own, below the next one (log 19). -/
structure ReferenceLaw (s : State) : Prop where
  named : ∀ x ∈ s.frames, x.id < s.nextFrame
  distinct : (s.frames.map (fun x => x.id)).Nodup
  held : ∀ (p : Port) (ref : Nat), (s.egress.get p).refersTo ref = true →
    ∃ x ∈ s.frames, x.id = ref ∧ x.port ≠ p

/-- A management or background frame that started while RUNNING is on a port's wire under an open GUARD
window of that port at no moment but the one at which the counter meets the window's open offset, where
the cut-off is due (R149, log 2). -/
def GuardLaw (s : State) : Prop :=
  ∀ p : Port, s.cutDue p = true → ∃ w : WindowIx, s.active.windows[w].valid = true ∧
    s.active.windows[w].kind = .guard ∧ s.active.windows[w].port = p ∧
    s.active.windows[w].openOff = s.timer.counter

end Sys2Proof.Machine
end

