-- ==== Sys2Proof/Certificates/Slice0/Obligations.lean ====
section
/-! DEFINITION. The statements about the gate, for the provers. Words used: a request "is taken" when
`Takes` holds; `s.entered rest` is the state in which its effect acts; `conclude` is the answer, itself
the subject of `AnswerStoresAndOffersResponse`. A statement that rests on a choice of the model names
the log entry. -/

section
open Sys2Proof Sys2Proof.Machine

/-! ### The queue of commands and the tick -/

/-- The command at the front of the queue runs on the queue's rest. -/
def Obligations.FrontCommandRunsOnQueueRest : Prop :=
  ∀ (s : State) (c : Instr) (rest : List Instr),
    step (s.setPending (c :: rest)) = exec c (s.setPending rest)

/-- With an empty queue and nothing due, one tick passes: the base counts, the counter counts while RUNNING,
receptions and transmissions are a tick further, the level on QUENCH_N has been held for a tick more (log
11), nothing else changes; with something due, one of the occurrences that are due enters the queue (log
1, log 5, log 10). The other clauses say of every command when it is due: a close, an arrival, a selection, a
completion, a cut-off, an offer, an expiry or a level of the line as soon as its condition holds, a request
when it stands at the head of the intake queue with no restart wait present (log 43), and what comes from
outside (reset, links, starts of frames) never. -/
def Obligations.EmptyQueueTicksOrTakesWhatIsDue : Prop :=
  (∀ s : State, s.pending = [] → s.dueNow = [] →
     ∃ t : State, step s = .next t ∧
       t = { s with
         base := s.base + 1
         ports := t.ports, egress := s.egress.map Egress.tick
         timer := { s.timer with
           counter := if s.timer.state = .running then s.timer.counter + 1 else s.timer.counter }
         quench := { s.quench with
           pinTicks := if s.quench.pinTicks < 2 then s.quench.pinTicks + 1 else s.quench.pinTicks } } ∧
       (∀ p : Port,
         (t.ports.get p).link = (s.ports.get p).link ∧
         (t.ports.get p).counters = (s.ports.get p).counters ∧
         (t.ports.get p).reception =
           (s.ports.get p).reception.map (fun r => { r with elapsed := r.elapsed + 1 }) ∧
         (t.egress.get p).cyclic = (s.egress.get p).cyclic ∧
         (t.egress.get p).mgmt = (s.egress.get p).mgmt ∧
         (t.egress.get p).background = (s.egress.get p).background ∧
         (t.egress.get p).selectDue = (s.egress.get p).selectDue ∧
         (∀ x, (s.egress.get p).transmitter = .sending x →
           (t.egress.get p).transmitter = .sending { x with remaining := x.remaining - 1 }) ∧
         ((s.egress.get p).isSending = false →
           (t.egress.get p).transmitter = (s.egress.get p).transmitter))) ∧
  (∀ s : State, s.pending = [] → s.dueNow ≠ [] →
     ∃ c ∈ s.dueNow, ∃ n : Nat, step s = .next { s with pending := [c], draws := n }) ∧
  (∀ (s : State) (w : Nat),
     let reached (k : WindowKind) : Prop := ∃ v : WindowIx, v.val = w ∧ s.timer.state = .running ∧
       s.active.windows[v].valid = true ∧ s.active.windows[v].kind = k ∧
       s.active.windows[v].closeOff ≤ s.timer.counter ∧ s.timer.closesTaken.contains w = false
     (.windowClose w ∈ s.dueNow ↔ reached .admitting) ∧ (.guardClose w ∈ s.dueNow ↔ reached .guard)) ∧
  (∀ s : State,
     (.cycleStart ∈ s.dueNow ↔ s.cycleStartDue = true) ∧
     (.attributionIntervalClose ∈ s.dueNow ↔ s.timer.state = .running ∧
       (∃ a, s.timer.attribution = some a ∧ a.isOpen = true) ∧
       (∃ c, s.timer.current = some c ∧ c.tolerance + 1 ≤ s.timer.counter) ∧
       ∀ r, (s.ports.get s.active.settings.markPort).reception = some r → s.holdsInterval r = false) ∧
     (.pendingAdvanceEnd ∈ s.dueNow ↔ s.timer.state = .running ∧ s.timer.current.isSome = true ∧
       ∃ r, (s.ports.get s.active.settings.markPort).reception = some r ∧ r.start.unbroken = true ∧
         128 < min r.frame.length (r.elapsed / 2 - 8) ∧ r.advanceEnded = false ∧
         ((∃ c, s.timer.current = some c ∧ r.start.cycle = s.timer.cycleCount ∧ c.follow = .follow ∧
             c.period - c.tolerance ≤ r.start.offset) ∨
          (∃ e, s.timer.ended = some e ∧ r.start.cycle + 1#32 = s.timer.cycleCount ∧
             e.params.follow = .follow ∧ e.params.period - e.params.tolerance ≤ r.start.offset ∧
             ∀ a, s.timer.attribution = some a → a.onTime = false)))) ∧
  (∀ (s : State) (p : Port),
     (.frameArrival p ∈ s.dueNow ↔ ∃ r, (s.ports.get p).reception = some r ∧
       (r.frame.length + 20) * 2 ≤ r.elapsed) ∧
     (.transmitStart p ∈ s.dueNow ↔ (s.egress.get p).selectDue = true ∧
       ((s.egress.get p).transmitter = .idle ∨ (s.egress.get p).transmitter = .waiting)) ∧
     (.transmitComplete p ∈ s.dueNow ↔ ∃ x, (s.egress.get p).transmitter = .sending x ∧
       x.remaining = 0) ∧
     (.guardOpen p ∈ s.dueNow ↔ (s.openGuard p).isSome = true ∧
       ∃ x, (s.egress.get p).transmitter = .sending x ∧ x.startedRunning = some true) ∧
     (.notificationOffer p ∈ s.dueNow ↔ s.link p = .up ∧ (s.egress.get p).mgmt.length < 4 ∧
       ∃ r ∈ s.events.queue, (r.state = .unsent ∨ r.state = .resendDue) ∧
         s.events.listeners[r.listener].port = p)) ∧
  (∀ (s : State) (l : ListenerIx) (q : Half), .retryTimerExpiry l q ∈ s.dueNow ↔
     ∃ r ∈ s.events.queue, r.listener = l ∧ r.seq = q ∧ ∃ t, r.state = .awaiting t ∧ t ≤ s.base) ∧
  (∀ s : State,
     (.leaseExpiry ∈ s.dueNow ↔ ∃ o, s.agent.owner = some o ∧ o.expiry ≤ s.base) ∧
     (.restageCompletion ∈ s.dueNow ↔ s.staging.state = .restaging ∧
       ∀ t, s.staging.restageEnd = some t → t ≤ s.base) ∧
     (.restartWaitExpiry ∈ s.dueNow ↔ ∃ w, s.agent.restartWait = some w ∧ w.deadline ≤ s.base ∧
       (w.failed = true ∨ ∃ (p : Port) (f : List Byte), .response f true ∈ (s.egress.get p).mgmt)) ∧
     (.quenchLineAsserted ∈ s.dueNow ↔ s.quench.pin = .asserted ∧ s.quench.level = .deasserted ∧
       2 ≤ s.quench.pinTicks) ∧
     (.quenchLineDeasserted ∈ s.dueNow ↔ s.quench.pin = .deasserted ∧ s.quench.level = .asserted ∧
       2 ≤ s.quench.pinTicks) ∧
     (∀ c ∈ ownerCommands ++ openCommands ++ [.unknownRequest], c ∈ s.dueNow ↔
       s.agent.restartWait = none ∧ ∃ r rest, s.agent.intake = r :: rest ∧ r.command = c) ∧
     (∀ (strap : BitVec 4) (links : PerPort LinkState) (level : LineLevel),
       .coldReset strap links level ∉ s.dueNow) ∧
     (∀ (p : Port) (f : List Byte),
       .linkUp p ∉ s.dueNow ∧ .linkDown p ∉ s.dueNow ∧ .startOfFrame p f ∉ s.dueNow))

/-- A command whose occasion does not hold leaves the state as it is (DESIGN CHOICE, log 2): among them a
window close or guard close that is not reached, is taken already in this cycle, or names no valid window
of its kind, and the retry timer of a record that is gone, not AWAITING or not yet run out. -/
def Obligations.OccurrencesThatAreNotDueChangeNothing : Prop :=
  ∀ s : State,
    (s.cycleStartDue = false → exec .cycleStart s = .next s) ∧
    (s.intervalOver = false → exec .attributionIntervalClose s = .next s) ∧
    (s.advanceEndDue = false → exec .pendingAdvanceEnd s = .next s) ∧
    (s.restageDone = false → exec .restageCompletion s = .next s) ∧
    (s.leaseDue = false → exec .leaseExpiry s = .next s) ∧
    (s.restartDue = false → exec .restartWaitExpiry s = .next s) ∧
    (∀ p : Port, (s.cutDue p = false → exec (.guardOpen p) s = .next s) ∧
      (s.offerDue p = false → exec (.notificationOffer p) s = .next s) ∧
      ((s.egress.get p).maySelect = false → exec (.transmitStart p) s = .next s)) ∧
    (∀ w : Nat, 64 ≤ w →
      exec (.windowClose w) s = .next s ∧ exec (.guardClose w) s = .next s) ∧
    (∀ w : WindowIx,
      (s.timer.state ≠ .running ∨ s.active.windows[w].valid = false ∨
          s.timer.counter < s.active.windows[w].closeOff ∨
          s.timer.closesTaken.contains w.val = true →
        exec (.windowClose w.val) s = .next s ∧ exec (.guardClose w.val) s = .next s) ∧
      (s.active.windows[w].kind = .guard → exec (.windowClose w.val) s = .next s) ∧
      (s.active.windows[w].kind = .admitting → exec (.guardClose w.val) s = .next s)) ∧
    (∀ (l : ListenerIx) (q : Half),
      (∀ r ∈ s.events.queue, r.listener = l → r.seq = q → ∀ t, r.state = .awaiting t → s.base < t) →
      exec (.retryTimerExpiry l q) s = .next s) ∧
    (∀ c ∈ ownerCommands ++ openCommands ++ [.unknownRequest],
      (s.agent.restartWait.isSome = true ∨ s.agent.intake = [] ∨
        ∃ r rest, s.agent.intake = r :: rest ∧ r.command ≠ c) → exec c s = .next s)

/-- Every command answers a next state, in any state and with any operands (log 26), and changes no block
outside its footprint: the frame of every command, block by block. -/
def Obligations.CommandsKeepTheirFootprint : Prop :=
  ∀ (c : Instr) (s : State), ∃ t : State, exec c s = .next t ∧ Within (footprint c) s t

/-! ### Cold reset -/

/-- Cold reset: all stream runtime records at Table 1-8, no tag known, and both banks at the defaults of Tables
1-1, 1-2, 3-1 and 7-2, with no template. -/
def Obligations.ColdResetDisablesEveryStream : Prop :=
  ∀ (s : State) (strap : BitVec 4) (links : PerPort LinkState) (level : LineLevel),
    ∃ t : State, exec (.coldReset strap links level) s = .next t ∧
      (∀ i : StreamIx, t.streams[i] =
        { state := .disabled, position := 0, admittedCount := 0, absenceRun := 0, holdCause := none
          lastAdvance := none, spacing := none
          counters := ⟨0#32, 0#32, 0#32, 0#32, 0#32, 0#32, 0#32, 0#32, 0#32, 0#32, 0#32⟩ }) ∧
      (∀ n : BankName, (t.bank n).settings =
          { period := 25000, follow := .free, markPort := .p0, tolerance := 0, faultLimit := 3
            markForward := 0#4, quenchEgress := 0b1110#4, background := ⟨0#4, 0#4, 0#4, 0#4⟩ } ∧
        (∀ w : WindowIx, (t.bank n).windows[w] =
          { valid := false, kind := .admitting, port := .p0, openOff := 0, closeOff := 0 }) ∧
        (∀ i : StreamIx, (t.bank n).streams[i] =
          { enabled := false, tag := 0#16, window := 0, framesPerCycle := 1, ringBase := 0
            ringLength := 2, entryStep := 0, repeatPolicy := .forward, strayPolicy := .count
            fill := false, absenceLimit := 0, stallPolicy := .hold, template := none }) ∧
        (∀ k : StepIx, (t.bank n).steps[k] = { phase := 0#4, egress := 0#4, notify := false }) ∧
        (∀ k : TemplateIx, (t.bank n).templates[k] = none)) ∧
      (∀ tag : Half, t.lookupTag tag = none)

/-- Cold reset: timer, staging controller, quench unit, event unit and agent at their cold-reset values,
the station address from the straps; each port has the PHY's link state, nothing in reception, empty
queues and counters at 0. The time base and the queue of commands are kept (the model's choice: log 6, log
7), and the level on QUENCH_N counts as held (log 11). -/
def Obligations.ColdResetSetsEveryOtherBlock : Prop :=
  (∀ (s : State) (strap : BitVec 4) (links : PerPort LinkState) (level : LineLevel),
     ∃ t : State, exec (.coldReset strap links level) s = .next t ∧
       t.timer.state = .stopped ∧ t.timer.counter = 0 ∧ t.timer.cycleCount = 0#32 ∧
       t.timer.cycleLength = 25000 ∧ t.timer.faultCount = 0 ∧ t.timer.attribution = none ∧
       t.staging.active = .a ∧ t.staging.state = .ready ∧ t.staging.commit = none ∧
       (∀ i : StreamIx, t.staging.dirty[i] = false) ∧ t.staging.fault = none ∧
       t.staging.reason = none ∧
       t.quench.causes = ⟨decide (level = .asserted), false, false, false, true, false⟩ ∧
       t.quench.qf = true ∧ t.quench.qs = true ∧ t.quench.unit = .quenched ∧ t.quench.wait = none ∧
       t.quench.lineEnable = true ∧ t.quench.lineMode = .auto ∧ t.quench.releaseMode = .immediate ∧
       t.events.flags = 0#16 ∧ t.events.queue = [] ∧
       (∀ c : Fin 16, t.events.classes[c] = { enabled := false, listener := 0 }) ∧
       (∀ l : ListenerIx, t.events.listeners[l] = ⟨false, 0#48, .p0, 100, 3, 0#16, 0, 0⟩) ∧
       t.agent.intake = [] ∧ t.agent.cache = [] ∧ t.agent.owner = none ∧
       t.agent.mgmtPorts = 0b0001#4 ∧ t.agent.restartWait = none ∧ t.agent.executed = 0#32 ∧
       t.agent.cacheAnswers = 0#32 ∧ t.agent.intakeDiscards = 0#32 ∧
       t.stationAddr = 0x024F53D24000#48 + strap.setWidth 48) ∧
  (∀ (s : State) (strap : BitVec 4) (links : PerPort LinkState) (level : LineLevel),
     ∃ t : State, exec (.coldReset strap links level) s = .next t ∧
       t.base = s.base ∧ t.pending = s.pending ∧ t.frames = [] ∧
       t.quench.level = level ∧ t.quench.pin = level ∧ t.quench.pinTicks = 2 ∧
       ∀ p : Port,
         (t.ports.get p).link = links.get p ∧ (t.ports.get p).reception = none ∧
         (t.ports.get p).counters = PortCounters.zero ∧
         (t.egress.get p).cyclic = [] ∧ (t.egress.get p).mgmt = [] ∧
         (t.egress.get p).background = [] ∧
         (t.egress.get p).transmitter = (match links.get p with | .up => .idle | .down => .down))

/-- The state at power-up is the one that a cold reset leaves with straps 0, all links DOWN and the line
deasserted (DESIGN CHOICE, log 6; the model's own fields 0, log 7); the seven laws hold in it. -/
def Obligations.PowerUpIsAColdResetAndLawful : Prop :=
  (exec (.coldReset 0#4 ⟨.down, .down, .down, .down⟩ .deasserted) State.reset = .next State.reset) ∧
  (CapacityLaw State.reset ∧ QuenchLaw State.reset.quench ∧ ValidSetLaw State.reset ∧
     StreamLaw State.reset ∧ LinkLaw State.reset ∧ ReferenceLaw State.reset ∧ GuardLaw State.reset)

/-! ### The quench unit -/

/-- QUENCH_N's level is taken when the pin has had it for two ticks: a change of the pin starts the count, and
a level held for less is not taken, but one that has stood its two ticks is taken before the pin leaves it
(log 11). Taken as asserted: with line enable on, LINE is added.
Taken as deasserted, or as asserted with line enable off: LINE is removed in AUTO mode and kept in LATCHED
mode. A level that the line already has is no change. -/
def Obligations.QuenchLineMovesLineCause : Prop :=
  (∀ s : State, s.quench.pin = .asserted → 2 ≤ s.quench.pinTicks → s.quench.level = .deasserted →
     s.quench.lineEnable = true →
     ∃ t : State, exec .quenchLineAsserted s = .next t ∧
       t.quench.level = .asserted ∧ t.quench.causes = { s.quench.causes with line := true } ∧
       (QuenchLaw s.quench → t.quench.qf = true ∧ t.quench.qs = true ∧ t.quench.unit = .quenched ∧
         t.quench.wait = none) ∧
       t.quench.lineMode = s.quench.lineMode ∧ t.quench.releaseMode = s.quench.releaseMode) ∧
  (∀ s : State, s.quench.pin = .asserted → 2 ≤ s.quench.pinTicks → s.quench.level = .deasserted →
     s.quench.lineEnable = false →
     ∃ t : State, exec .quenchLineAsserted s = .next t ∧ t.quench.level = .asserted ∧
       (s.quench.lineMode = .auto → t.quench.causes = { s.quench.causes with line := false }) ∧
       (s.quench.lineMode = .latched → t = s.setQuench { s.quench with level := .asserted })) ∧
  (∀ s : State, s.quench.pin = .deasserted → 2 ≤ s.quench.pinTicks → s.quench.level = .asserted →
     ∃ t : State, exec .quenchLineDeasserted s = .next t ∧ t.quench.level = .deasserted ∧
       (s.quench.lineMode = .auto → t.quench.causes = { s.quench.causes with line := false }) ∧
       (s.quench.lineMode = .latched → t.quench = { s.quench with level := .deasserted } ∧
         t.events = s.events ∧ t.egress = s.egress)) ∧
  (∀ s : State,
     (s.quench.pin = .deasserted → s.quench.pinTicks < 2 ∨ s.quench.level = .deasserted →
       exec .quenchLineAsserted s =
         .next (s.setQuench { s.quench with pin := .asserted, pinTicks := 0 })) ∧
     (s.quench.pin = .asserted → s.quench.pinTicks < 2 ∨ s.quench.level = .asserted →
       exec .quenchLineDeasserted s =
         .next (s.setQuench { s.quench with pin := .deasserted, pinTicks := 0 })) ∧
     (s.quench.pin = .deasserted → 2 ≤ s.quench.pinTicks → s.quench.level = .asserted →
       ∃ t : State, exec .quenchLineDeasserted s = .next t ∧ t.quench.level = .deasserted ∧
         t.quench.pin = .deasserted ∧ exec .quenchLineAsserted s =
           .next (t.setQuench { t.quench with pin := .asserted, pinTicks := 0 })) ∧
     (s.quench.pin = .asserted → 2 ≤ s.quench.pinTicks → s.quench.level = .deasserted →
       ∃ t : State, exec .quenchLineAsserted s = .next t ∧ t.quench.level = .asserted ∧
         t.quench.pin = .asserted ∧ exec .quenchLineDeasserted s =
           .next (t.setQuench { t.quench with pin := .deasserted, pinTicks := 0 })) ∧
     (s.quench.pin = .asserted → s.quench.pinTicks < 2 ∨ s.quench.level = .asserted →
       exec .quenchLineAsserted s = .next s) ∧
     (s.quench.pin = .deasserted → s.quench.pinTicks < 2 ∨ s.quench.level = .deasserted →
       exec .quenchLineDeasserted s = .next s) ∧
     (s.quench.pin = .asserted → s.quench.level = .deasserted → 2 ≤ s.quench.pinTicks →
       .quenchLineAsserted ∈ s.dueNow) ∧
     (s.quench.pin = .deasserted → s.quench.level = .asserted → 2 ≤ s.quench.pinTicks →
       .quenchLineDeasserted ∈ s.dueNow))

/-- A cause added to an empty set sets QF and QS and cancels a wait; QUENCH-ON is raised when QS was
clear; a cause added to a set that holds another changes the set alone; a cause present is no change. The
last clause gives the reading and the putting of a cause by the fields of the set. -/
def Obligations.AddingACauseSetsQuench : Prop :=
  (∀ (s : State) (c : Cause), QuenchLaw s.quench →
    (s.addCause c).quench.causes = s.quench.causes.put c true ∧
    (s.addCause c).quench.qf = true ∧ (s.addCause c).quench.qs = true ∧
    (s.addCause c).quench.unit = .quenched ∧ (s.addCause c).quench.wait = none ∧
    (s.quench.qs = false →
      s.addCause c = (s.setQuench (s.addCause c).quench).raise
        { cls := .quenchOn, stream := none, port := none, detail := BitVec.ofNat 16 (causeCode c)
          test := false }) ∧
    (s.quench.qs = true → s.addCause c = s.setQuench (s.addCause c).quench) ∧
    (s.quench.causes.has c = true → s.addCause c = s)) ∧
  (∀ (x : CauseSet) (b : Bool),
    (x.has .line = x.line ∧ x.has .command = x.command ∧ x.has .stream = x.stream ∧
      x.has .mark = x.mark ∧ x.has .startup = x.startup ∧ x.has .restart = x.restart) ∧
    x.put .line b = { x with line := b } ∧ x.put .command b = { x with command := b } ∧
    x.put .stream b = { x with stream := b } ∧ x.put .mark b = { x with mark := b } ∧
    x.put .startup b = { x with startup := b } ∧ x.put .restart b = { x with restart := b })

/-- A removal takes the causes of its list out of the set and no other, whatever they are; where a cause is
left, and where the set was empty before, it does nothing else. The rows of Table 6-4: what follows when the
last cause goes. The ends of a release wait: a CYCLE wait at
a cycle start, a MARK wait at an on-time mark or at the start of a FREE cycle, either at a TIMER-STOP;
QS falls, NORMAL, QUENCH-OFF with the detail of the end. -/
def Obligations.LastCauseGoneFollowsReleaseMode : Prop :=
  (∀ (s : State) (cs : List Cause),
    let x := s.quench.causes
    let left : CauseSet :=
      { line := x.line && decide (Cause.line ∉ cs), command := x.command && decide (Cause.command ∉ cs)
        stream := x.stream && decide (Cause.stream ∉ cs), mark := x.mark && decide (Cause.mark ∉ cs)
        startup := x.startup && decide (Cause.startup ∉ cs)
        restart := x.restart && decide (Cause.restart ∉ cs) }
    x.removeAll cs = left ∧ (s.removeCauses cs).quench.causes = left ∧
    (x.isEmpty = true ↔ x = ⟨false, false, false, false, false, false⟩) ∧
    (left.isEmpty = false → s.removeCauses cs = s.setQuench { s.quench with causes := left }) ∧
    (x.isEmpty = true → s.removeCauses cs = s)) ∧
  (∀ (s : State) (cs : List Cause), s.quench.causes.isEmpty = false →
    (s.quench.causes.removeAll cs).isEmpty = true → s.quench.unit = .quenched → s.quench.qs = true →
    let q := { s.quench with causes := s.quench.causes.removeAll cs, qf := false }
    let falls (code : Half) : State :=
      (s.setQuench { q with qs := false, unit := .normal, wait := none }).raise
        { cls := .quenchOff, stream := none, port := none, detail := code, test := false }
    (s.quench.releaseMode = .immediate → s.removeCauses cs = falls 1#16) ∧
    (s.quench.releaseMode ≠ .immediate → s.timer.state ≠ .running → s.removeCauses cs = falls 2#16) ∧
    (s.quench.releaseMode = .cycle → s.timer.state = .running →
      s.removeCauses cs = s.setQuench { q with unit := .releasing, wait := some .cycle }) ∧
    (∀ c, s.quench.releaseMode = .mark → s.timer.state = .running → s.timer.current = some c →
      (c.follow = .free → s.removeCauses cs = falls 3#16) ∧
      (c.follow = .follow →
        s.removeCauses cs = s.setQuench { q with unit := .releasing, wait := some .mark }))) ∧
  (∀ s : State,
    let falls (code : Half) : State :=
      (s.setQuench { s.quench with qs := false, unit := .normal, wait := none }).raise
        { cls := .quenchOff, stream := none, port := none, detail := code, test := false }
    (s.quench.wait = none →
      s.quenchCycleStart = s ∧ s.quenchOnTimeMark = s ∧ s.quenchTimerStop = s) ∧
    (s.quench.wait = some .cycle →
      s.quenchCycleStart = falls 4#16 ∧ s.quenchOnTimeMark = s ∧ s.quenchTimerStop = falls 6#16) ∧
    (s.quench.wait = some .mark →
      s.quenchOnTimeMark = falls 5#16 ∧ s.quenchTimerStop = falls 6#16 ∧
      (∀ c, s.timer.state = .running → s.timer.current = some c →
        (c.follow = .follow → s.quenchCycleStart = s) ∧
        (c.follow = .free → s.quenchCycleStart = falls 3#16))))

/-! ### Ports and reception -/

/-- A change to UP: the transmitter becomes IDLE and LINK is raised with detail UP. A change to DOWN: nothing
in reception any more, counted when there was; the three queues flushed and their entries counted; a
frame on the wire abandoned and counted; a RESTART response among them is handed to the agent as failed;
LINK is raised with detail DOWN. After that the attribution intervals that the discarded frame held close
(behind LINK: log 35; an interval carried past a cycle start at its frame: log 15), the end of its pending
advance calls the arbiters, a restart that waited on that response takes place (log 38, log 45), and frames
that nothing refers to are released. The other ports' link states, receptions and counters stay. Where the
discarded frame held no interval, and on every port other than the mark port but for a carried interval, the
timer's record stays. A report of the state already held changes nothing. -/
def Obligations.LinkReportsChangeThePort : Prop :=
  (∀ (s : State) (p : Port),
     (s.link p = .up → exec (.linkUp p) s = .next s) ∧
     (s.link p = .down →
       exec (.linkUp p) s = .next
         (((s.updatePort p (fun u => { u with link := .up })).updateEgress p
           (fun e => { e with transmitter := .idle })).raise
             { cls := .link, stream := none, port := some p, detail := 1#16, test := false }))) ∧
  (∀ (s : State) (p : Port), s.link p = .up → s.agent.restartWait = none →
     ∃ t : State, exec (.linkDown p) s = .next t ∧
       t.link p = .down ∧ (t.ports.get p).reception = none ∧
       (t.egress.get p).cyclic = [] ∧ (t.egress.get p).mgmt = [] ∧
       (t.egress.get p).background = [] ∧ (t.egress.get p).transmitter = .down ∧
       (t.ports.get p).counters =
         { (s.ports.get p).counters with
           abortedReceptions := (s.ports.get p).counters.abortedReceptions +
             (if (s.ports.get p).reception.isSome then 1#32 else 0#32)
           linkFlushDrops := (s.ports.get p).counters.linkFlushDrops +
             BitVec.ofNat 32 ((s.egress.get p).cyclic.length + (s.egress.get p).mgmt.length +
               (s.egress.get p).background.length)
           abandoned := (s.ports.get p).counters.abandoned +
             (if (s.egress.get p).isSending then 1#32 else 0#32) } ∧
       t.events.flags.getLsbD 13 = true ∧
       (∀ q : Port, q ≠ p → t.ports.get q = s.ports.get q) ∧
       t.streams = s.streams) ∧
  (∀ (s : State) (p : Port), s.link p = .down → exec (.linkDown p) s = .next s) ∧
  (∀ (s : State) (p : Port), s.link p = .up →
     let e := s.egress.get p
     let flushed := ((s.updatePort p (fun u => { u with
         link := .down, reception := none
         counters := { u.counters with
           abortedReceptions := u.counters.abortedReceptions +
             (if u.reception.isSome then 1#32 else 0#32)
           linkFlushDrops := u.counters.linkFlushDrops +
             BitVec.ofNat 32 (e.cyclic.length + e.mgmt.length + e.background.length)
           abandoned := u.counters.abandoned + (if e.isSending then 1#32 else 0#32) } })).setAgent
       { s.agent with restartWait := s.agent.restartWait.map (fun w =>
           { w with failed := w.failed || e.queuesRestart || e.sendsRestart }) }).updateEgress p
       (fun _ => { cyclic := [], mgmt := [], background := [], transmitter := .down, selectDue := false })
     let raised := flushed.raise
       { cls := .link, stream := none, port := some p, detail := 0#16, test := false }
     let closed := s.endHolds raised p (s.ports.get p).reception
     let called := if s.pendingAdvance = closed.pendingAdvance then closed
       else closed.setEgress (closed.egress.map (fun x => { x with selectDue := true }))
     ((∀ w, called.agent.restartWait = some w → w.failed = true → called.base < w.deadline) →
       exec (.linkDown p) s = .next called.releaseFrames) ∧
     (∀ w, called.agent.restartWait = some w → w.failed = true → w.deadline ≤ called.base →
       exec (.linkDown p) s = .next called.warmRestart.releaseFrames)) ∧
  (∀ e : Egress,
     (e.queuesRestart = true ↔ ∃ f : List Byte, .response f true ∈ e.mgmt) ∧
     (e.sendsRestart = true ↔ ∃ x, e.transmitter = .sending x ∧ x.sent = .response true)) ∧
  (∀ s : State, exec .attributionIntervalClose s = .next s.closeIntervalIfOver) ∧
  (∀ (s : State) (p : Port), s.link p = .up → s.agent.restartWait = none →
     (∀ r, (s.ports.get p).reception = some r → r.holdsEarlier = false ∧
       (p = s.active.settings.markPort → s.holdsInterval r = false)) →
     ∃ t : State, exec (.linkDown p) s = .next t ∧ t.timer = s.timer)

/-- A start of frame makes the start record from the timer; the whole frame comes with the command (log 3).
Where a frame stands on the port whose wire time has passed, its arrival is taken first, and the next frame
starts in the state that it leaves. On a port whose link is DOWN there is none, and while the wire time of
a frame in reception has not passed the command does not take place (log 2). -/
def Obligations.StartOfFrameMakesStartRecord : Prop :=
  (∀ (s : State) (p : Port) (f : List Byte), s.link p = .up → (s.ports.get p).reception = none →
     exec (.startOfFrame p f) s = .next (s.updatePort p (fun u => { u with
       reception := some
         { start :=
             { offset := s.timer.counter, cycle := s.timer.cycleCount
               unbroken := decide (s.timer.state = .running) }
           frame := f, elapsed := 0, advanceEnded := false, holdsEarlier := false } }))) ∧
  (∀ (s : State) (p : Port) (f : List Byte),
     (s.link p = .down ∨ ∃ r, (s.ports.get p).reception = some r ∧
       r.elapsed < (r.frame.length + 20) * 2) →
     exec (.startOfFrame p f) s = .next s) ∧
  (∀ (s : State) (p : Port) (f : List Byte) (r : Reception), s.link p = .up →
     (s.ports.get p).reception = some r → (r.frame.length + 20) * 2 ≤ r.elapsed →
     ∃ u : State, exec (.frameArrival p) s = .next u ∧
       exec (.startOfFrame p f) s = .next (u.updatePort p (fun x => { x with
         reception := some
           { start :=
               { offset := u.timer.counter, cycle := u.timer.cycleCount
                 unbroken := decide (u.timer.state = .running) }
             frame := f, elapsed := 0, advanceEnded := false, holdsEarlier := false } })))

/-- One wire time after its start a frame leaves reception and is judged: a runt, a giant and a frame with a
wrong FCS are counted and discarded with nothing else, and a good frame is counted and handed on. After
that the attribution intervals that it held close (of the current start only on the mark port), the end of its pending advance calls the arbiters, a
restart that waited on a cut-off response takes place, and frames that nothing refers to are released, in
this order (log 35, log 38, log 45). Before that moment nothing happens (log 3). -/
def Obligations.FrameArrivalJudgesTheFrame : Prop :=
  (∀ (s : State) (p : Port) (r : Reception), (s.ports.get p).reception = some r →
     (r.frame.length + 20) * 2 ≤ r.elapsed →
     ∃ judged closed called : State,
       judged = (s.updatePort p (fun u => { u with reception := none })).receiveFrame p r.start r.frame ∧
       closed = s.endHolds judged p (some r) ∧
       called = (if s.pendingAdvance = closed.pendingAdvance then closed
         else closed.setEgress (closed.egress.map (fun e => { e with selectDue := true }))) ∧
       ((∀ w, called.agent.restartWait = some w → w.failed = true → called.base < w.deadline) →
         exec (.frameArrival p) s = .next called.releaseFrames) ∧
       (∀ w, called.agent.restartWait = some w → w.failed = true → w.deadline ≤ called.base →
         exec (.frameArrival p) s = .next called.warmRestart.releaseFrames)) ∧
  (∀ (s : State) (p : Port) (r : StartRecord) (f : List Byte),
     (f.length < 64 →
       s.receiveFrame p r f = s.countPort p (fun c => { c with runts := c.runts + 1#32 })) ∧
     (1522 < f.length →
       s.receiveFrame p r f = s.countPort p (fun c => { c with giants := c.giants + 1#32 })) ∧
     (64 ≤ f.length → f.length ≤ 1522 → fcsMatches f = false →
       s.receiveFrame p r f = s.countPort p (fun c => { c with fcsErrors := c.fcsErrors + 1#32 })) ∧
     (64 ≤ f.length → f.length ≤ 1522 → fcsMatches f = true →
       s.receiveFrame p r f =
         (s.countPort p (fun c => { c with good := c.good + 1#32 })).goodFrame p r f)) ∧
  (∀ (s : State) (p : Port) (r : Reception), (s.ports.get p).reception = some r →
     (r.frame.length + 20) * 2 ≤ r.elapsed → s.agent.restartWait = none →
     ∃ t : State, exec (.frameArrival p) s = .next t ∧ (t.ports.get p).reception = none ∧
       (64 ≤ r.frame.length → r.frame.length ≤ 1522 → fcsMatches r.frame = true →
         (t.ports.get p).counters.good = (s.ports.get p).counters.good + 1#32) ∧
       t.link p = s.link p) ∧
  (∀ (s : State) (p : Port) (r : Reception), (s.ports.get p).reception = some r →
     (r.frame.length + 20) * 2 ≤ r.elapsed → s.timer.state ≠ .running → s.agent.restartWait = none →
     (r.frame.length < 64 →
       exec (.frameArrival p) s = .next ((s.updatePort p (fun u => { u with
         reception := none, counters := { u.counters with runts := u.counters.runts + 1#32 } })).releaseFrames)) ∧
     (1522 < r.frame.length →
       exec (.frameArrival p) s = .next ((s.updatePort p (fun u => { u with
         reception := none, counters := { u.counters with giants := u.counters.giants + 1#32 } })).releaseFrames)) ∧
     (64 ≤ r.frame.length → r.frame.length ≤ 1522 → fcsMatches r.frame = false →
       exec (.frameArrival p) s = .next ((s.updatePort p (fun u => { u with
         reception := none, counters := { u.counters with fcsErrors := u.counters.fcsErrors + 1#32 } })).releaseFrames))) ∧
  (∀ (s : State) (p : Port),
     (s.ports.get p).reception = none ∨
       (∃ r, (s.ports.get p).reception = some r ∧ r.elapsed < (r.frame.length + 20) * 2) →
     exec (.frameArrival p) s = .next s)

/-- A malformed good frame is counted and discarded, whatever its address and port; no event, no entry. -/
def Obligations.MalformedFramesAreDiscarded : Prop :=
  ∀ (s : State) (p : Port) (r : StartRecord) (f : List Byte),
    64 ≤ f.length → f.length ≤ 1522 → fcsMatches f = true → halfAt f 12 = 0x88B5#16 →
    (frameVersion f ≠ 1 ∨ 4 < frameKind f) →
    22 ≤ 60 ∧ 60 ≤ (frameContent f).length ∧
    s.receiveFrame p r f = s.countPort p (fun c => { c with
      good := c.good + 1#32, malformed := c.malformed + 1#32 })

/-- A management request to the station address, or a broadcast DISCOVER, enters the intake queue while it
holds fewer than 4, else it is discarded and counted; on a port outside the management port set it is
foreign. The request code is read from the payload-length bytes (log 41). A frame of kind 0 whose tag no
enabled stream of the active set carries is unknown: counted, discarded, UNKNOWN raised. Every other good
frame that is not a cycle mark is background: counted, offered to each port of its background set without
its arrival port, or counted as unforwarded where there is none. -/
def Obligations.RequestsAndUnknownTagsAreSorted : Prop :=
  (∀ (s : State) (p : Port) (r : StartRecord) (f : List Byte),
     halfAt f 12 = 0x88B5#16 → frameVersion f = 1 → frameKind f = 2 →
     (frameDest f = s.stationAddr ∨ frameDest f = 0xFFFFFFFFFFFF#48 ∧ 2 ≤ (requestBody f).length ∧
       natAt (requestBody f) 0 2 = 0x0001) →
     (s.agent.mgmtPorts.getLsbD p.index = true → s.agent.intake.length < 4 →
       s.goodFrame p r f =
         (s.countPort p (fun c => { c with requestsAccepted := c.requestsAccepted + 1#32 })).setAgent
           { s.agent with intake := s.agent.intake ++ [requestOf p f] }) ∧
     (s.agent.mgmtPorts.getLsbD p.index = true → 4 ≤ s.agent.intake.length →
       s.goodFrame p r f =
         (s.countPort p (fun c => { c with requestsAccepted := c.requestsAccepted + 1#32 })).setAgent
           { s.agent with intakeDiscards := s.agent.intakeDiscards + 1#32 }) ∧
     (s.agent.mgmtPorts.getLsbD p.index = false →
       s.goodFrame p r f =
         (s.countPort p (fun c => { c with foreign := c.foreign + 1#32 })).raise
           { cls := .foreign, stream := none, port := some p, detail := foreignCode f, test := false })) ∧
  (∀ (s : State) (p : Port) (r : StartRecord) (f : List Byte),
     halfAt f 12 = 0x88B5#16 → frameVersion f = 1 → frameKind f = 0 →
     (∀ i : StreamIx, (s.streamRec i).enabled = true → (s.streamRec i).tag ≠ halfAt f 16) →
     s.goodFrame p r f = (s.countPort p (fun c => { c with unknownTag := c.unknownTag + 1#32 })).raise
       { cls := .unknown, stream := none, port := some p, detail := halfAt f 16, test := false }) ∧
  (∀ (s : State) (p : Port) (r : StartRecord) (f : List Byte),
     (halfAt f 12 ≠ 0x88B5#16 ∨ frameVersion f = 1 ∧
       (frameKind f = 1 ∧ p ≠ s.active.settings.markPort ∨ frameKind f = 3 ∨ frameKind f = 4 ∨
         frameKind f = 2 ∧ frameDest f ≠ s.stationAddr ∧
           ¬ (frameDest f = 0xFFFFFFFFFFFF#48 ∧ 2 ≤ (requestBody f).length ∧
             natAt (requestBody f) 0 2 = 0x0001))) →
     let counted := s.countPort p (fun c => { c with background := c.background + 1#32 })
     let ports := (s.active.settings.background.get p).portsWithout p
     (ports = [] → s.goodFrame p r f =
       counted.countPort p (fun c => { c with
         backgroundUnforwarded := c.backgroundUnforwarded + 1#32 })) ∧
     (ports ≠ [] → s.goodFrame p r f =
       ports.foldl (fun t q => t.offerBackground s.nextFrame q) (counted.holdFrame p f))) ∧
  (∀ (s : State) (ref : Nat) (q : Port),
     (s.link q = .up → (s.egress.get q).background.length < 16 →
       s.offerBackground ref q = s.updateEgress q (fun x => { x with
         background := x.background ++ [ref], selectDue := true })) ∧
     ((s.link q = .down ∨ 16 ≤ (s.egress.get q).background.length) →
       s.offerBackground ref q =
         s.countPort q (fun c => { c with backgroundDrops := c.backgroundDrops + 1#32 }))) ∧
  (∀ (p : Port) (f : List Byte),
     requestBody f = ((f.take (f.length - 4)).drop 22).take (natAt f 18 2) ∧
     requestOf p f =
       { port := p, source := addrAt f 6, body := requestBody f
         overrun := decide (f.length - 4 - 22 < natAt f 18 2) } ∧
     ((requestBody f).length < 2 → foreignCode f = 0xFFFF#16) ∧
     (2 ≤ (requestBody f).length → foreignCode f = halfAt (requestBody f) 0))

/-- The checks of admission in order, each value of the start record falling under the first that it meets,
and what each outcome does with a frame of a known tag. -/
def Obligations.AdmissionChecksInOrder : Prop :=
  (∀ (s : State) (i : StreamIx) (p : Port) (r : StartRecord),
     let w := s.active.windows[(s.streamRec i).window]
     s.admission i p r =
       (if s.timer.state ≠ .running ∨ r.unbroken = false then .misplaced 1#16
        else if r.cycle ≠ s.timer.cycleCount then .misplaced 2#16
        else if p ≠ w.port then .misplaced 3#16
        else if r.offset < w.openOff ∨ w.closeOff ≤ r.offset then .misplaced 4#16
        else if s.streams[i].admittedCount = (s.streamRec i).framesPerCycle then .surplus
        else .admitted)) ∧
  (∀ (s : State) (i : StreamIx) (p : Port) (r : StartRecord) (f : List Byte),
     (halfAt f 12 = 0x88B5#16 → frameVersion f = 1 → frameKind f = 0 →
       (s.streamRec i).enabled = true → (s.streamRec i).tag = halfAt f 16 →
       (∀ j : StreamIx, j ≠ i → (s.streamRec j).enabled = true → (s.streamRec j).tag ≠ halfAt f 16) →
       s.goodFrame p r f = s.streamFrame i p r f) ∧
     (∀ code, s.admission i p r = .misplaced code →
       s.streamFrame i p r f =
         (s.countStream i (fun c => { c with misplaced := c.misplaced + 1#32 })).raise
           { cls := .misplaced, stream := some i, port := some p, detail := code, test := false }) ∧
     (s.admission i p r = .surplus →
       s.streamFrame i p r f =
         (s.countStream i (fun c => { c with surplus := c.surplus + 1#32 })).raise
           { cls := .surplus, stream := some i, port := some p
             detail := (framePhase f).setWidth 16, test := false }) ∧
     (s.admission i p r = .admitted →
       s.streamFrame i p r f =
         ((s.updateStream i (fun x => { x with
           admittedCount := x.admittedCount + 1
           counters := { x.counters with admitted := x.counters.admitted + 1#32 } })).holdFrame p
             f).admittedFrame i p (framePhase f) s.nextFrame))

/-! ### The stream table -/

/-- LOCK and SEEK at an ARMED stream. -/
def Obligations.ArmedStreamLocksOrSeeks : Prop :=
  ∀ (s : State) (i : StreamIx) (p : Port) (c : Phase) (ref : Nat), s.streams[i].state = .armed →
    (c = (s.currentStep i).phase →
      s.admittedFrame i p c ref =
        ((s.updateStream i (fun r => { r with
            state := .running, absenceRun := 0
            spacing := (match r.lastAdvance with
              | some l => some (s.timer.cycleCount - l)
              | none => r.spacing)
            lastAdvance := some s.timer.cycleCount
            counters := { r.counters with lockOns := r.counters.lockOns + 1#32 } })).offerCyclicTo
          (.real i c ref) ((s.currentStep i).egress.portsWithout p)).raise
            { cls := .step, stream := some i, port := none, detail := 1#16, test := false }) ∧
    (c ≠ (s.currentStep i).phase →
      s.admittedFrame i p c ref =
        s.countStream i (fun x => { x with seeks := x.seeks + 1#32 }))

/-- REPEAT: the repeats counter goes up, the frame is forwarded to the current step's egress set under
FORWARD and discarded under DROP, and nothing else changes. -/
def Obligations.RepeatForwardsOrDrops : Prop :=
  ∀ (s : State) (i : StreamIx) (p : Port) (c : Phase) (ref : Nat), s.streams[i].state = .running →
    c = (s.currentStep i).phase →
    let counted := s.countStream i (fun x => { x with repeats := x.repeats + 1#32 })
    ((s.streamRec i).repeatPolicy = .forward →
      s.admittedFrame i p c ref =
        counted.offerCyclicTo (.real i c ref) ((s.currentStep i).egress.portsWithout p)) ∧
    ((s.streamRec i).repeatPolicy = .drop → s.admittedFrame i p c ref = counted) ∧
    (s.admittedFrame i p c ref).streams[i] =
      { s.streams[i] with
        counters := { s.streams[i].counters with repeats := s.streams[i].counters.repeats + 1#32 } }

/-- ADVANCE: one step on circularly, absence run 0, history with the cycle count, the advances counter, the
frame forwarded to the new step's egress set, then STEP where the new step's notify is yes. -/
def Obligations.AdvanceMovesOneStepOn : Prop :=
  ∀ (s : State) (i : StreamIx) (p : Port) (c : Phase) (ref : Nat), s.streams[i].state = .running →
    c ≠ (s.currentStep i).phase → c = (s.nextStep i).phase →
    let pos :=
      if s.streams[i].position + 1 < (s.streamRec i).ringLength then s.streams[i].position + 1 else 0
    let now := s.active.ringStep (s.streamRec i) pos
    let moved := (s.updateStream i (fun r => { r with
        position := pos, absenceRun := 0
        spacing := (match r.lastAdvance with
          | some l => some (s.timer.cycleCount - l)
          | none => r.spacing)
        lastAdvance := some s.timer.cycleCount
        counters := { r.counters with advances := r.counters.advances + 1#32 } })).offerCyclicTo
      (.real i c ref) (now.egress.portsWithout p)
    s.admittedFrame i p c ref =
      (if now.notify then
        moved.raise { cls := .step, stream := some i, port := none, detail := 2#16, test := false }
       else moved) ∧
    (s.admittedFrame i p c ref).streams[i].state = .running ∧ c = now.phase ∧
    (s.streams[i].lastAdvance = some s.timer.cycleCount →
      (s.admittedFrame i p c ref).streams[i].spacing = some 0#32)

/-- STRAY: counted and raised with the frame's code; COUNT goes on, HOLD holds the stream, and
HOLD-AND-QUENCH hands over STREAM after that; no entry is made. A frame of a HELD stream is replaced by
SUBSTITUTE entries of the frozen step, or discarded where the stream names no template. -/
def Obligations.StraysAndHeldFrames : Prop :=
  (∀ (s : State) (i : StreamIx) (p : Port) (c : Phase) (ref : Nat), s.streams[i].state = .running →
     c ≠ (s.currentStep i).phase → c ≠ (s.nextStep i).phase →
     let counted := (s.countStream i (fun x => { x with strays := x.strays + 1#32 })).raise
       { cls := .stray, stream := some i, port := some p, detail := c.setWidth 16, test := false }
     let held := (counted.updateStream i (fun r => { r with
         state := .held, holdCause := some .stray })).raise
       { cls := .hold, stream := some i, port := none, detail := 1#16, test := false }
     ((s.streamRec i).strayPolicy = .count → s.admittedFrame i p c ref = counted) ∧
     ((s.streamRec i).strayPolicy = .hold → s.admittedFrame i p c ref = held) ∧
     ((s.streamRec i).strayPolicy = .holdAndQuench →
       s.admittedFrame i p c ref = held.addCause .stream)) ∧
  (∀ (s : State) (i : StreamIx) (p : Port) (c : Phase) (ref : Nat), s.streams[i].state = .held →
     ((s.streamRec i).template = none → s.admittedFrame i p c ref = s) ∧
     (∀ k, (s.streamRec i).template = some k →
       s.admittedFrame i p c ref =
         s.offerCyclicTo (.substitute i (s.currentStep i).phase)
           ((s.currentStep i).egress.portsWithout p)) ∧
     (s.admittedFrame i p c ref).streams = s.streams)

/-- The close of an ADMIT window that is due is taken once in the cycle: it is noted and the streams are
examined one after the other in index order (log 32). Examination leaves a stream alone unless it is
RUNNING or HELD and bound to the window; present sets the run to 0; absent raises run and counter, and
with fill on and a template index offers SUBSTITUTE entries of the current step to its egress set without
the window's port. -/
def Obligations.WindowCloseExaminesStreams : Prop :=
  (∀ (s : State) (w : WindowIx), s.timer.state = .running → s.active.windows[w].valid = true →
     s.active.windows[w].kind = .admitting → s.active.windows[w].closeOff ≤ s.timer.counter →
     s.timer.closesTaken.contains w.val = false →
     exec (.windowClose w.val) s = .next
       (allStreams.foldl (fun t i => t.examineStream w i)
         (s.setTimer { s.timer with closesTaken := w.val :: s.timer.closesTaken }))) ∧
  (∀ (s : State) (w : WindowIx),
     s.examineWindow w = allStreams.foldl (fun t i => t.examineStream w i) s) ∧
  allStreams.map (fun i => i.val) = List.range 128 ∧
  (∀ (s : State) (w : WindowIx) (i : StreamIx),
     ((s.streamRec i).window ≠ w ∨ s.streams[i].state = .armed ∨ s.streams[i].state = .disabled →
       s.examineStream w i = s) ∧
     ((s.streamRec i).window = w → (s.streams[i].state = .running ∨ s.streams[i].state = .held) →
       (1 ≤ s.streams[i].admittedCount →
         s.examineStream w i = s.updateStream i (fun r => { r with absenceRun := 0 })) ∧
       (s.streams[i].admittedCount = 0 →
         (s.examineStream w i).streams[i].absenceRun =
           (if s.streams[i].absenceRun < 255 then s.streams[i].absenceRun + 1 else 255) ∨
         255 < s.streams[i].absenceRun) ∧
       (s.streams[i].admittedCount = 0 →
         (s.examineStream w i).streams[i].counters =
           { s.streams[i].counters with absences := s.streams[i].counters.absences + 1#32 } ∧
         (s.examineStream w i).streams[i].position = s.streams[i].position) ∧
       (s.streams[i].admittedCount = 0 →
         (s.streams[i].state = .held ∨ (s.streamRec i).absenceLimit ≠ s.streams[i].absenceRun + 1) →
         let absent := s.updateStream i (fun r => { r with
           absenceRun := if r.absenceRun < 255 then r.absenceRun + 1 else r.absenceRun
           counters := { r.counters with absences := r.counters.absences + 1#32 } })
         (((s.streamRec i).fill = false ∨ (s.streamRec i).template = none) →
           s.examineStream w i = absent) ∧
         (∀ k, (s.streamRec i).fill = true → (s.streamRec i).template = some k →
           s.examineStream w i = absent.offerCyclicTo (.substitute i (s.currentStep i).phase)
             ((s.currentStep i).egress.portsWithout s.active.windows[w].port)))) ∧
     (∀ j : StreamIx, j ≠ i → (s.examineStream w i).streams[j] = s.streams[j]))

/-- A RUNNING stream stalls at the absent close that brings its run to the limit, and only then: after the
fill of that close come STALL with the run as detail, HELD with cause STALL, HOLD, and cause STREAM under
HOLD-AND-QUENCH. A run that stands at 255 brings no stall, and neither does a close that finds the stream
HELD. -/
def Obligations.StallAtTheAbsenceLimit : Prop :=
  (∀ (s : State) (w : WindowIx) (i : StreamIx), (s.streamRec i).window = w →
    s.streams[i].state = .running → s.streams[i].admittedCount = 0 → s.streams[i].absenceRun < 255 →
    ((s.streamRec i).absenceLimit = s.streams[i].absenceRun + 1 →
      (s.examineStream w i).streams[i].state = .held ∧
      (s.examineStream w i).streams[i].holdCause = some .stall ∧
      (s.examineStream w i).events.flags.getLsbD 1 = true ∧
      (s.examineStream w i).events.flags.getLsbD 2 = true ∧
      ((s.streamRec i).stallPolicy = .holdAndQuench →
        (s.examineStream w i).quench.causes = { s.quench.causes with stream := true }) ∧
      ((s.streamRec i).stallPolicy = .hold → (s.examineStream w i).quench = s.quench)) ∧
    ((s.streamRec i).absenceLimit ≠ s.streams[i].absenceRun + 1 →
      (s.examineStream w i).streams[i].state = .running ∧
      (s.examineStream w i).quench = s.quench)) ∧
  (∀ (s : State) (w : WindowIx) (i : StreamIx), (s.streamRec i).window = w →
    s.streams[i].admittedCount = 0 →
    (s.streams[i].state = .running → 255 ≤ s.streams[i].absenceRun →
      (s.streamRec i).absenceLimit ≤ 255 →
      (s.examineStream w i).streams[i].state = .running ∧ (s.examineStream w i).quench = s.quench) ∧
    (s.streams[i].state = .held →
      (s.examineStream w i).streams[i].state = .held ∧
      (s.examineStream w i).streams[i].holdCause = s.streams[i].holdCause ∧
      (s.examineStream w i).quench = s.quench)) ∧
  (∀ (s : State) (w : WindowIx) (i : StreamIx), (s.streamRec i).window = w →
    s.streams[i].state = .running → s.streams[i].admittedCount = 0 → s.streams[i].absenceRun < 255 →
    (s.streamRec i).absenceLimit = s.streams[i].absenceRun + 1 →
    let absent := s.updateStream i (fun r => { r with
      absenceRun := r.absenceRun + 1
      counters := { r.counters with absences := r.counters.absences + 1#32 } })
    let filled :=
      if (s.streamRec i).fill = true ∧ (s.streamRec i).template.isSome = true then
        absent.offerCyclicTo (.substitute i (s.currentStep i).phase)
          ((s.currentStep i).egress.portsWithout s.active.windows[w].port)
      else absent
    let stalled := ((filled.raise
      { cls := .stall, stream := some i, port := some s.active.windows[w].port
        detail := BitVec.ofNat 16 (s.streams[i].absenceRun + 1), test := false }).updateStream i
          (fun r => { r with state := .held, holdCause := some .stall })).raise
        { cls := .hold, stream := some i, port := none, detail := 2#16, test := false }
    s.examineStream w i =
      (match (s.streamRec i).stallPolicy with
       | .hold => stalled
       | .holdAndQuench => stalled.addCause .stream))

/-! ### The cycle timer -/

/-- A cycle start is due while RUNNING when the counter has reached the cycle length and no close of the cycle
is outstanding. The period match: the count goes up by one, the counter and every admitted-this-cycle count
become 0. A cycle start whose target is met applies the pending commit before the length of the cycle is
set: the banks change roles, dirty streams are reseated and the others keep their records, COMMIT is raised
with detail APPLIED. One that does not meet it leaves the staging controller alone. A cycle start ends a
CYCLE wait, and a MARK wait where the beginning cycle runs in FREE mode (third clause: the attribution
interval of the start before being closed, so that no fault of it is left to count). The last two clauses
give the whole effect, in a restart wait too: the interval of the start before carried or closed (log 15),
the staging controller first, then the timer's own record, then quench unit and cut-offs, which meet in a
free order (log 14), and last a restart that has waited 1 ms and whose response met another outcome, the
cut-off of this moment included (log 38, log 45). -/
def Obligations.CycleStartCountsOnAndApplies : Prop :=
  (∀ s : State, s.cycleStartDue = true ↔ s.timer.state = .running ∧
     s.timer.cycleLength ≤ s.timer.counter ∧
     (∀ w : WindowIx, s.active.windows[w].valid = true →
       s.active.windows[w].closeOff ≤ s.timer.counter →
       s.timer.closesTaken.contains w.val = true)) ∧
  (∀ s : State, s.cycleStartDue = true → s.agent.restartWait = none →
     ∃ t : State, exec .cycleStart s = .next t ∧
       t.timer.state = .running ∧ t.timer.cycleCount = s.timer.cycleCount + 1#32 ∧
       t.timer.counter = 0 ∧ t.timer.cycleLength = t.active.settings.period ∧
       t.timer.attribution =
         (match t.active.settings.follow with
          | .follow => some { onTime := false, isOpen := true }
          | .free => none) ∧
       (∀ i : StreamIx, t.streams[i].admittedCount = 0) ∧ t.base = s.base) ∧
  (∀ (s : State) (c : PendingCommit), s.cycleStartDue = true → s.agent.restartWait = none →
     s.staging.state = .pending → s.staging.commit = some c →
     (c.target = .nextStart ∨ c.target = .atCycle (s.timer.cycleCount + 1#32) →
       ∃ t : State, exec .cycleStart s = .next t ∧ t.active = s.staged ∧ t.staged = s.active ∧
         t.staging.state = .restaging ∧ t.staging.reason = some .apply ∧ t.staging.commit = none ∧
         t.staging.fault = none ∧ (∀ i : StreamIx, t.staging.dirty[i] = false) ∧
         t.timer.cycleLength = s.staged.settings.period ∧ t.events.flags.getLsbD 9 = true ∧
         (∀ i : StreamIx, s.staging.dirty[i] = false →
           t.streams[i] = { s.streams[i] with admittedCount := 0 }) ∧
         (∀ i : StreamIx, s.staging.dirty[i] = true → t.streams[i] =
           { state := if s.staged.streams[i].enabled then .armed else .disabled
             position := s.staged.streams[i].entryStep, admittedCount := 0, absenceRun := 0
             holdCause := none, lastAdvance := none, spacing := none
             counters := s.streams[i].counters })) ∧
     (∀ n, c.target = .atCycle n → n ≠ s.timer.cycleCount + 1#32 →
       ∃ t : State, exec .cycleStart s = .next t ∧ t.staging = s.staging ∧ t.active = s.active)) ∧
  (∀ s : State, s.cycleStartDue = true → s.agent.restartWait = none →
     (∀ a, s.timer.attribution = some a → a.isOpen = false) →
     ∃ t : State, exec .cycleStart s = .next t ∧
       (s.quench.wait = none → t.quench = s.quench) ∧
       (s.quench.wait = some .cycle →
         t.quench = { s.quench with qs := false, unit := .normal, wait := none } ∧
         t.events.flags.getLsbD 7 = true) ∧
       (s.quench.wait = some .mark →
         (t.active.settings.follow = .follow → t.quench = s.quench) ∧
         (t.active.settings.follow = .free →
           t.quench = { s.quench with qs := false, unit := .normal, wait := none } ∧
           t.events.flags.getLsbD 7 = true))) ∧
  (∀ s : State, s.cycleStartDue = true →
     ∃ counted begun done handed : State,
       counted = s.carryInterval.setTimer { s.carryInterval.timer with
         counter := 0, cycleCount := s.timer.cycleCount + 1#32 } ∧
       ((∀ c, s.staging.state = .pending → s.staging.commit = some c →
           (c.target = .nextStart ∨ c.target = .atCycle (s.timer.cycleCount + 1#32)) →
           begun = (counted.applyCommit.beginCycle false).zeroAdmitted) ∧
        (s.staging.state ≠ .pending ∨ s.staging.commit = none ∨
            (∃ c n, s.staging.commit = some c ∧ c.target = .atCycle n ∧
              n ≠ s.timer.cycleCount + 1#32) →
           begun = (counted.beginCycle false).zeroAdmitted)) ∧
       (begun.quench.wait = none → done = begun.cutOffs) ∧
       ((∀ p : Port, begun.cutDue p = false) → done = begun.quenchCycleStart) ∧
       (begun.quench.wait ≠ none → (∃ p : Port, begun.cutDue p = true) →
         done = (begun.draw 1).quenchCycleStart.cutOffs ∨
         done = (begun.draw 1).cutOffs.quenchCycleStart) ∧
       handed = done.setEgress (done.egress.map (fun e => { e with selectDue := true })) ∧
       ((∀ w, handed.agent.restartWait = some w → w.failed = true → handed.base < w.deadline) →
         exec .cycleStart s = .next handed) ∧
       (∀ w, handed.agent.restartWait = some w → w.failed = true → w.deadline ≤ handed.base →
         exec .cycleStart s = .next handed.warmRestart)) ∧
  (∀ s : State,
     ((∀ a, s.timer.attribution = some a → a.isOpen = false) → s.carryInterval = s) ∧
     (∀ a, s.timer.attribution = some a → a.isOpen = true →
       let noted := s.setTimer { s.timer with attribution := some { a with isOpen := false } }
       (a.onTime = true → s.carryInterval = noted) ∧
       (a.onTime = false →
         (∀ r, (s.ports.get s.active.settings.markPort).reception = some r →
           s.holdsInterval r = false) → s.carryInterval = noted.markFault 2#16) ∧
       (∀ r, a.onTime = false → (s.ports.get s.active.settings.markPort).reception = some r →
         s.holdsInterval r = true → s.carryInterval =
           s.updatePort s.active.settings.markPort (fun u => { u with
             reception := some { r with holdsEarlier := true } }))) ∧
     s.beginCycle false = s.setTimer { s.timer with
       cycleLength := s.active.settings.period
       ended := s.timer.current.map (fun c => { params := c, length := s.timer.cycleLength })
       current := some
         { period := s.active.settings.period, tolerance := s.active.settings.tolerance
           follow := s.active.settings.follow }
       attribution := (match s.active.settings.follow with
         | .follow => some { onTime := false, isOpen := true }
         | .free => none)
       closesTaken := [] } ∧
     s.zeroAdmitted = s.setStreams s.zeroAdmitted.streams ∧
     (∀ i : StreamIx, s.zeroAdmitted.streams[i] = { s.streams[i] with admittedCount := 0 }) ∧
     (∃ (ports : List Port) (n : Nat), ports.Nodup ∧
       (∀ p : Port, p ∈ ports ↔ s.cutDue p = true) ∧ (ports.length < 2 → n = 0) ∧
       s.cutOffs = ports.foldl (fun t p => if t.cutDue p then t.cutOff p else t) (s.draw n)))

/-- A frame of kind 1 on the mark port is counted, offered to the mark forward set, and handed to the timer. An
on-time mark after its start lengthens the cycle; one before its start ends the cycle before it at its
offset and sets the counter to its wire time, also where the cycle then in progress is FREE (log 16); both
close the interval, set the mark-fault count to 0 and reach the quench unit, the early one after what the
advance raises (log 40). A mark that is neither, that is longer than 128 bytes, or whose start is on time
already is a slip; one that did not start in an unbroken run, or that started in a FREE cycle, is not judged.
A mark of at most 128 bytes starts an ARMED timer: the cycle start at its arrival is handed on (quench unit
and cut-offs in a free order, log 14), the closes at or below its wire time count as taken, and in FOLLOW
mode the mark is an on-time mark and reaches the quench unit last. -/
def Obligations.MarksMoveTheCycle : Prop :=
  (∀ (s : State) (r : StartRecord) (len : Nat) (c : CycleParams) (a : Attribution),
     s.timer.state = .running → r.unbroken = true → r.cycle = s.timer.cycleCount →
     s.timer.current = some c → c.follow = .follow → s.timer.attribution = some a → a.onTime = false →
     len ≤ 128 → r.offset ≤ c.tolerance →
     (s.judgeMark r len).timer =
       { s.timer with
         cycleLength := c.period + r.offset
         attribution := some { onTime := true, isOpen := false }
         faultCount := 0 } ∧
     s.judgeMark r len = (s.setTimer (s.judgeMark r len).timer).quenchOnTimeMark) ∧
  (∀ (s : State) (r : StartRecord) (len : Nat) (e : EndedCycle),
     s.timer.state = .running → r.unbroken = true → r.cycle + 1#32 = s.timer.cycleCount →
     s.timer.ended = some e → e.params.follow = .follow → s.timer.current.isSome = true →
     (∀ a, s.timer.attribution = some a → a.onTime = false) →
     len ≤ 128 → e.params.tolerance < r.offset → e.params.period - e.params.tolerance ≤ r.offset →
     (s.judgeMark r len).timer.counter = (len + 20) * 2 ∧
     (s.judgeMark r len).timer.attribution =
       s.timer.attribution.map (fun _ => { onTime := true, isOpen := false }) ∧
     (s.judgeMark r len).timer.faultCount = 0 ∧
     (s.judgeMark r len).timer.ended = some { e with length := r.offset } ∧
     (s.judgeMark r len).timer.cycleLength = s.timer.cycleLength ∧
     (s.judgeMark r len).timer.cycleCount = s.timer.cycleCount ∧
     (∃ taken : List Nat,
       (∀ n, n ∈ taken ↔ n ∈ s.timer.closesTaken ∨ ∃ w : WindowIx, w.val = n ∧
         s.active.windows[w].valid = true ∧ s.timer.counter < s.active.windows[w].closeOff ∧
         s.active.windows[w].closeOff ≤ (len + 20) * 2) ∧
       (s.judgeMark r len).timer = { s.timer with
         counter := (len + 20) * 2, faultCount := 0, closesTaken := taken
         attribution := s.timer.attribution.map (fun _ => { onTime := true, isOpen := false })
         ended := some { e with length := r.offset } }) ∧
     s.judgeMark r len =
       ((s.advanceCounter ((len + 20) * 2)).setTimer (s.judgeMark r len).timer).quenchOnTimeMark) ∧
  (∀ (s : State) (r : StartRecord) (len : Nat) (c : CycleParams),
     s.timer.state = .running → r.unbroken = true → r.cycle = s.timer.cycleCount →
     s.timer.current = some c → c.follow = .follow →
     (128 < len ∨ (c.tolerance < r.offset ∧ r.offset < c.period - c.tolerance)) →
     (s.judgeMark r len).timer.faultCount =
         (if s.timer.faultCount < 255 then s.timer.faultCount + 1 else s.timer.faultCount) ∧
     (s.judgeMark r len).events.flags.getLsbD 8 = true ∧
     ((s.judgeMark r len).timer.faultCount = s.active.settings.faultLimit →
       (s.judgeMark r len).quench.causes = { s.quench.causes with mark := true }) ∧
     ((s.judgeMark r len).timer.faultCount ≠ s.active.settings.faultLimit →
       (s.judgeMark r len).quench = s.quench)) ∧
  (∀ (s : State) (r : StartRecord) (len : Nat), s.timer.state = .running → r.unbroken = true →
     (∀ c, r.cycle = s.timer.cycleCount → s.timer.current = some c → c.follow = .follow →
       (128 < len ∨ (c.tolerance < r.offset ∧ r.offset < c.period - c.tolerance) ∨
         (r.offset ≤ c.tolerance ∧ ∃ a, s.timer.attribution = some a ∧ a.onTime = true)) →
       s.judgeMark r len = s.markFault 1#16) ∧
     (∀ e, r.cycle + 1#32 = s.timer.cycleCount → s.timer.ended = some e → e.params.follow = .follow →
       (128 < len ∨ r.offset < e.params.period - e.params.tolerance ∨
         ∃ a, s.timer.attribution = some a ∧ a.onTime = true) →
       s.judgeMark r len = s.markFault 1#16)) ∧
  (∀ (s : State) (r : StartRecord) (len : Nat), s.timer.state = .running →
     s.timerTakesMark r len = s.judgeMark r len ∧
     (r.unbroken = false → s.judgeMark r len = s) ∧
     (∀ c, r.cycle = s.timer.cycleCount → s.timer.current = some c → c.follow = .free →
       s.judgeMark r len = s) ∧
     (∀ e, r.cycle + 1#32 = s.timer.cycleCount → s.timer.ended = some e → e.params.follow = .free →
       s.judgeMark r len = s)) ∧
  (∀ (s : State) (p : Port) (r : StartRecord) (f : List Byte),
     halfAt f 12 = 0x88B5#16 → frameVersion f = 1 → frameKind f = 1 →
     p = s.active.settings.markPort →
     s.goodFrame p r f =
       ((((s.countPort p (fun c => { c with marks := c.marks + 1#32 })).holdFrame p f).offerCyclicTo
         (.mark s.nextFrame) (s.active.settings.markForward.portsWithout p)).timerTakesMark r
           f.length)) ∧
  (∀ (s : State) (r : StartRecord) (len : Nat),
     (s.timer.state = .stopped → s.timerTakesMark r len = s) ∧
     (s.timer.state = .armed → 128 < len → s.timerTakesMark r len = s) ∧
     (s.timer.state = .armed → len ≤ 128 →
       let t := s.timerTakesMark r len
       t.timer.state = .running ∧ t.timer.cycleCount = 0#32 ∧ t.timer.counter = (len + 20) * 2 ∧
       t.timer.cycleLength = t.active.settings.period ∧
       t.timer.attribution =
         (match t.active.settings.follow with
          | .follow => some { onTime := true, isOpen := false }
          | .free => none) ∧
       (∀ i : StreamIx, t.streams[i].admittedCount = 0))) ∧
  (∀ (s : State) (r : StartRecord) (len : Nat), s.timer.state = .armed → len ≤ 128 →
     ∃ (started applied begun done handed marked : State) (taken : List Nat),
       started = s.setTimer { s.timer with
         state := .running, cycleCount := 0#32, counter := (len + 20) * 2 } ∧
       ((∀ c, s.staging.state = .pending → s.staging.commit = some c →
           (c.target = .nextStart ∨ c.target = .atCycle 0#32) → applied = started.applyCommit) ∧
        (s.staging.state ≠ .pending ∨ s.staging.commit = none ∨
            (∃ c n, s.staging.commit = some c ∧ c.target = .atCycle n ∧ n ≠ 0#32) →
           applied = started)) ∧
       begun = (applied.setTimer { applied.timer with
         cycleLength := applied.active.settings.period, ended := none, closesTaken := []
         current := some
           { period := applied.active.settings.period, tolerance := applied.active.settings.tolerance
             follow := applied.active.settings.follow }
         attribution := (match applied.active.settings.follow with
           | .follow => some { onTime := false, isOpen := true }
           | .free => none) }).zeroAdmitted ∧
       (begun.quench.wait = none → done = begun.cutOffs) ∧
       ((∀ p : Port, begun.cutDue p = false) → done = begun.quenchCycleStart) ∧
       (begun.quench.wait ≠ none → (∃ p : Port, begun.cutDue p = true) →
         done = (begun.draw 1).quenchCycleStart.cutOffs ∨
         done = (begun.draw 1).cutOffs.quenchCycleStart) ∧
       handed = done.setEgress (done.egress.map (fun e => { e with selectDue := true })) ∧
       (∀ n, n ∈ taken ↔ ∃ w : WindowIx, w.val = n ∧
         handed.active.windows[w].closeOff ≤ (len + 20) * 2) ∧
       marked = handed.setTimer { handed.timer with closesTaken := taken } ∧
       (handed.active.settings.follow = .free → s.timerTakesMark r len = marked) ∧
       (handed.active.settings.follow = .follow → s.timerTakesMark r len =
         (marked.setTimer { marked.timer with
           attribution := some { onTime := true, isOpen := false }, faultCount := 0 }).quenchOnTimeMark) ∧
       (s.timerTakesMark r len).timer =
         { state := .running, counter := (len + 20) * 2, cycleCount := 0#32
           cycleLength := handed.active.settings.period
           faultCount := (match handed.active.settings.follow with
             | .follow => 0
             | .free => s.timer.faultCount)
           attribution := (match handed.active.settings.follow with
             | .follow => some { onTime := true, isOpen := false }
             | .free => none)
           current := some
             { period := handed.active.settings.period, tolerance := handed.active.settings.tolerance
               follow := handed.active.settings.follow }
           ended := none, closesTaken := taken })

/-- The attribution interval closes past T ticks, once no frame that may be its mark is in reception, and a
start without an on-time mark has a missing mark. A cycle start that finds the interval still held by such
a frame leaves it open at that frame, and the missing mark is counted when the frame has left reception
(log 15). A frame that leaves reception on the mark port closes the current start's interval where it held
it and T ticks are past, any other frame leaves that interval to its own close. A slip or a missing mark
raises the count and MARK-FAULT, and at the limit LIMIT and cause MARK
follow. The pending advance of a frame on the mark port that has passed 128 bytes ends: every arbiter is to
select again. -/
def Obligations.IntervalCloseAndAdvanceEnd : Prop :=
  (∀ (s : State) (c : CycleParams) (a : Attribution), s.timer.state = .running →
     s.timer.current = some c → s.timer.attribution = some a → a.isOpen = true →
     c.tolerance + 1 ≤ s.timer.counter →
     (∀ r, (s.ports.get s.active.settings.markPort).reception = some r →
       s.holdsInterval r = false) →
     ∃ t : State, exec .attributionIntervalClose s = .next t ∧
       t.timer.attribution = some { a with isOpen := false } ∧
       (a.onTime = true → t.timer.faultCount = s.timer.faultCount ∧ t.events = s.events) ∧
       (a.onTime = false →
         t.timer.faultCount =
           (if s.timer.faultCount < 255 then s.timer.faultCount + 1 else s.timer.faultCount) ∧
         t.events.flags.getLsbD 8 = true ∧
         t = (s.setTimer { s.timer with
           attribution := some { a with isOpen := false } }).markFault 2#16)) ∧
  (∀ (s : State) (r : Reception),
     (s.holdsInterval r = true ↔ r.start.unbroken = true ∧
       ((∃ c, s.timer.current = some c ∧ r.start.cycle = s.timer.cycleCount ∧
           r.start.offset ≤ c.tolerance) ∨
        (∃ e, s.timer.ended = some e ∧ r.start.cycle + 1#32 = s.timer.cycleCount ∧
           e.params.period - e.params.tolerance ≤ r.start.offset))) ∧
     ((s.ports.get s.active.settings.markPort).reception = some r → s.holdsInterval r = true →
       s.intervalOver = false) ∧
     ((s.ports.get s.active.settings.markPort).reception = some r → s.holdsInterval r = true →
       s.cycleStartDue = true → s.agent.restartWait = none →
       s.timer.attribution = some { onTime := false, isOpen := true } →
       ∃ t : State, exec .cycleStart s = .next t ∧
         (t.ports.get s.active.settings.markPort).reception = some { r with holdsEarlier := true } ∧
         t.timer.faultCount = s.timer.faultCount) ∧
     s.closeHeldInterval none = s ∧
     (s.timer.state = .running → r.start.unbroken = true → r.holdsEarlier = true →
       s.closeHeldInterval (some r) = s.markFault 2#16) ∧
     (s.timer.state ≠ .running ∨ r.start.unbroken = false ∨ r.holdsEarlier = false →
       s.closeHeldInterval (some r) = s)) ∧
  (∀ (s t : State) (p : Port) (r : Reception),
     s.endHolds t p none = t ∧
     (p = s.active.settings.markPort → s.holdsInterval r = true →
       s.endHolds t p (some r) = (t.closeHeldInterval (some r)).closeIntervalIfOver) ∧
     (p ≠ s.active.settings.markPort ∨ s.holdsInterval r = false →
       s.endHolds t p (some r) = t.closeHeldInterval (some r))) ∧
  (∀ (s : State) (code : Half),
     let n := if s.timer.faultCount < 255 then s.timer.faultCount + 1 else s.timer.faultCount
     let faulted := (s.setTimer { s.timer with faultCount := n }).raise
       { cls := .markFault, stream := none, port := some s.active.settings.markPort, detail := code
         test := false }
     (n ≠ s.active.settings.faultLimit → s.markFault code = faulted) ∧
     (n = s.active.settings.faultLimit →
       s.markFault code = (faulted.raise
         { cls := .markFault, stream := none, port := some s.active.settings.markPort
           detail := 3#16, test := false }).addCause .mark)) ∧
  (∀ (s : State) (r : Reception), s.candidateStart = some r → 128 < r.received →
     r.advanceEnded = false →
     ∃ t : State, exec .pendingAdvanceEnd s = .next t ∧
       (∀ p : Port, (t.egress.get p).selectDue = true) ∧
       (t.ports.get s.active.settings.markPort).reception = some { r with advanceEnded := true } ∧
       t.timer = s.timer)

/-- No management or background frame fits while a guard is open; with a next guard a frame fits exactly when
it ends before it, the pending advance added; without one, and while the timer is not RUNNING, all fit. A
guard is open from its open offset to before its close offset; the next guard is the nearest one ahead in
the cycle, or the first one of the coming cycle counted from the assumed end, P − T in FOLLOW mode and P in
FREE mode, of the set that will govern it. The pending advance is how far the counter stands past the
start of a candidate, or how far the ended cycle's length lies past it. The bytes received so far follow
from the ticks since the start of frame (DEDUCED, log 3), and an empty attribution record counts as NONE
for a candidate of the cycle before (DEDUCED, log 16). -/
def Obligations.FitRuleKeepsGuardsFree : Prop :=
  (∀ (s : State) (p : Port) (w : Nat),
    (s.timer.state ≠ .running → s.fits p w = true) ∧
    (s.timer.state = .running → (s.openGuard p).isSome = true → s.fits p w = false) ∧
    (∀ g, s.timer.state = .running → s.openGuard p = none → s.nextGuard p = some g →
      (s.fits p w = true ↔ w + s.pendingAdvance ≤ g)) ∧
    (s.timer.state = .running → s.openGuard p = none → s.nextGuard p = none → s.fits p w = true)) ∧
  (∀ (s : State) (p : Port), s.timer.state = .running →
    let guards (b : Bank) (v : WindowIx) : Prop :=
      b.windows[v].valid = true ∧ b.windows[v].kind = .guard ∧ b.windows[v].port = p
    let coming : Bank :=
      match s.staging.commit with
      | none => s.active
      | some c =>
        match c.target with
        | .nextStart => s.staged
        | .atCycle n => if s.timer.cycleCount + 1#32 = n then s.staged else s.active
    ((s.openGuard p).isSome = true ↔ ∃ v : WindowIx, guards s.active v ∧
      s.active.windows[v].openOff ≤ s.timer.counter ∧
      s.timer.counter < s.active.windows[v].closeOff) ∧
    (∀ v : WindowIx, guards s.active v → s.timer.counter < s.active.windows[v].openOff →
      (∀ u : WindowIx, guards s.active u → s.timer.counter < s.active.windows[u].openOff →
        s.active.windows[v].openOff ≤ s.active.windows[u].openOff) →
      s.nextGuard p = some (s.active.windows[v].openOff - s.timer.counter)) ∧
    ((∀ u : WindowIx, guards s.active u → s.active.windows[u].openOff ≤ s.timer.counter) →
      ((∀ u : WindowIx, ¬ guards coming u) → s.nextGuard p = none) ∧
      (∀ (v : WindowIx) (c : CycleParams), guards coming v →
        (∀ u : WindowIx, guards coming u → coming.windows[v].openOff ≤ coming.windows[u].openOff) →
        s.timer.current = some c →
        let e := match c.follow with | .follow => c.period - c.tolerance | .free => c.period
        s.nextGuard p = some (e - s.timer.counter + coming.windows[v].openOff)))) ∧
  (∀ s : State,
    ((s.timer.state ≠ .running ∨ (s.ports.get s.active.settings.markPort).reception = none) →
      s.pendingAdvance = 0) ∧
    (∀ r, (s.ports.get s.active.settings.markPort).reception = some r →
      r.received = min r.frame.length (r.elapsed / 2 - 8) ∧
      (r.start.unbroken = false ∨ 128 < r.received ∨
        (r.start.cycle ≠ s.timer.cycleCount ∧ r.start.cycle + 1#32 ≠ s.timer.cycleCount) →
        s.pendingAdvance = 0) ∧
      (s.timer.state = .running → r.start.unbroken = true → r.received ≤ 128 →
        (∀ c, s.timer.current = some c → r.start.cycle = s.timer.cycleCount →
          (c.follow = .free ∨ r.start.offset < c.period - c.tolerance → s.pendingAdvance = 0) ∧
          (c.follow = .follow → c.period - c.tolerance ≤ r.start.offset →
            s.pendingAdvance = s.timer.counter - r.start.offset)) ∧
        (∀ e, s.timer.current.isSome = true → s.timer.ended = some e →
          r.start.cycle + 1#32 = s.timer.cycleCount →
          (e.params.follow = .free ∨ r.start.offset < e.params.period - e.params.tolerance ∨
            (∃ a, s.timer.attribution = some a ∧ a.onTime = true) → s.pendingAdvance = 0) ∧
          (e.params.follow = .follow → e.params.period - e.params.tolerance ≤ r.start.offset →
            (∀ a, s.timer.attribution = some a → a.onTime = false) →
            s.pendingAdvance = e.length - r.start.offset)))))

/-- A guard that opens cuts off a frame that started while RUNNING: nothing is on the wire any more, the
transmitted counter does not move, EGRESS-DROP is raised with detail GUARD-CUT, a RESTART response is
handed over as failed (and the restart it ends after 1 ms comes behind that: log 38); until its arbiter has
selected, the transmitter reads IDLE whatever the queues hold (DESIGN CHOICE, log 37). The close of a
GUARD window that is due is taken once in the cycle, and the port's arbiter is to select. An advance of
the counter takes the closes that it passes in ascending order of offset, at the new counter value (log
33, log 34), then cuts off where a guard is open there (log 36, log 40). A restart whose wait has run out
after an earlier outcome comes behind the cut-off too (log 45). -/
def Obligations.GuardsOpenAndClose : Prop :=
  (∀ (s : State) (p : Port) (x : Transmission), s.agent.restartWait = none →
     (s.openGuard p).isSome = true → (s.egress.get p).transmitter = .sending x →
     x.startedRunning = some true →
     exec (.guardOpen p) s = .next
       (((s.updateEgress p (fun e => { e with transmitter := .idle, selectDue := true })).raise
         { cls := .egressDrop, stream := none, port := some p, detail := 5#16, test := false }).releaseFrames)) ∧
  (∀ (s : State) (p : Port) (x : Transmission), (s.openGuard p).isSome = true →
     (s.egress.get p).transmitter = .sending x → x.startedRunning = some true →
     let wait := s.agent.restartWait.map (fun w =>
       { w with failed := w.failed || decide (x.sent = .response true) })
     let cut := (((s.setAgent { s.agent with restartWait := wait }).updateEgress p (fun e => { e with
       transmitter := .idle, selectDue := true })).raise
         { cls := .egressDrop, stream := none, port := some p, detail := 5#16, test := false }).releaseFrames
     s.cutOff p = cut ∧
     ((∀ w, wait = some w → w.failed = true → s.base < w.deadline) →
       exec (.guardOpen p) s = .next cut) ∧
     (∀ w, wait = some w → w.failed = true → w.deadline ≤ s.base →
       exec (.guardOpen p) s = .next cut.warmRestart)) ∧
  (∀ (s : State) (w : WindowIx), s.timer.state = .running → s.active.windows[w].valid = true →
     s.active.windows[w].kind = .guard → s.active.windows[w].closeOff ≤ s.timer.counter →
     s.timer.closesTaken.contains w.val = false →
     exec (.guardClose w.val) s = .next
       ((s.setTimer { s.timer with closesTaken := w.val :: s.timer.closesTaken }).updateEgress
         s.active.windows[w].port (fun e => { e with selectDue := true }))) ∧
  (∀ (s : State) (w : WindowIx),
     let noted := s.setTimer { s.timer with closesTaken := w.val :: s.timer.closesTaken }
     (s.active.windows[w].kind = .admitting → s.takeClose w = noted.examineWindow w) ∧
     (s.active.windows[w].kind = .guard → s.takeClose w =
       noted.updateEgress s.active.windows[w].port (fun e => { e with selectDue := true }))) ∧
  (∀ (s : State) (x : Nat), ∃ (passed : List WindowIx) (ports : List Port) (n : Nat) (u v : State),
     passed.Nodup ∧
     (∀ w : WindowIx, w ∈ passed ↔ (s.active.windows[w].valid = true ∧
       s.timer.counter < s.active.windows[w].closeOff ∧ s.active.windows[w].closeOff ≤ x ∧
       s.timer.closesTaken.contains w.val = false)) ∧
     passed.Pairwise (fun v w => s.active.windows[v].closeOff ≤ s.active.windows[w].closeOff) ∧
     u = passed.foldl State.takeClose (s.setTimer { s.timer with counter := x }) ∧
     ports.Nodup ∧ (∀ p : Port, p ∈ ports ↔ u.cutDue p = true) ∧
     v = ports.foldl (fun t p => if t.cutDue p then t.cutOff p else t) (u.draw n) ∧
     s.advanceCounter x = v.setEgress (v.egress.map (fun e => { e with selectDue := true })))

/-! ### Egress -/

/-- An entry offered to a cyclic queue: taken behind the newest while the link is UP and fewer than 8 stand,
otherwise counted and raised with its kind, or with LINK. Offered to several ports, each port is offered
it once, in an order that is free where two or more of them have no room (log 14). The arrival port of a
frame is in no set of ports to which its entries are offered. A received frame is held under a name of its
own (log 19), reads back byte for byte, and is released once no entry and no transmission refers to it. -/
def Obligations.CyclicOfferTakesOrDrops : Prop :=
  (∀ (s : State) (e : CyclicEntry) (p : Port),
     (s.link p = .up → (s.egress.get p).cyclic.length < 8 →
       s.offerCyclic e p = s.updateEgress p (fun x => { x with
         cyclic := x.cyclic ++ [e], selectDue := true })) ∧
     (s.link p = .up → 8 ≤ (s.egress.get p).cyclic.length →
       s.offerCyclic e p =
         (s.countPort p (fun c => { c with cyclicDrops := c.cyclicDrops + 1#32 })).raise
           { cls := .egressDrop, stream := e.stream, port := some p, detail := e.kindCode
             test := false }) ∧
     (s.link p = .down →
       s.offerCyclic e p =
         (s.countPort p (fun c => { c with cyclicDrops := c.cyclicDrops + 1#32 })).raise
           { cls := .egressDrop, stream := e.stream, port := some p, detail := 4#16, test := false })) ∧
  (∀ (s : State) (e : CyclicEntry) (ps : List Port), ∃ (qs : List Port) (n : Nat), qs.Perm ps ∧
     s.offerCyclicTo e ps = qs.foldl (fun t p => t.offerCyclic e p) (s.draw n) ∧
     ((ps.filter (fun p =>
         !decide (s.link p = .up ∧ (s.egress.get p).cyclic.length < 8))).length < 2 →
       qs = ps ∧ n = 0)) ∧
  (∀ (set : PortSet) (p q : Port),
     q ∈ set.portsWithout p ↔ (set.getLsbD q.index = true ∧ q ≠ p)) ∧
  (∀ (i : StreamIx) (c : Phase) (ref : Nat),
     (CyclicEntry.real i c ref).stream = some i ∧ (CyclicEntry.real i c ref).kindCode = 1#16 ∧
     (CyclicEntry.substitute i c).stream = some i ∧ (CyclicEntry.substitute i c).kindCode = 2#16 ∧
     (CyclicEntry.mark ref).stream = none ∧ (CyclicEntry.mark ref).kindCode = 3#16) ∧
  (∀ (s : State) (p : Port) (f : List Byte),
     (s.holdFrame p f).frameBytes s.nextFrame = f ∧
     (s.holdFrame p f).nextFrame = s.nextFrame + 1 ∧
     (∀ ref, ref ≠ s.nextFrame → (s.holdFrame p f).frameBytes ref = s.frameBytes ref)) ∧
  (∀ (s : State) (ref : Nat),
     (∀ x : HeldFrame, x ∈ s.releaseFrames.frames ↔
       (x ∈ s.frames ∧ ∃ p : Port, (s.egress.get p).refersTo x.id = true)) ∧
     (∀ p : Port, (s.egress.get p).refersTo ref = true →
       s.releaseFrames.frameBytes ref = s.frameBytes ref) ∧
     (∀ e : Egress, e.refersTo ref = true ↔
       ((∃ i c, CyclicEntry.real i c ref ∈ e.cyclic) ∨ CyclicEntry.mark ref ∈ e.cyclic ∨
         ref ∈ e.background ∨
         ∃ x, e.transmitter = .sending x ∧
           (x.sent = .real ref ∨ x.sent = .mark ref ∨ x.sent = .background ref))))

/-- The arbiter selects: the cyclic head starts first, without the fit rule; then the management head and
then the background head, each where it fits; with nothing eligible the transmitter is WAITING, or IDLE
with all queues empty. What starts has left its queue and lasts its wire time. A REAL entry on a quenched
port and a SUBSTITUTE entry are built from the stream's template; where it is missing, the entry is gone,
counted as suppressed, and the arbiter selects again; so it does after a background frame that a quenched
port discards. -/
def Obligations.TransmitStartTakesTheCyclicHead : Prop :=
  (∀ (s : State) (p : Port) (i : StreamIx) (c : Phase) (ref : Nat) (rest : List CyclicEntry),
    (s.egress.get p).selectDue = true →
    ((s.egress.get p).transmitter = .idle ∨ (s.egress.get p).transmitter = .waiting) →
    (s.egress.get p).cyclic = .real i c ref :: rest →
    ((s.quench.qs = false ∨ s.active.settings.quenchEgress.getLsbD p.index = false) →
      ∃ t : State, exec (.transmitStart p) s = .next t ∧ (t.egress.get p).cyclic = rest ∧
        (t.egress.get p).transmitter = .sending
          { sent := .real ref, frame := s.frameBytes ref
            remaining := ((s.frameBytes ref).length + 20) * 2, startedRunning := none }) ∧
    (∀ k image, s.quench.qs = true → s.active.settings.quenchEgress.getLsbD p.index = true →
      (s.streamRec i).template = some k → s.active.templates[k] = some image →
      ∃ t : State, exec (.transmitStart p) s = .next t ∧ (t.egress.get p).cyclic = rest ∧
        ∃ f : List Byte, (t.egress.get p).transmitter = .sending
          { sent := .substitute i, frame := f, remaining := (f.length + 20) * 2
            startedRunning := none } ∧
        f = withFcs (patchTemplate image (s.streamRec i).tag c (s.timer.cycleCount.setWidth 16)))) ∧
  (∀ (s : State) (p : Port), (s.egress.get p).selectDue = true →
    ((s.egress.get p).transmitter = .idle ∨ (s.egress.get p).transmitter = .waiting) →
    let quenched := s.quench.qs = true ∧ s.active.settings.quenchEgress.getLsbD p.index = true
    let starts (f : Egress → Egress) (sent : Sent) (frame : List Byte) (started : Option Bool) : State :=
      (s.updateEgress p (fun e => { f e with
        transmitter := .sending
          { sent := sent, frame := frame, remaining := (frame.length + 20) * 2, startedRunning := started }
        selectDue := false })).releaseFrames
    (∀ i c ref rest, (s.egress.get p).cyclic = .real i c ref :: rest → ¬ quenched →
      exec (.transmitStart p) s = .next
        (starts (fun e => { e with cyclic := rest }) (.real ref) (s.frameBytes ref) none)) ∧
    (∀ ref rest, (s.egress.get p).cyclic = .mark ref :: rest →
      exec (.transmitStart p) s = .next
        (starts (fun e => { e with cyclic := rest }) (.mark ref) (s.frameBytes ref) none)) ∧
    (∀ i c rest, ((s.egress.get p).cyclic = .substitute i c :: rest ∨
        ∃ ref, (s.egress.get p).cyclic = .real i c ref :: rest ∧ quenched) →
      (∀ f, s.substituteFrame i c = some f →
        exec (.transmitStart p) s = .next
          (starts (fun e => { e with cyclic := rest }) (.substitute i) f none)) ∧
      (s.substituteFrame i c = none →
        exec (.transmitStart p) s = exec (.transmitStart p)
          ((s.updateEgress p (fun e => { e with cyclic := rest })).countStream i
            (fun x => { x with suppressed := x.suppressed + 1#32 })))) ∧
    ((s.egress.get p).cyclic = [] →
      (∀ m rest, (s.egress.get p).mgmt = m :: rest → s.fits p ((m.frame.length + 20) * 2) = true →
        exec (.transmitStart p) s = .next
          (starts (fun e => { e with mgmt := rest }) m.sent m.frame (some s.running))) ∧
      ((∀ m rest, (s.egress.get p).mgmt = m :: rest → s.fits p ((m.frame.length + 20) * 2) = false) →
        (∀ ref rest, (s.egress.get p).background = ref :: rest →
          s.fits p (((s.frameBytes ref).length + 20) * 2) = true →
          (¬ quenched → exec (.transmitStart p) s = .next
            (starts (fun e => { e with background := rest }) (.background ref) (s.frameBytes ref)
              (some s.running))) ∧
          (quenched → exec (.transmitStart p) s = exec (.transmitStart p)
            ((s.updateEgress p (fun e => { e with background := rest })).countPort p
              (fun x => { x with quenchDiscards := x.quenchDiscards + 1#32 })))) ∧
        ((∀ ref rest, (s.egress.get p).background = ref :: rest →
            s.fits p (((s.frameBytes ref).length + 20) * 2) = false) →
          exec (.transmitStart p) s = .next
            ((s.updateEgress p (fun e => { e with
              transmitter := if e.mgmt = [] ∧ e.background = [] then .idle else .waiting
              selectDue := false })).releaseFrames))))) ∧
  (∀ (s : State) (i : StreamIx) (c : Phase),
    ((s.streamRec i).template = none → s.substituteFrame i c = none) ∧
    (∀ k, (s.streamRec i).template = some k →
      (s.active.templates[k] = none → s.substituteFrame i c = none) ∧
      (∀ image, s.active.templates[k] = some image → s.substituteFrame i c =
        some (withFcs (patchTemplate image (s.streamRec i).tag c (s.timer.cycleCount.setWidth 16)))))) ∧
  (∀ (image : List Byte) (tag cycleTag : Half) (c : Phase), 22 ≤ image.length →
    (patchTemplate image tag c cycleTag).length = image.length ∧
    byteAt (patchTemplate image tag c cycleTag) 15 =
      (0x80#8 ||| (byteAt image 15 &&& 0x70#8) ||| c.setWidth 8) ∧
    halfAt (patchTemplate image tag c cycleTag) 16 = tag ∧
    halfAt (patchTemplate image tag c cycleTag) 20 = cycleTag ∧
    (∀ k, k ≠ 15 → k ≠ 16 → k ≠ 17 → k ≠ 20 → k ≠ 21 →
      byteAt (patchTemplate image tag c cycleTag) k = byteAt image k))

/-- While QS is set, no REAL and no background frame begins transmission on a port of the quench egress set. -/
def Obligations.NoRealStartsWhileQuenched : Prop :=
  ∀ (s t : State) (p : Port) (x : Transmission), s.quench.qs = true →
    s.active.settings.quenchEgress.getLsbD p.index = true →
    (s.egress.get p).isSending = false →
    exec (.transmitStart p) s = .next t → (t.egress.get p).transmitter = .sending x →
    (∀ ref, x.sent ≠ .real ref) ∧ (∀ ref, x.sent ≠ .background ref)

/-- A transmission completes: counted at the port, the transmitter free (reading IDLE until the arbiter has
selected: log 37), the arbiter called, a received frame that nothing else refers to released; a substitute
is counted on its stream; a RESTART response brings the warm restart. With ticks left on the wire (log
28) the command does not take place (log 2). -/
def Obligations.TransmitCompleteCounts : Prop :=
  (∀ (s : State) (p : Port) (x : Transmission), (s.egress.get p).transmitter = .sending x →
     x.remaining = 0 → x.sent ≠ .response true →
     ∃ t : State, exec (.transmitComplete p) s = .next t ∧
       (t.ports.get p).counters.transmitted = (s.ports.get p).counters.transmitted + 1#32 ∧
       (t.egress.get p).transmitter = .idle ∧ (t.egress.get p).selectDue = true ∧
       (t.egress.get p).cyclic = (s.egress.get p).cyclic ∧
       (∀ i : StreamIx, x.sent = .substitute i →
         t.streams[i].counters.substitutesSent = s.streams[i].counters.substitutesSent + 1#32) ∧
       ((∀ i : StreamIx, x.sent ≠ .substitute i) → t.streams = s.streams)) ∧
  (∀ (s : State) (p : Port) (x : Transmission), (s.egress.get p).transmitter = .sending x →
     let freed := (s.countPort p (fun c => { c with transmitted := c.transmitted + 1#32 })).updateEgress p
       (fun e => { e with transmitter := .idle, selectDue := true })
     (x.remaining ≠ 0 → exec (.transmitComplete p) s = .next s) ∧
     (x.remaining = 0 → x.sent = .response true →
       exec (.transmitComplete p) s = .next freed.warmRestart.releaseFrames) ∧
     (∀ i, x.remaining = 0 → x.sent = .substitute i →
       exec (.transmitComplete p) s = .next
         ((freed.countStream i (fun c => { c with substitutesSent := c.substitutesSent + 1#32 })).releaseFrames)) ∧
     (x.remaining = 0 → x.sent ≠ .response true → (∀ i, x.sent ≠ .substitute i) →
       exec (.transmitComplete p) s = .next freed.releaseFrames))

/-! ### Events -/

/-- An occurrence sets its class's flag and no other, whatever the flag held; with a class that is not
enabled, or a listener that is disabled, it does nothing else. Otherwise it generates a record while the
queue holds fewer than 32, and raises the missed count by one, up to 255, when it holds 32. The record
stands at the back, UNSENT with send count 0, with the occurrence's fields and TEST mark; the records before
it and the other listeners stay; then the due records of the listener's port are offered (log 12). -/
def Obligations.OccurrencesSetFlagsAndMakeRecords : Prop :=
  (∀ (s : State) (o : Occurrence),
     (s.raise o).events.flags = s.events.flags ||| (1#16 <<< o.cls.number.val) ∧
     (s.events.classes[o.cls.number].enabled = false →
       s.raise o = s.setEvents { s.events with
         flags := s.events.flags ||| (1#16 <<< o.cls.number.val) }) ∧
     (s.events.listeners[s.events.classes[o.cls.number].listener].enabled = false →
       s.raise o = s.setEvents { s.events with
         flags := s.events.flags ||| (1#16 <<< o.cls.number.val) })) ∧
  (∀ (s : State) (o : Occurrence), s.events.classes[o.cls.number].enabled = true →
     let l := s.events.classes[o.cls.number].listener
     s.events.listeners[l].enabled = true →
     (s.events.queue.length < 32 →
       (s.raise o).events.queue.length = s.events.queue.length + 1 ∧
       (s.raise o).events.listeners[l].nextSeq = s.events.listeners[l].nextSeq + 1#16 ∧
       (s.raise o).events.listeners[l].missed = 0 ∧
       ∃ r : NotifRecord, (s.raise o).events.queue.getLast? = some r ∧ r.listener = l ∧
         r.seq = s.events.listeners[l].nextSeq ∧ r.cls = o.cls ∧ r.detail = o.detail ∧
         r.stream = o.stream ∧ r.port = o.port ∧ r.cycleCount = s.timer.cycleCount ∧
         r.offset = s.timer.counter ∧
         r.missed = (if s.events.listeners[l].missed = 0 then none
           else some s.events.listeners[l].missed)) ∧
     (s.events.queue.length < 32 →
       let recorded := s.setEvents { s.events with
         flags := s.events.flags ||| (1#16 <<< o.cls.number.val)
         listeners := s.events.listeners.set l.val { s.events.listeners[l] with
           nextSeq := s.events.listeners[l].nextSeq + 1#16, missed := 0 }
         queue := s.events.queue ++
           [{ listener := l, seq := s.events.listeners[l].nextSeq, cls := o.cls, test := o.test
              cycleCount := s.timer.cycleCount, offset := s.timer.counter, stream := o.stream
              port := o.port, detail := o.detail
              missed := (if s.events.listeners[l].missed = 0 then none
                else some s.events.listeners[l].missed)
              sendCount := 0, state := .unsent }] }
       exec (.notificationOffer s.events.listeners[l].port) recorded = .next (s.raise o) ∧
       (s.link s.events.listeners[l].port = .down ∨
           4 ≤ (s.egress.get s.events.listeners[l].port).mgmt.length → s.raise o = recorded)) ∧
     (32 ≤ s.events.queue.length →
       s.raise o = s.setEvents { s.events with
         flags := s.events.flags ||| (1#16 <<< o.cls.number.val)
         listeners := s.events.listeners.set l.val { s.events.listeners[l] with
           missed := if s.events.listeners[l].missed < 255 then s.events.listeners[l].missed + 1
             else s.events.listeners[l].missed } } ∧
       (s.raise o).events.queue = s.events.queue ∧
       (s.raise o).events.listeners[l] = { s.events.listeners[l] with
         missed := if s.events.listeners[l].missed < 255 then s.events.listeners[l].missed + 1
           else s.events.listeners[l].missed }))

/-- A due record of a port with room enters the management queue: AWAITING, its send count one higher, its
retry timer running for the listener's interval, counted in ticks from the offer (log 10); the oldest due
record goes first, and the others follow while room lasts. A retry timer expires: at or below the limit
the record becomes resend-due and is offered where its port has room, above it the record goes and the
listener's lapse count rises; the other records stay (of several expired records of one listener and
number the oldest is taken: DESIGN CHOICE, log 46). The frame is the record's, 60 bytes and FCS. -/
def Obligations.NotificationsAreOfferedAndRetried : Prop :=
  (∀ (s : State) (r : NotifRecord) (rest : List NotifRecord) (p : Port),
     s.events.queue = r :: rest → (r.state = .unsent ∨ r.state = .resendDue) →
     s.events.listeners[r.listener].port = p → s.link p = .up → (s.egress.get p).mgmt.length < 4 →
     ∃ (t : State) (sent : NotifRecord), exec (.notificationOffer p) s = .next t ∧
       sent = { r with
         sendCount := r.sendCount + 1
         state := .awaiting (s.base + s.events.listeners[r.listener].retryInterval * 25000) } ∧
       t.events.queue.head? = some sent ∧
       t.events.queue.length = s.events.queue.length ∧ t.events.flags = s.events.flags ∧
       (t.egress.get p).mgmt[(s.egress.get p).mgmt.length]? =
         some (.notification (s.notificationFrame sent)) ∧
       (t.egress.get p).mgmt.length ≤ 4) ∧
  (∀ (s : State) (r : NotifRecord) (at_ : Nat), s.events.queue = [r] → r.state = .awaiting at_ →
     at_ ≤ s.base →
     (s.events.listeners[r.listener].retryLimit < r.sendCount →
       exec (.retryTimerExpiry r.listener r.seq) s = .next (s.setEvents { s.events with
         queue := []
         listeners := s.events.listeners.set r.listener { s.events.listeners[r.listener] with
           lapse := if s.events.listeners[r.listener].lapse < 255
             then s.events.listeners[r.listener].lapse + 1 else s.events.listeners[r.listener].lapse } })) ∧
     (r.sendCount ≤ s.events.listeners[r.listener].retryLimit →
       ∃ t : State, exec (.retryTimerExpiry r.listener r.seq) s = .next t ∧
         (s.link s.events.listeners[r.listener].port = .down →
           t.events.queue = [{ r with state := .resendDue }]) ∧
         (s.link s.events.listeners[r.listener].port = .up →
           (s.egress.get s.events.listeners[r.listener].port).mgmt.length < 4 →
           t.events.queue = [{ r with
             sendCount := r.sendCount + 1
             state := .awaiting (s.base +
               s.events.listeners[r.listener].retryInterval * 25000) }]))) ∧
  (∀ (s : State) (p : Port) (before after : List NotifRecord) (r : NotifRecord),
     s.events.queue = before ++ r :: after →
     (∀ x ∈ before, ¬ ((x.state = .unsent ∨ x.state = .resendDue) ∧
       s.events.listeners[x.listener].port = p)) →
     (r.state = .unsent ∨ r.state = .resendDue) → s.events.listeners[r.listener].port = p →
     s.link p = .up → (s.egress.get p).mgmt.length < 4 →
     let sent := { r with
       sendCount := r.sendCount + 1
       state := .awaiting (s.base + s.events.listeners[r.listener].retryInterval * 25000) }
     exec (.notificationOffer p) s = exec (.notificationOffer p)
       ((s.setEvents { s.events with queue := before ++ sent :: after }).updateEgress p (fun e => { e with
         mgmt := e.mgmt ++ [.notification (s.notificationFrame sent)], selectDue := true }))) ∧
  (∀ (s : State) (before after : List NotifRecord) (r : NotifRecord) (at_ : Nat),
     s.events.queue = before ++ r :: after → r.state = .awaiting at_ → at_ ≤ s.base →
     (∀ x ∈ before, x.listener = r.listener → x.seq = r.seq →
       ∀ t, x.state = .awaiting t → s.base < t) →
     (s.events.listeners[r.listener].retryLimit < r.sendCount →
       exec (.retryTimerExpiry r.listener r.seq) s = .next (s.setEvents { s.events with
         queue := before ++ after
         listeners := s.events.listeners.set r.listener { s.events.listeners[r.listener] with
           lapse := if s.events.listeners[r.listener].lapse < 255
             then s.events.listeners[r.listener].lapse + 1 else s.events.listeners[r.listener].lapse } })) ∧
     (r.sendCount ≤ s.events.listeners[r.listener].retryLimit →
       let due := s.setEvents { s.events with
         queue := before ++ { r with state := .resendDue } :: after }
       exec (.retryTimerExpiry r.listener r.seq) s =
         exec (.notificationOffer s.events.listeners[r.listener].port) due ∧
       (s.link s.events.listeners[r.listener].port = .down ∨
           4 ≤ (s.egress.get s.events.listeners[r.listener].port).mgmt.length →
         exec (.retryTimerExpiry r.listener r.seq) s = .next due))) ∧
  (∀ (s : State) (r : NotifRecord),
     let content := be48 s.events.listeners[r.listener].addr ++
       be48 (0x024F53D24000#48 ||| s.strap.setWidth 48) ++
       [0x88#8, 0xB5#8, 0x14#8, 0#8, 0#8, 0#8, 0#8, 19#8] ++ be16 (s.timer.cycleCount.setWidth 16) ++
       [BitVec.ofNat 8 r.listener.val] ++ be16 r.seq ++
       [BitVec.ofNat 8 r.cls.number.val ||| (if r.test then 0x80#8 else 0#8)] ++ be32 r.cycleCount ++
       be32 (BitVec.ofNat 32 r.offset) ++
       [match r.stream with | some i => BitVec.ofNat 8 i.val | none => 0xFF#8,
        match r.port with | some p => BitVec.ofNat 8 p.index | none => 0xFF#8] ++
       be16 r.detail ++
       [BitVec.ofNat 8 (match r.missed with | some n => n | none => 0), BitVec.ofNat 8 r.sendCount,
        BitVec.ofNat 8 s.events.listeners[r.listener].lapse]
     content.length = 41 ∧
     s.notificationFrame r = withFcs (content ++ List.replicate 19 0#8))

/-! ### Ownership, staging and restart by their own moments -/

/-- A lease expires: the record becomes empty, LEASE is raised with detail EXPIRED, and in READY a revert
restage begins; a pending commit of the expired owner is withdrawn first, COMMIT raised with detail
WITHDRAWN and reason LEASE; one of another owner, or of none, stands. -/
def Obligations.LeaseExpiryEndsOwnership : Prop :=
  (∀ (s : State) (o : Owner), s.agent.owner = some o → o.expiry ≤ s.base →
    ∃ t : State, exec .leaseExpiry s = .next t ∧ t.agent = { s.agent with owner := none } ∧
      t.events.flags.getLsbD 10 = true ∧
      (s.staging.state = .ready → t.staging.state = .restaging ∧ t.staging.reason = some .lease ∧
        (∀ i : StreamIx, t.staging.dirty[i] = false)) ∧
      (∀ c, s.staging.state = .pending → s.staging.commit = some c → c.owner = some o.holder →
        t.staging.state = .restaging ∧ t.staging.reason = some .lease ∧ t.staging.commit = none ∧
        t.events.flags.getLsbD 9 = true) ∧
      (∀ c, s.staging.state = .pending → s.staging.commit = some c → c.owner ≠ some o.holder →
        t.staging = s.staging) ∧
      (s.staging.state = .restaging → t.staging = s.staging)) ∧
  (∀ (s : State) (o : Owner), s.agent.owner = some o → o.expiry ≤ s.base →
    let emptied := (s.setAgent { s.agent with owner := none }).raise
      { cls := .lease, stream := none, port := none, detail := 1#16, test := false }
    let withdrawn := (emptied.setStaging { s.staging with commit := none, state := .ready }).raise
      { cls := .commit, stream := none, port := none, detail := 0x0202#16, test := false }
    (s.staging.state = .ready → exec .leaseExpiry s = .next (emptied.beginRestage .lease)) ∧
    (∀ c, s.staging.state = .pending → s.staging.commit = some c → c.owner = some o.holder →
      exec .leaseExpiry s = .next ((withdrawn.setEgress (withdrawn.egress.map (fun e =>
        { e with selectDue := true }))).beginRestage .lease)) ∧
    (∀ c, s.staging.state = .pending → s.staging.commit = some c → c.owner ≠ some o.holder →
      exec .leaseExpiry s = .next emptied) ∧
    (s.staging.state = .restaging → exec .leaseExpiry s = .next emptied))

/-- A restage begins with its reason, cleared dirty marks and an end 10,000 ticks later, and changes nothing
else; while one runs, an occasion adds nothing. At its end the staged set equals the active set, READY, and
STAGE-READY is raised with the restage reason as detail. -/
def Obligations.RestageRunsAndCompletes : Prop :=
  (∀ (s : State) (why : RestageReason),
     (s.staging.state = .restaging → s.beginRestage why = s) ∧
     (s.staging.state ≠ .restaging →
       s.beginRestage why = s.setStaging { s.staging with
         state := .restaging, reason := some why, dirty := Vector.replicate 128 false
         restageEnd := some (s.base + 10000) } ∧
       (∀ i : StreamIx, (s.beginRestage why).staging.dirty[i] = false))) ∧
  (∀ (s : State) (at_ : Nat) (why : RestageReason), s.staging.state = .restaging →
     s.staging.restageEnd = some at_ → at_ ≤ s.base → s.staging.reason = some why →
     ∃ t : State, exec .restageCompletion s = .next t ∧ t.staged = t.active ∧ t.active = s.active ∧
       t.staging.state = .ready ∧ t.staging.reason = none ∧ t.staging.active = s.staging.active ∧
       t.events.flags.getLsbD 14 = true ∧
       t = (((s.setStaged s.active).setStaging { s.staging with
           state := .ready, restageEnd := none }).raise
         { cls := .stageReady, stream := none, port := none
           detail := (match why with | .apply => 1#16 | .lease => 2#16 | .restart => 3#16)
           test := false }).setStaging { s.staging with
             state := .ready, restageEnd := none, reason := none })

/-- RESTART of the owner is answered OK, and the agent holds a restart wait of 1 ms, counted in ticks from the
offer (log 10); nothing else changes yet. The wait ends when the 1 ms has passed and the response has met
an outcome other than completed or still stands in a queue. The warm restart at that end: what each block
holds afterwards, and what it raises behind that: COMMIT with detail WITHDRAWN and reason RESTART where a
commit was pending, QUENCH-ON with detail RESTART where QS was clear, two of them in a free order (log 14). -/
def Obligations.RestartWaitsThenSetsEveryBlock : Prop :=
  (∀ (s : State) (r : Request) (rest : List Request), Takes s .restart r rest → Carries r 0 →
     s.ownsGate r = true →
     exec .restart s = .next
       (((s.entered rest).setAgent { (s.entered rest).agent with
         restartWait := some { deadline := s.base + 25000, failed := false } }).conclude r .ok [] true)) ∧
  (∀ (s : State) (w : RestartWait), s.agent.restartWait = some w →
     (w.deadline ≤ s.base →
       (w.failed = true ∨ ∃ (p : Port) (f : List Byte), .response f true ∈ (s.egress.get p).mgmt) →
       exec .restartWaitExpiry s = .next s.warmRestart) ∧
     (s.base < w.deadline ∨
       (w.failed = false ∧ ∀ (p : Port) (f : List Byte), .response f true ∉ (s.egress.get p).mgmt) →
       exec .restartWaitExpiry s = .next s)) ∧
  (∀ (s : State) (w : RestartWait), s.agent.restartWait = some w → w.failed = true →
     w.deadline ≤ s.base →
     ∃ t : State, exec .restartWaitExpiry s = .next t ∧
       t.agent.intake = [] ∧ t.agent.cache = [] ∧ t.agent.owner = none ∧
       t.agent.restartWait = none ∧ t.agent.executed = 0#32 ∧ t.agent.mgmtPorts = s.agent.mgmtPorts ∧
       t.timer.state = .stopped ∧ t.timer.faultCount = 0 ∧ t.timer.attribution = none ∧
       t.timer.counter = s.timer.counter ∧ t.timer.cycleCount = s.timer.cycleCount ∧
       (∀ i : StreamIx, t.streams[i].state = (if (s.streamRec i).enabled then .armed else .disabled) ∧
         t.streams[i].position = (if (s.streamRec i).enabled then (s.streamRec i).entryStep else 0) ∧
         t.streams[i].holdCause = none ∧ t.streams[i].admittedCount = 0 ∧
         t.streams[i].counters = StreamCounters.zero) ∧
       t.staging.state = .restaging ∧ t.staging.commit = none ∧ t.staging.fault = none ∧
       t.active = s.active ∧
       t.quench.causes = { s.quench.causes with restart := true } ∧ t.quench.qf = true ∧
       t.quench.qs = true ∧ t.quench.unit = .quenched ∧ t.quench.wait = none ∧
       t.quench.lineMode = s.quench.lineMode ∧ t.quench.releaseMode = s.quench.releaseMode ∧
       t.events.classes = s.events.classes ∧
       (∀ p : Port, t.link p = s.link p ∧ (t.ports.get p).reception = none ∧
         (t.ports.get p).counters = PortCounters.zero ∧ (t.egress.get p).cyclic = [] ∧
         (t.egress.get p).background = []) ∧
       (s.quench.qs = true → s.staging.commit = none → t.events.flags = 0#16) ∧
       (s.quench.qs = false → t.events.flags.getLsbD 6 = true) ∧
       (s.staging.commit.isSome = true → t.events.flags.getLsbD 9 = true)) ∧
  (∀ s : State,
     s.warmRestart.agent = { s.agent with
       intake := [], cache := [], owner := none, restartWait := none, executed := 0#32
       cacheAnswers := 0#32, intakeDiscards := 0#32 } ∧
     s.warmRestart.timer = { s.timer with state := .stopped, attribution := none, faultCount := 0 } ∧
     (∀ i : StreamIx, s.warmRestart.streams[i] =
       { state := if (s.streamRec i).enabled then .armed else .disabled
         position := if (s.streamRec i).enabled then (s.streamRec i).entryStep else 0
         admittedCount := 0, absenceRun := 0, holdCause := none, lastAdvance := none, spacing := none
         counters := StreamCounters.zero }) ∧
     s.warmRestart.staging.active = s.staging.active ∧
     (s.staging.state ≠ .restaging → s.warmRestart.staging.reason = some .restart ∧
       s.warmRestart.staging.restageEnd = some (s.base + 10000) ∧
       (∀ i : StreamIx, s.warmRestart.staging.dirty[i] = false)) ∧
     (s.staging.state = .restaging → s.warmRestart.staging.reason = s.staging.reason ∧
       s.warmRestart.staging.restageEnd = s.staging.restageEnd ∧
       s.warmRestart.staging.dirty = s.staging.dirty) ∧
     s.warmRestart.quench = { s.quench with
       causes := { s.quench.causes with restart := true }
       qf := true, qs := true, unit := .quenched, wait := none } ∧
     (∀ l : ListenerIx,
       s.warmRestart.events.listeners[l].enabled = s.events.listeners[l].enabled ∧
       s.warmRestart.events.listeners[l].addr = s.events.listeners[l].addr ∧
       s.warmRestart.events.listeners[l].port = s.events.listeners[l].port ∧
       s.warmRestart.events.listeners[l].retryInterval = s.events.listeners[l].retryInterval ∧
       s.warmRestart.events.listeners[l].retryLimit = s.events.listeners[l].retryLimit ∧
       s.warmRestart.events.listeners[l].lapse = 0 ∧ s.warmRestart.events.listeners[l].missed = 0) ∧
     s.warmRestart.events.classes = s.events.classes ∧
     (s.quench.qs = true → s.staging.commit = none →
       s.warmRestart.events.queue = [] ∧
       (∀ l : ListenerIx,
         s.warmRestart.events.listeners[l].nextSeq = s.events.listeners[l].nextSeq) ∧
       (∀ p : Port, (s.warmRestart.egress.get p).mgmt = [])) ∧
     (∀ p : Port, s.warmRestart.ports.get p =
         { link := s.link p, reception := none, counters := PortCounters.zero } ∧
       (∀ (f : List Byte) (b : Bool), .response f b ∉ (s.warmRestart.egress.get p).mgmt) ∧
       (s.warmRestart.egress.get p).cyclic = [] ∧ (s.warmRestart.egress.get p).background = [] ∧
       (s.warmRestart.egress.get p).transmitter =
         (match (s.egress.get p).transmitter with
          | .waiting => .idle
          | .idle => .idle
          | .down => .down
          | .sending x => .sending x)) ∧
     s.warmRestart.bankA = s.bankA ∧ s.warmRestart.bankB = s.bankB ∧
     s.warmRestart.base = s.base ∧ s.warmRestart.strap = s.strap) ∧
  (∀ s : State,
     let blocks := (s.restartBlocks.beginRestage .restart).releaseFrames
     let commit (x : State) : State := x.raise
       { cls := .commit, stream := none, port := none, detail := 0x0204#16, test := false }
     let quenchOn (x : State) : State := x.raise
       { cls := .quenchOn, stream := none, port := none, detail := 5#16, test := false }
     (s.staging.commit = none → s.quench.qs = true → s.warmRestart = blocks) ∧
     (s.staging.commit = none → s.quench.qs = false → s.warmRestart = quenchOn blocks) ∧
     (s.staging.commit.isSome = true → s.quench.qs = true → s.warmRestart = commit blocks) ∧
     (s.staging.commit.isSome = true → s.quench.qs = false →
       s.warmRestart = quenchOn (commit (blocks.draw 1)) ∨
       s.warmRestart = commit (quenchOn (blocks.draw 1))))

/-! ### The agent -/

/-- The answer: the response stands in the reply cache as the most recently used entry, replaces the entry of
its address, and is offered to the arrival port's management queue, or dropped and counted; a dropped
RESTART response is handed over as failed. The frame is addressed to the request's source, with the
station address, kind 3, tag and phase 0, the cycle tag, and a body of code, tag, status, length and
result. -/
def Obligations.AnswerStoresAndOffersResponse : Prop :=
  (∀ (s : State) (r : Request) (st : Status) (res : List Byte),
    let f := s.responseFrame r.source (halfAt r.body 0) r.tag st res
    let t := s.conclude r st res false
    t.agent.cache = (({ addr := r.source, tag := r.tag, response := f } : CacheEntry) ::
      s.agent.cache.filter (fun e => decide (e.addr ≠ r.source))).take 4 ∧
    (s.link r.port = .up → (s.egress.get r.port).mgmt.length < 4 →
      (t.egress.get r.port).mgmt = (s.egress.get r.port).mgmt ++ [.response f false] ∧
      t.ports = s.ports) ∧
    ((s.link r.port = .down ∨ 4 ≤ (s.egress.get r.port).mgmt.length) →
      t.egress = s.egress ∧
      (t.ports.get r.port).counters = { (s.ports.get r.port).counters with
        managementDrops := (s.ports.get r.port).counters.managementDrops + 1#32 }) ∧
    (∀ q : Port, q ≠ r.port → t.egress.get q = s.egress.get q ∧ t.ports.get q = s.ports.get q) ∧
    t.agent = { s.agent with cache := t.agent.cache } ∧ Within .answer s t) ∧
  (∀ (s : State) (r : Request) (st : Status) (res : List Byte) (restarts : Bool),
    let f := s.responseFrame r.source (halfAt r.body 0) r.tag st res
    let stored := s.setAgent { s.agent with
      cache := (({ addr := r.source, tag := r.tag, response := f } : CacheEntry) ::
        s.agent.cache.filter (fun e => decide (e.addr ≠ r.source))).take 4 }
    (s.link r.port = .up → (s.egress.get r.port).mgmt.length < 4 →
      ∃ n : Nat, s.conclude r st res restarts = (stored.updateEgress r.port (fun e => { e with
        mgmt := e.mgmt ++ [.response f restarts], selectDue := true })).draw n) ∧
    ((s.link r.port = .down ∨ 4 ≤ (s.egress.get r.port).mgmt.length) →
      ∃ n : Nat, s.conclude r st res restarts =
        (((stored.countPort r.port (fun c => { c with
          managementDrops := c.managementDrops + 1#32 })).setAgent { stored.agent with
            restartWait := s.agent.restartWait.map (fun w =>
              { w with failed := w.failed || restarts }) }).draw n))) ∧
  (∀ (s : State) (dest : StationAddr) (code tag : Half) (st : Status) (res : List Byte),
    let content := be48 dest ++ be48 (0x024F53D24000#48 ||| s.strap.setWidth 48) ++
      [0x88#8, 0xB5#8, 0x13#8, 0#8, 0#8, 0#8] ++ be16 (BitVec.ofNat 16 (7 + res.length)) ++
      be16 (s.timer.cycleCount.setWidth 16) ++ be16 code ++ be16 tag ++
      [match st with
       | .ok => 0#8 | .notOwner => 1#8 | .owned => 2#8 | .busy => 3#8 | .pending => 4#8
       | .invalid => 5#8 | .late => 6#8 | .range => 7#8 | .state => 8#8 | .stillActive => 9#8
       | .malformed => 10#8 | .unknownRequest => 11#8] ++
      be16 (BitVec.ofNat 16 res.length) ++ res
    s.responseFrame dest code tag st res =
      withFcs (content ++ List.replicate (60 - content.length) 0#8))

/-- A request whose source and tag match a cache entry is answered with the stored response and not executed.
A body of fewer than 4 bytes is answered MALFORMED with code 0 and tag 0, and not cached; a code that
names no request is answered UNKNOWN-REQUEST. -/
def Obligations.CachedUnknownAndUnreadableRequests : Prop :=
  (∀ (c : Instr) (s : State) (r : Request) (rest : List Request) (e : CacheEntry),
     c ∈ ownerCommands ++ openCommands ++ [.unknownRequest] →
     s.agent.restartWait = none → s.agent.intake = r :: rest → r.command = c → 4 ≤ r.body.length →
     s.agent.cache.find? (fun x => decide (x.addr = r.source) && decide (x.tag = r.tag)) = some e →
     exec c s = .next ((s.setAgent { s.agent with
       intake := rest
       cache := e :: s.agent.cache.filter (fun x => decide (x.addr ≠ e.addr))
       cacheAnswers := s.agent.cacheAnswers + 1#32 }).offerResponse r.port e.response false)) ∧
  (∀ (s : State) (r : Request) (rest : List Request),
     (s.agent.restartWait = none → s.agent.intake = r :: rest → r.body.length < 4 →
       exec .unknownRequest s = .next ((s.setAgent { s.agent with intake := rest }).offerResponse r.port
         (s.responseFrame r.source 0#16 0#16 .malformed []) false)) ∧
     (Takes s .unknownRequest r rest →
       exec .unknownRequest s = .next ((s.entered rest).conclude r .unknownRequest [] false)))

/-- A body that is not as long as its request gives is answered MALFORMED; a request marked "owner" from a
station that does not hold the gate with its token is answered NOT-OWNER; a value outside its range is
answered RANGE. None of the three reaches a block. MALFORMED, NOT-OWNER and RANGE carry no result,
RANGE of a mode of TIMER-START or RELEASE-STREAM included (DEDUCED, log 39). The row is found from the
request code, and the byte that tells two rows of one code apart chooses the row (log 4): an out-of-field
target of COMMIT is one of commitAt, an out-of-field mode one of releaseStreamRearm or timerStartOnMark, and
an out-of-field clear byte one of readCounters, RANGE for a station without ownership too (log 23). A group
address is out of range for a listener (log 22). -/
def Obligations.FormOwnershipAndRangeAreChecked : Prop :=
  (∀ (c : Instr) (s : State) (r : Request) (rest : List Request), Takes s c r rest →
     (r.overrun = true ∧ c ∈ ownerCommands ++ openCommands ∨
       (c = .discover ∨ c = .readStatus ∨ c = .readFlags ∨ c = .readFault ∨ c = .yieldOwnership ∨
         c = .withdraw ∨ c = .quench ∨ c = .timerStop ∨ c = .restart) ∧ r.body.length ≠ 8 ∨
       (c = .holdStream ∨ c = .raiseFlag ∨ c = .timerStartImmediate ∨ c = .timerStartOnMark) ∧
         r.body.length ≠ 9 ∨
       (c = .claim ∨ c = .readStreamState ∨ c = .releaseStreamResume ∨ c = .releaseStreamRearm) ∧
         r.body.length ≠ 10 ∨
       (c = .readCounters ∨ c = .readCountersClear ∨ c = .ackNotify) ∧ r.body.length ≠ 11 ∨
       c = .setLive ∧ r.body.length ≠ 12 ∨
       (c = .commitNext ∨ c = .commitAt) ∧ r.body.length ≠ 13 ∨
       c = .readSet ∧ r.body.length ≠ 14 ∨
       c = .setListener ∧ r.body.length ≠ 19 ∨ c = .writeSettings ∧ r.body.length ≠ 22 ∨
       c = .writeWindows ∧ r.body.length ≠ 10 + 7 * r.arg 1 ∨
       c = .writeStreams ∧ r.body.length ≠ 10 + 15 * r.arg 1 ∨
       c = .writeSteps ∧ r.body.length ≠ 11 + 2 * r.arg 2 ∨
       (c = .writeTemplate ∨ c = .setNotify) ∧ r.body.length ≠ 11 + r.arg 2 ∨
       (c = .clearQuench ∨ c = .clearFlags) ∧ r.body.length ≠ 9 + r.arg 0) →
     exec c s = .next ((s.entered rest).conclude r .malformed [] false)) ∧
  (∀ (c : Instr) (s : State) (r : Request) (rest : List Request), Takes s c r rest →
     s.ownsGate r = false → r.overrun = false →
     ((c = .yieldOwnership ∨ c = .withdraw ∨ c = .quench ∨ c = .timerStop ∨ c = .restart) ∧
         r.body.length = 8 ∨
       (c = .holdStream ∨ c = .raiseFlag ∨ c = .timerStartImmediate ∨ c = .timerStartOnMark) ∧
         r.body.length = 9 ∨
       (c = .releaseStreamResume ∨ c = .releaseStreamRearm) ∧ r.body.length = 10 ∨
       c = .readCountersClear ∧ r.body.length = 11 ∨ c = .setLive ∧ r.body.length = 12 ∨
       (c = .commitNext ∨ c = .commitAt) ∧ r.body.length = 13 ∨
       c = .setListener ∧ r.body.length = 19 ∨ c = .writeSettings ∧ r.body.length = 22 ∨
       c = .writeWindows ∧ r.body.length = 10 + 7 * r.arg 1 ∨
       c = .writeStreams ∧ r.body.length = 10 + 15 * r.arg 1 ∨
       c = .writeSteps ∧ r.body.length = 11 + 2 * r.arg 2 ∨
       c = .writeTemplate ∧ r.body.length = 11 + r.arg 2 ∨
       c = .setNotify ∧ r.body.length = 11 + r.arg 2 ∨
       (c = .clearQuench ∨ c = .clearFlags) ∧ r.body.length = 9 + r.arg 0) →
     exec c s = .next ((s.entered rest).conclude r .notOwner [] false)) ∧
  (∀ (c : Instr) (s : State) (r : Request) (rest : List Request), Takes s c r rest →
     (c ∈ ownerCommands → s.ownsGate r = true) →
     (c = .holdStream ∧ Carries r 1 ∧ 128 ≤ r.arg 0 ∨
       (c = .releaseStreamResume ∨ c = .releaseStreamRearm) ∧ Carries r 2 ∧
         (128 ≤ r.arg 0 ∨ 1 < r.arg 1) ∨
       c = .timerStartOnMark ∧ Carries r 1 ∧ 1 < r.arg 0 ∨
       c = .readStreamState ∧ Carries r 2 ∧
         (r.arg 1 = 0 ∨ 87 < r.arg 1 ∨ 128 < r.arg 0 + r.arg 1) ∨
       (c = .readCounters ∨ c = .readCountersClear) ∧ Carries r 3 ∧
         (1 < r.arg 0 ∨ r.arg 0 = 0 ∧ 128 ≤ r.arg 1 ∨ r.arg 0 = 1 ∧ 4 ≤ r.arg 1 ∨ 1 < r.arg 2) ∨
       c = .readSet ∧ Carries r 6 ∧ (1 < r.arg 0 ∨ 4 < r.arg 1 ∨ natAt r.args 4 2 = 0 ∨
         r.arg 1 = 0 ∧ (natAt r.args 2 2 ≠ 0 ∨ natAt r.args 4 2 ≠ 1) ∨
         r.arg 1 = 1 ∧ 64 < natAt r.args 2 2 + natAt r.args 4 2 ∨
         r.arg 1 = 2 ∧ (92 < natAt r.args 4 2 ∨ 128 < natAt r.args 2 2 + natAt r.args 4 2) ∨
         r.arg 1 = 3 ∧ (697 < natAt r.args 4 2 ∨ 1024 < natAt r.args 2 2 + natAt r.args 4 2) ∨
         r.arg 1 = 4 ∧ (natAt r.args 4 2 ≠ 1 ∨ 32 ≤ natAt r.args 2 2)) ∨
       c = .ackNotify ∧ Carries r 3 ∧ 4 ≤ r.arg 0 ∨
       c = .raiseFlag ∧ Carries r 1 ∧ 16 ≤ r.arg 0 ∨
       c = .commitAt ∧ Carries r 5 ∧ 1 < r.arg 0 ∨
       c = .claim ∧ Carries r 2 ∧ (natAt r.args 0 2 < 100 ∨ 60000 < natAt r.args 0 2) ∨
       c = .writeSettings ∧ Carries r 14 ∧ readSettings r.args = none ∨
       c = .writeWindows ∧ Carries r (2 + 7 * r.arg 1) ∧ (r.arg 1 = 0 ∨ 64 < r.arg 1 ∨
         64 < r.arg 0 + r.arg 1 ∨
         ∃ k, k < r.arg 1 ∧ readWindow ((r.args.drop (2 + 7 * k)).take 7) = none) ∨
       c = .writeStreams ∧ Carries r (2 + 15 * r.arg 1) ∧ (r.arg 1 = 0 ∨ 64 < r.arg 1 ∨
         128 < r.arg 0 + r.arg 1 ∨
         ∃ k, k < r.arg 1 ∧ readStream ((r.args.drop (2 + 15 * k)).take 15) = none) ∨
       c = .writeSteps ∧ Carries r (3 + 2 * r.arg 2) ∧ (r.arg 2 = 0 ∨ 64 < r.arg 2 ∨
         1024 < natAt r.args 0 2 + r.arg 2 ∨
         ∃ k, k < r.arg 2 ∧ readStep ((r.args.drop (3 + 2 * k)).take 2) = none) ∨
       c = .writeTemplate ∧ Carries r (3 + r.arg 2) ∧ (32 ≤ r.arg 0 ∨ 1 < r.arg 1 ∨
         r.arg 1 = 0 ∧ r.arg 2 ≠ 0 ∨ r.arg 1 = 1 ∧ (r.arg 2 < 60 ∨ 128 < r.arg 2)) ∨
       c = .setLive ∧ Carries r 4 ∧ (1 < r.arg 0 ∨ 1 < r.arg 1 ∨ 2 < r.arg 2 ∨ 16 ≤ r.arg 3 ∨
         (byteAt r.args 3).getLsbD r.port.index = false) ∨
       c = .setListener ∧ Carries r 11 ∧ (4 ≤ r.arg 0 ∨ 1 < r.arg 1 ∨
         (byteAt r.args 2).getLsbD 0 = true ∨ 4 ≤ r.arg 8 ∨ r.arg 9 = 0 ∨ 7 < r.arg 10) ∨
       c = .setNotify ∧ Carries r (3 + r.arg 2) ∧ (1 < r.arg 0 ∨ 4 ≤ r.arg 1 ∨
         ∃ k, k < r.arg 2 ∧ 16 ≤ r.arg (3 + k)) ∨
       c = .clearFlags ∧ Carries r (1 + r.arg 0) ∧ (∃ k, k < r.arg 0 ∧ 16 ≤ r.arg (1 + k)) ∨
       c = .clearQuench ∧ Carries r (1 + r.arg 0) ∧ (∃ k, k < r.arg 0 ∧ 6 ≤ r.arg (1 + k))) →
     exec c s = .next ((s.entered rest).conclude r .range [] false)) ∧
  (∀ r : Request,
     (r.body.length < 4 → r.command = .unknownRequest) ∧
     (4 ≤ r.body.length →
       let code := natAt r.body 0 2
       let single : List (Nat × Instr) :=
         [(0x0001, .discover), (0x0002, .claim), (0x0003, .yieldOwnership), (0x0010, .readStatus),
          (0x0011, .readSet), (0x0012, .readStreamState), (0x0014, .readFlags), (0x0015, .readFault),
          (0x0020, .writeSettings), (0x0021, .writeWindows), (0x0022, .writeStreams),
          (0x0023, .writeSteps), (0x0024, .writeTemplate), (0x0031, .withdraw), (0x0040, .holdStream),
          (0x0042, .quench), (0x0043, .clearQuench), (0x0050, .setLive), (0x0051, .setListener),
          (0x0052, .setNotify), (0x0053, .clearFlags), (0x0054, .raiseFlag), (0x0061, .timerStop),
          (0x0062, .restart), (0x0070, .ackNotify)]
       (∀ x ∈ single, code = x.1 → r.command = x.2) ∧
       (code = 0x0013 → r.command = (if r.arg 2 = 1 then .readCountersClear else .readCounters)) ∧
       (code = 0x0030 → r.command = (if r.arg 0 = 0 then .commitNext else .commitAt)) ∧
       (code = 0x0041 →
         r.command = (if r.arg 1 = 0 then .releaseStreamResume else .releaseStreamRearm)) ∧
       (code = 0x0060 →
         r.command = (if r.arg 0 = 0 then .timerStartImmediate else .timerStartOnMark)) ∧
       (code ∉ [0x0013, 0x0030, 0x0041, 0x0060] ++ single.map (fun x => x.1) →
         r.command = .unknownRequest)) ∧
     r.tag = halfAt r.body 2 ∧ r.args = r.body.drop 8 ∧
     (∀ k, r.arg k = (r.body.getD (8 + k) 0#8).toNat)) ∧
  (∀ (s : State) (r : Request), s.ownsGate r = true ↔
     ∃ o, s.agent.owner = some o ∧ o.holder = r.source ∧ o.token = wordAt r.body 4)

/-- DISCOVER, READ-STATUS, READ-FLAGS and READ-FAULT answer OK with the state as it stands and change nothing
but the agent's record of the request (absent values: log 8; the lease's rounding: log 9; an absent
fault record: log 18; resend-due records among the AWAITING: log 31; the level of QUENCH_N: log 11; the request
counted as executed: log 44). -/
def Obligations.IdentityStatusFlagAndFaultReads : Prop :=
  (∀ (s : State) (r : Request) (rest : List Request), Carries r 0 →
     (∀ o, Takes s .discover r rest → s.agent.owner = some o →
       exec .discover s = .next ((s.entered rest).conclude r .ok
         (be48 (0x024F53D24000#48 ||| s.strap.setWidth 48) ++ [s.strap.setWidth 8] ++
           [0x44#8, 0x5A#8, 0x46#8, 0x2D#8, 0x32#8, 0x34#8, 0x30#8, 0x38#8] ++
           [8#8, s.agent.mgmtPorts.setWidth 8, BitVec.ofNat 8 r.port.index] ++
           ([1#8] ++ be48 o.holder ++ be16 (BitVec.ofNat 16 (s.remainingLease o)))) false)) ∧
     (Takes s .discover r rest → s.agent.owner = none →
       ∃ free : List Byte, free.length = 8 ∧
       exec .discover s = .next ((s.entered rest).conclude r .ok
         (be48 (0x024F53D24000#48 ||| s.strap.setWidth 48) ++ [s.strap.setWidth 8] ++
           [0x44#8, 0x5A#8, 0x46#8, 0x2D#8, 0x32#8, 0x34#8, 0x30#8, 0x38#8] ++
           [8#8, s.agent.mgmtPorts.setWidth 8, BitVec.ofNat 8 r.port.index] ++
           ([0#8] ++ free)) false)) ∧
     (Takes s .readStatus r rest →
       ∃ res : List Byte, res.length = 153 ∧
         res.take 21 = be48 s.stationAddr ++ [s.strap.setWidth 8, timerStateByte s.timer.state] ++
           be32 (BitVec.ofNat 32 s.timer.counter) ++ be32 s.timer.cycleCount ++
           be32 (BitVec.ofNat 32 s.timer.cycleLength) ++ [BitVec.ofNat 8 s.timer.faultCount] ∧
         (res.drop 21).take 3 =
           [match s.staging.active with | .a => 0#8 | .b => 1#8,
            match s.staging.state with | .ready => 0#8 | .pending => 1#8 | .restaging => 2#8,
            match s.staging.reason with
            | some .apply => 1#8 | some .lease => 2#8 | some .restart => 3#8 | none => 0xFF#8] ∧
         (∀ c, s.staging.commit = some c →
           (c.target = .nextStart → (res.drop 24).take 1 = [0#8]) ∧
           (∀ n, c.target = .atCycle n → (res.drop 24).take 5 = [1#8] ++ be32 n) ∧
           (∀ a, c.owner = some a → (res.drop 29).take 7 = [1#8] ++ be48 a) ∧
           (c.owner = none → (res.drop 29).take 1 = [0#8]) ∧
           (res.drop 36).take 4 = be32 c.requestedAt) ∧
         (s.staging.commit = none → (res.drop 24).take 1 = [0xFF#8] ∧ (res.drop 29).take 1 = [0#8]) ∧
         (res.drop 40).take 1 =
           [BitVec.ofNat 8 (allStreams.filter (fun i => s.staging.dirty[i])).length] ∧
         (res.drop 41).take 9 =
           [causeMask s.quench.causes, yesNo s.quench.qf, yesNo s.quench.qs,
            quenchStateByte s.quench.unit, waitByte s.quench.wait, yesNo s.quench.lineEnable,
            lineModeByte s.quench.lineMode, releaseModeByte s.quench.releaseMode,
            yesNo (decide (s.quench.level = .asserted))] ∧
         (∀ p : Port, (res.drop (50 + 5 * p.index)).take 5 =
           [match s.link p with | .down => 0#8 | .up => 1#8,
            match (s.egress.get p).transmitter with
            | .down => 0#8 | .idle => 1#8 | .waiting => 2#8 | .sending _ => 3#8,
            BitVec.ofNat 8 (s.egress.get p).cyclic.length,
            BitVec.ofNat 8 (s.egress.get p).mgmt.length,
            BitVec.ofNat 8 (s.egress.get p).background.length]) ∧
         (res.drop 70).take 4 =
           [BitVec.ofNat 8 s.events.queue.length,
            BitVec.ofNat 8 (s.events.queue.filter (fun n => decide (n.state = .unsent))).length,
            BitVec.ofNat 8 (s.events.queue.filter (fun n => decide (n.state ≠ .unsent))).length,
            BitVec.ofNat 8 (s.events.queue.filter (fun n => decide (n.state = .resendDue))).length] ∧
         (∀ l : ListenerIx, (res.drop (74 + 14 * l.val)).take 14 =
           [yesNo s.events.listeners[l].enabled] ++ be48 s.events.listeners[l].addr ++
             [BitVec.ofNat 8 s.events.listeners[l].port.index,
              BitVec.ofNat 8 s.events.listeners[l].retryInterval,
              BitVec.ofNat 8 s.events.listeners[l].retryLimit] ++
             be16 s.events.listeners[l].nextSeq ++
             [BitVec.ofNat 8 s.events.listeners[l].missed,
              BitVec.ofNat 8 s.events.listeners[l].lapse]) ∧
         (∀ o, s.agent.owner = some o → (res.drop 130).take 9 =
           [1#8] ++ be48 o.holder ++ be16 (BitVec.ofNat 16 (s.remainingLease o))) ∧
         (s.agent.owner = none → (res.drop 130).take 1 = [0#8]) ∧
         res.drop 139 = [s.agent.mgmtPorts.setWidth 8, BitVec.ofNat 8 rest.length] ++
           be32 (s.agent.executed + 1#32) ++ be32 s.agent.cacheAnswers ++
           be32 s.agent.intakeDiscards ∧
         exec .readStatus s = .next ((s.entered rest).conclude r .ok res false))) ∧
  (∀ (s : State) (r : Request) (rest : List Request), Carries r 0 →
     (Takes s .readFlags r rest →
       exec .readFlags s = .next ((s.entered rest).conclude r .ok
         [s.events.flags.extractLsb' 8 8, s.events.flags.extractLsb' 0 8] false)) ∧
     (∀ f, Takes s .readFault r rest → s.staging.fault = some f →
       exec .readFault s = .next ((s.entered rest).conclude r .ok
         ([1#8, faultPartByte f.part] ++
           be16 (match f.index with | some i => BitVec.ofNat 16 i | none => 0xFFFF#16) ++
           [match f.stream with | some i => BitVec.ofNat 8 i | none => 0xFF#8,
            BitVec.ofNat 8 f.check]) false)) ∧
     (Takes s .readFault r rest → s.staging.fault = none →
       ∃ res : List Byte, res.length = 6 ∧ res.head? = some 0#8 ∧
         exec .readFault s = .next ((s.entered rest).conclude r .ok res false)))

/-- READ-COUNTERS returns the counters of a stream or of a port; with the clear option the same bytes are
returned and the counters are zeroed after that. -/
def Obligations.CounterReadsAndClears : Prop :=
  ∀ (s : State) (r : Request) (rest : List Request), Carries r 3 →
    (∀ i : StreamIx, r.arg 0 = 0 → r.arg 1 = i.val →
      (Takes s .readCounters r rest → r.arg 2 = 0 →
        exec .readCounters s = .next ((s.entered rest).conclude r .ok
          ([0#8, BitVec.ofNat 8 i.val] ++ streamCounterBytes s.streams[i].counters) false)) ∧
      (Takes s .readCountersClear r rest → r.arg 2 = 1 → s.ownsGate r = true →
        exec .readCountersClear s = .next
          (((s.entered rest).updateStream i (fun x => { x with counters := .zero })).conclude r .ok
            ([0#8, BitVec.ofNat 8 i.val] ++ streamCounterBytes s.streams[i].counters) false))) ∧
    (∀ p : Port, r.arg 0 = 1 → r.arg 1 = p.index →
      (Takes s .readCounters r rest → r.arg 2 = 0 →
        exec .readCounters s = .next ((s.entered rest).conclude r .ok
          ([1#8, BitVec.ofNat 8 p.index] ++ portCounterBytes (s.ports.get p).counters) false)) ∧
      (Takes s .readCountersClear r rest → r.arg 2 = 1 → s.ownsGate r = true →
        exec .readCountersClear s = .next
          (((s.entered rest).updatePort p (fun u => { u with counters := .zero })).conclude r .ok
            ([1#8, BitVec.ofNat 8 p.index] ++ portCounterBytes (s.ports.get p).counters) false)))

/-- READ-SET reads by role: ACTIVE in every staging state, STAGED in READY and PENDING, BUSY in RESTAGING.
READ-STREAM-STATE returns the runtime records of a run of streams with their dirty marks. -/
def Obligations.SetAndStreamStateReads : Prop :=
  (∀ (s : State) (r : Request) (rest : List Request), Takes s .readSet r rest → Carries r 6 →
     let first := natAt r.args 2 2
     let count := natAt r.args 4 2
     (r.arg 1 = 0 ∧ first = 0 ∧ count = 1 ∨
       r.arg 1 = 1 ∧ 1 ≤ count ∧ first + count ≤ 64 ∨
       r.arg 1 = 2 ∧ 1 ≤ count ∧ count ≤ 92 ∧ first + count ≤ 128 ∨
       r.arg 1 = 3 ∧ 1 ≤ count ∧ count ≤ 697 ∧ first + count ≤ 1024 ∨
       r.arg 1 = 4 ∧ count = 1 ∧ first < 32) →
     let records (b : Bank) : List Byte :=
       if r.arg 1 = 0 then settingsBytes b.settings
       else if r.arg 1 = 1 then ((b.windows.toList.drop first).take count).flatMap windowBytes
       else if r.arg 1 = 2 then ((b.streams.toList.drop first).take count).flatMap streamBytes
       else if r.arg 1 = 3 then ((b.steps.toList.drop first).take count).flatMap stepBytes
       else
         match b.templates.toList.getD first none with
         | none => [BitVec.ofNat 8 first, 0#8, 0#8]
         | some image => [BitVec.ofNat 8 first, 1#8, BitVec.ofNat 8 image.length] ++ image
     (r.arg 0 = 0 →
       exec .readSet s = .next ((s.entered rest).conclude r .ok (r.args ++ records s.active) false)) ∧
     (r.arg 0 = 1 → s.staging.state ≠ .restaging →
       exec .readSet s = .next ((s.entered rest).conclude r .ok (r.args ++ records s.staged) false)) ∧
     (r.arg 0 = 1 → s.staging.state = .restaging →
       exec .readSet s = .next ((s.entered rest).conclude r .busy [] false))) ∧
  (∀ (s : State) (r : Request) (rest : List Request), Takes s .readStreamState r rest → Carries r 2 →
     1 ≤ r.arg 1 → r.arg 1 ≤ 87 → r.arg 0 + r.arg 1 ≤ 128 →
     ∃ res : List Byte, res.length = 2 + 16 * r.arg 1 ∧ res.take 2 = r.args ∧
       (∀ (k : Nat) (i : StreamIx), k < r.arg 1 → i.val = r.arg 0 + k →
         (res.drop (2 + 16 * k)).take 16 = streamRunBytes i.val s.streams[i] s.staging.dirty[i]) ∧
       exec .readStreamState s = .next ((s.entered rest).conclude r .ok res false))

/-- CLAIM: granted where nobody holds the gate and where the holder renews with its token, the expiry
counted in ticks from the execution (log 10); OWNED with the holder and the remaining lease, a fraction of
a millisecond rounded by a free value (log 9), otherwise; RANGE for a lease length outside 100..60,000 ms.
YIELD of the owner empties the record and makes the owner field of a pending commit absent. -/
def Obligations.ClaimAndYieldMoveOwnership : Prop :=
  (∀ (s : State) (r : Request) (rest : List Request), Takes s .claim r rest → Carries r 2 →
     let lease := natAt r.args 0 2
     (100 ≤ lease → lease ≤ 60000 → (s.agent.owner = none ∨ s.ownsGate r = true) →
       exec .claim s = .next (((s.entered rest).setAgent { (s.entered rest).agent with
         owner := some
           { holder := r.source, token := r.token, leaseLength := lease
             expiry := s.base + lease * 25000 } }).conclude r .ok [] false)) ∧
     (∀ o, 100 ≤ lease → lease ≤ 60000 → s.agent.owner = some o →
       (o.holder ≠ r.source ∨ o.token ≠ r.token) →
       exec .claim s = .next ((s.entered rest).conclude r .owned
         (be48 o.holder ++ be16 (BitVec.ofNat 16 (s.remainingLease o))) false)) ∧
     (lease < 100 ∨ 60000 < lease →
       exec .claim s = .next ((s.entered rest).conclude r .range [] false))) ∧
  (∀ (s : State) (r : Request) (rest : List Request), Takes s .yieldOwnership r rest → Carries r 0 →
     s.ownsGate r = true →
     exec .yieldOwnership s = .next
       ((((s.entered rest).setAgent { (s.entered rest).agent with owner := none }).setStaging
         { s.staging with
           commit := s.staging.commit.map (fun c => { c with owner := none }) }).conclude r .ok [] false))

/-- The staged writes in READY: records are replaced whole in the staged set, and WRITE-STREAMS and
WRITE-STEPS set exactly the marks of the written streams, or of the streams whose staged ring covers a
written record, besides those already set. -/
def Obligations.StagedWritesReplaceRecords : Prop :=
  (∀ (s : State) (r : Request) (rest : List Request), s.ownsGate r = true →
     s.staging.state = .ready →
     (∀ x, Takes s .writeSettings r rest → Carries r 14 → readSettings r.args = some x →
       exec .writeSettings s = .next
         (((s.entered rest).setStaged { s.staged with settings := x }).conclude r .ok [] false)) ∧
     (∀ k : TemplateIx, Takes s .writeTemplate r rest → Carries r (3 + r.arg 2) → r.arg 0 = k.val →
       (r.arg 1 = 1 → 60 ≤ r.arg 2 → r.arg 2 ≤ 128 →
         exec .writeTemplate s = .next
           (((s.entered rest).setStaged { s.staged with
             templates := s.staged.templates.set k (some (r.args.drop 3)) }).conclude r .ok [] false)) ∧
       (r.arg 1 = 0 → r.arg 2 = 0 →
         exec .writeTemplate s = .next
           (((s.entered rest).setStaged { s.staged with
             templates := s.staged.templates.set k none }).conclude r .ok [] false)))) ∧
  (∀ (s : State) (r : Request) (rest : List Request), s.ownsGate r = true →
     s.staging.state = .ready →
     (∀ xs, Takes s .writeWindows r rest → Carries r (2 + 7 * r.arg 1) → 1 ≤ r.arg 1 →
       r.arg 1 ≤ 64 → r.arg 0 + r.arg 1 ≤ 64 → carriedWindows r = some xs →
       ∃ u : State, exec .writeWindows s = .next (u.conclude r .ok [] false) ∧
         u.active = s.active ∧ u.staging = s.staging ∧
         u.staged = { s.staged with windows := u.staged.windows } ∧
         (∀ w : WindowIx, u.staged.windows[w] =
           if r.arg 0 ≤ w.val then (xs[w.val - r.arg 0]?).getD s.staged.windows[w]
           else s.staged.windows[w])) ∧
     (∀ xs, Takes s .writeStreams r rest → Carries r (2 + 15 * r.arg 1) → 1 ≤ r.arg 1 →
       r.arg 1 ≤ 64 → r.arg 0 + r.arg 1 ≤ 128 → carriedStreams r = some xs →
       ∃ u : State, exec .writeStreams s = .next (u.conclude r .ok [] false) ∧
         u.active = s.active ∧ u.staged = { s.staged with streams := u.staged.streams } ∧
         (∀ i : StreamIx, u.staged.streams[i] =
           if r.arg 0 ≤ i.val then (xs[i.val - r.arg 0]?).getD s.staged.streams[i]
           else s.staged.streams[i]) ∧
         u.staging = { s.staging with dirty := u.staging.dirty } ∧
         (∀ i : StreamIx, u.staging.dirty[i] = (s.staging.dirty[i] ||
           decide (r.arg 0 ≤ i.val ∧ i.val < r.arg 0 + r.arg 1)))) ∧
     (∀ xs, Takes s .writeSteps r rest → Carries r (3 + 2 * r.arg 2) → 1 ≤ r.arg 2 → r.arg 2 ≤ 64 →
       natAt r.args 0 2 + r.arg 2 ≤ 1024 → carriedSteps r = some xs →
       ∃ u : State, exec .writeSteps s = .next (u.conclude r .ok [] false) ∧
         u.active = s.active ∧ u.staged = { s.staged with steps := u.staged.steps } ∧
         (∀ k : StepIx, u.staged.steps[k] =
           if natAt r.args 0 2 ≤ k.val then (xs[k.val - natAt r.args 0 2]?).getD s.staged.steps[k]
           else s.staged.steps[k]) ∧
         u.staging = { s.staging with dirty := u.staging.dirty } ∧
         (∀ i : StreamIx, u.staging.dirty[i] = (s.staging.dirty[i] ||
           decide (s.staged.streams[i].ringBase.val < natAt r.args 0 2 + r.arg 2 ∧
             natAt r.args 0 2 <
               s.staged.streams[i].ringBase.val + s.staged.streams[i].ringLength)))))

/-- A staged write or a COMMIT that reaches the staging controller in PENDING is refused PENDING, in
RESTAGING BUSY, and changes no record, mark or set. -/
def Obligations.StagedWritesRefusedOutsideReady : Prop :=
  ∀ (c : Instr) (s : State) (r : Request) (rest : List Request), Takes s c r rest →
    s.ownsGate r = true →
    (c = .writeSettings ∧ Carries r 14 ∧ (readSettings r.args).isSome = true ∨
      c = .writeTemplate ∧ Carries r (3 + r.arg 2) ∧ r.arg 0 < 32 ∧
        (r.arg 1 = 0 ∧ r.arg 2 = 0 ∨ r.arg 1 = 1 ∧ 60 ≤ r.arg 2 ∧ r.arg 2 ≤ 128) ∨
      c = .writeWindows ∧ Carries r (2 + 7 * r.arg 1) ∧ 1 ≤ r.arg 1 ∧ r.arg 1 ≤ 64 ∧
        r.arg 0 + r.arg 1 ≤ 64 ∧ (carriedWindows r).isSome = true ∨
      c = .writeStreams ∧ Carries r (2 + 15 * r.arg 1) ∧ 1 ≤ r.arg 1 ∧ r.arg 1 ≤ 64 ∧
        r.arg 0 + r.arg 1 ≤ 128 ∧ (carriedStreams r).isSome = true ∨
      c = .writeSteps ∧ Carries r (3 + 2 * r.arg 2) ∧ 1 ≤ r.arg 2 ∧ r.arg 2 ≤ 64 ∧
        natAt r.args 0 2 + r.arg 2 ≤ 1024 ∧ (carriedSteps r).isSome = true ∨
      (c = .commitNext ∨ c = .commitAt) ∧ Carries r 5 ∧ r.arg 0 ≤ 1) →
    (s.staging.state = .pending →
      exec c s = .next ((s.entered rest).conclude r .pending [] false)) ∧
    (s.staging.state = .restaging →
      exec c s = .next ((s.entered rest).conclude r .busy [] false))

/-- COMMIT of a valid set in READY: pending while the timer is RUNNING, with the owner's address and the cycle
count, and nothing else but that the arbiters are to select; LATE for a target that is not 1 to 2^31 cycles
ahead. The result is the staging state, the target, N and the cycle count; N of a NEXT target is not given
(log 8). -/
def Obligations.CommitBecomesPending : Prop :=
  ∀ (s : State) (r : Request) (rest : List Request), Carries r 5 → s.ownsGate r = true →
    s.staging.state = .ready → validate s.staged = none → s.timer.state = .running →
    let n := wordAt r.args 1
    let pending (target : CommitTarget) : State :=
      ((s.entered rest).setStaging { s.staging with
        state := .pending
        commit := some
          { target := target, owner := some r.source
            requestedAt := s.timer.cycleCount } }).setEgress
        (s.egress.map (fun e => { e with selectDue := true }))
    (Takes s .commitNext r rest →
      ∃ free : List Byte, free.length = 4 ∧
        exec .commitNext s = .next ((pending .nextStart).conclude r .ok
          ([1#8, 0#8] ++ free ++ be32 s.timer.cycleCount) false)) ∧
    (Takes s .commitAt r rest → r.arg 0 = 1 → 1 ≤ (n - s.timer.cycleCount).toNat →
      (n - s.timer.cycleCount).toNat ≤ 2147483648 →
      exec .commitAt s = .next ((pending (.atCycle n)).conclude r .ok
        ([1#8, 1#8] ++ be32 n ++ be32 s.timer.cycleCount) false)) ∧
    (Takes s .commitAt r rest → r.arg 0 = 1 →
      ((n - s.timer.cycleCount).toNat = 0 ∨ 2147483648 < (n - s.timer.cycleCount).toNat) →
      exec .commitAt s = .next ((s.entered rest).conclude r .late
        ([0#8, 0xFF#8] ++ be32 0#32 ++ be32 s.timer.cycleCount) false))

/-- COMMIT of a valid set in READY while the timer is not RUNNING applies at once, whatever its target: the
banks change roles, dirty streams are reseated, the marks cleared, a restage begun, COMMIT raised with
detail APPLIED. The answer is OK with staging state RESTAGING, no target, an N that is not given (log 8)
and the cycle count. The last clause gives every apply whole, step by step. -/
def Obligations.CommitAppliesWhileStopped : Prop :=
  (∀ (c : Instr) (s : State) (r : Request) (rest : List Request), Takes s c r rest →
    (c = .commitNext ∨ c = .commitAt) → Carries r 5 → r.arg 0 ≤ 1 → s.ownsGate r = true →
    s.staging.state = .ready → validate s.staged = none → s.timer.state ≠ .running →
    ∃ t : State, exec c s = .next t ∧ t.active = s.staged ∧ t.staged = s.active ∧
      t.staging.active = s.staging.active.other ∧ t.staging.state = .restaging ∧
      t.staging.reason = some .apply ∧ t.staging.commit = none ∧ t.staging.fault = none ∧
      (∀ i : StreamIx, t.staging.dirty[i] = false) ∧ t.events.flags.getLsbD 9 = true ∧
      (∀ i : StreamIx, s.staging.dirty[i] = false → t.streams[i] = s.streams[i]) ∧
      (∀ i : StreamIx, s.staging.dirty[i] = true → t.streams[i] =
        { state := if s.staged.streams[i].enabled then .armed else .disabled
          position := s.staged.streams[i].entryStep, admittedCount := 0, absenceRun := 0
          holdCause := none, lastAdvance := none, spacing := none
          counters := s.streams[i].counters }) ∧
      (∃ free : List Byte, free.length = 4 ∧
        t = (s.entered rest).applyCommit.conclude r .ok
          ([2#8, 0xFF#8] ++ free ++ be32 s.timer.cycleCount) false)) ∧
  (∀ s : State, ∃ reseated : Vector StreamRun 128,
    (∀ i : StreamIx, s.staging.dirty[i] = false → reseated[i] = s.streams[i]) ∧
    (∀ i : StreamIx, s.staging.dirty[i] = true → reseated[i] =
      { state := if s.staged.streams[i].enabled then .armed else .disabled
        position := s.staged.streams[i].entryStep, admittedCount := 0, absenceRun := 0
        holdCause := none, lastAdvance := none, spacing := none
        counters := s.streams[i].counters }) ∧
    (let raised := ((s.setStaging { s.staging with
         active := s.staging.active.other, commit := none, fault := none }).setStreams reseated).raise
       { cls := .commit, stream := none, port := none, detail := 0x0100#16, test := false }
     s.applyCommit = (raised.beginRestage .apply).setEgress
       (raised.egress.map (fun e => { e with selectDue := true }))))

/-- A set that fails a check: INVALID with the fault record; nothing else. WITHDRAW of the owner: in PENDING
the record goes, the state is READY, edits and marks stay, COMMIT is raised with detail WITHDRAWN and reason
REQUEST, and the arbiters are to select; the answer is OK with READY. Otherwise STATE. -/
def Obligations.InvalidSetsAndWithdrawals : Prop :=
  (∀ (c : Instr) (s : State) (r : Request) (rest : List Request) (f : FaultRecord), Takes s c r rest →
     (c = .commitNext ∨ c = .commitAt) → Carries r 5 → r.arg 0 ≤ 1 → s.ownsGate r = true →
     s.staging.state = .ready → validate s.staged = some f →
     exec c s = .next (((s.entered rest).setStaging { s.staging with fault := some f }).conclude r
       .invalid (faultBytes (some f)) false)) ∧
  (∀ (s : State) (r : Request) (rest : List Request), Takes s .withdraw r rest → Carries r 0 →
     s.ownsGate r = true →
     (s.staging.state = .pending →
       ∃ t : State, exec .withdraw s = .next t ∧
         t.staging = { s.staging with state := .ready, commit := none } ∧
         t.staged = s.staged ∧ t.active = s.active ∧ t.streams = s.streams ∧
         t.events.flags.getLsbD 9 = true ∧
         (let raised := ((s.entered rest).setStaging { s.staging with
              state := .ready, commit := none }).raise
            { cls := .commit, stream := none, port := none, detail := 0x0201#16, test := false }
          t = (raised.setEgress (raised.egress.map (fun e =>
            { e with selectDue := true }))).conclude r .ok [0#8] false)) ∧
     (s.staging.state = .ready →
       exec .withdraw s = .next ((s.entered rest).conclude r .state [0#8] false)) ∧
     (s.staging.state = .restaging →
       exec .withdraw s = .next ((s.entered rest).conclude r .state [2#8] false)))

/-- What validation promises of a set: period, tolerance and fault limit in range, windows ordered, below
P − T and, of one kind on one port, without overlap, and for every enabled stream a valid ADMIT window, a
ring in the pool, an entry step in the ring, adjacent codes that differ, 1 to 4 frames per cycle, a
present template, and a tag of its own. A set is valid exactly when it meets every check of Table 7-5, and
one that does not is reported by the first failure: settings (where check 1 holds, check 2 does too), checks
3 and 4 of the windows, check 5 of the windows, checks 6 to 13 of the streams, each by ascending index and
number. A failure of check 10 names the pool record of the second step of the first pair with equal codes,
and the stream. -/
def Obligations.ValidSetsPassTheChecks : Prop :=
  (∀ b : Bank, validate b = none →
    (2500 ≤ b.settings.period ∧ b.settings.period ≤ 1048575 ∧ b.settings.tolerance ≤ 64 ∧
      1 ≤ b.settings.faultLimit ∧ b.settings.faultLimit ≤ 15 ∧
      4 * b.settings.tolerance < b.settings.period) ∧
    (∀ w : WindowIx, b.windows[w].valid = true →
      b.windows[w].openOff < b.windows[w].closeOff ∧
      b.windows[w].closeOff ≤ b.settings.period - b.settings.tolerance) ∧
    (∀ v w : WindowIx, v ≠ w → b.windows[v].valid = true → b.windows[w].valid = true →
      b.windows[v].kind = b.windows[w].kind → b.windows[v].port = b.windows[w].port →
      b.windows[v].closeOff ≤ b.windows[w].openOff ∨ b.windows[w].closeOff ≤ b.windows[v].openOff) ∧
    (∀ i : StreamIx, b.streams[i].enabled = true →
      b.windows[b.streams[i].window].valid = true ∧
      b.windows[b.streams[i].window].kind = .admitting ∧
      b.streams[i].ringBase.val + b.streams[i].ringLength ≤ 1024 ∧
      2 ≤ b.streams[i].ringLength ∧ b.streams[i].ringLength ≤ 16 ∧
      b.streams[i].entryStep < b.streams[i].ringLength ∧
      1 ≤ b.streams[i].framesPerCycle ∧ b.streams[i].framesPerCycle ≤ 4 ∧
      (∀ k, k < b.streams[i].ringLength →
        (b.ringStep b.streams[i] k).phase ≠
          (b.ringStep b.streams[i] (nextPosition b.streams[i] k)).phase) ∧
      (∀ t, b.streams[i].template = some t → b.templates[t] ≠ none) ∧
      (∀ j : StreamIx, j ≠ i → b.streams[j].enabled = true → b.streams[j].tag ≠ b.streams[i].tag))) ∧
  (∀ b : Bank, validate b = none ↔ b.settingsPass ∧ (∀ w, b.windowPasses w) ∧ (∀ w, b.lanePasses w) ∧
    (∀ i, b.streamPasses i)) ∧
  (∀ b : Bank,
    (¬ b.settings.meets 1 → validate b =
      some { part := .settings, index := none, stream := none, check := 1 }) ∧
    (b.settings.meets 1 → b.settings.meets 2)) ∧
  (∀ (b : Bank) (w : WindowIx), b.settingsPass → b.windows[w].valid = true →
    (∀ v : WindowIx, v.val < w.val → b.windowPasses v) →
    (¬ b.windowMeets w 3 → validate b =
      some { part := .window, index := some w.val, stream := none, check := 3 }) ∧
    (b.windowMeets w 3 → ¬ b.windowMeets w 4 → validate b =
      some { part := .window, index := some w.val, stream := none, check := 4 })) ∧
  (∀ (b : Bank) (w : WindowIx), b.settingsPass → (∀ v, b.windowPasses v) →
    b.windows[w].valid = true → (∀ v : WindowIx, v.val < w.val → b.lanePasses v) →
    ¬ b.windowMeets w 5 →
    validate b = some { part := .window, index := some w.val, stream := none, check := 5 }) ∧
  (∀ (b : Bank) (i : StreamIx), b.settingsPass → (∀ w, b.windowPasses w) → (∀ w, b.lanePasses w) →
    b.streams[i].enabled = true → (∀ j : StreamIx, j.val < i.val → b.streamPasses j) →
    (∀ n ∈ [6, 7, 8, 9, 11, 12, 13], (∀ m, m < n → b.streamMeets i m) → ¬ b.streamMeets i n →
      validate b = some { part := .stream, index := some i.val, stream := none, check := n }) ∧
    (∀ k, (∀ m, m < 10 → b.streamMeets i m) → k < b.streams[i].ringLength →
      (∀ m, m < k → b.differsAt b.streams[i] m) → ¬ b.differsAt b.streams[i] k →
      validate b = some
        { part := .step, check := 10, stream := some i.val
          index := some (b.streams[i].ringBase.val + nextPosition b.streams[i] k) }))

/-- HOLD-STREAM: a RUNNING or ARMED stream becomes HELD with cause MANUAL, HOLD raised before the answer.
RELEASE-STREAM: RESUME takes a HELD stream to RUNNING at its position, REARM to ARMED at its entry step
without history. Other states are refused STATE. -/
def Obligations.HoldAndReleaseByHand : Prop :=
  (∀ (s : State) (r : Request) (rest : List Request) (i : StreamIx), Takes s .holdStream r rest →
     Carries r 1 → s.ownsGate r = true → r.arg 0 = i.val →
     ((s.streams[i].state = .running ∨ s.streams[i].state = .armed) →
       exec .holdStream s = .next
         ((((s.entered rest).updateStream i (fun x => { x with
           state := .held, holdCause := some .manual })).raise
             { cls := .hold, stream := some i, port := none, detail := 3#16, test := false }).conclude r
           .ok [BitVec.ofNat 8 i.val, 3#8, BitVec.ofNat 8 s.streams[i].position, 3#8] false)) ∧
     (s.streams[i].state = .held ∨ s.streams[i].state = .disabled →
       exec .holdStream s = .next ((s.entered rest).conclude r .state
         [BitVec.ofNat 8 i.val, streamStateByte s.streams[i].state,
          BitVec.ofNat 8 s.streams[i].position, holdCauseByte s.streams[i].holdCause] false))) ∧
  (∀ (s : State) (r : Request) (rest : List Request) (i : StreamIx), Carries r 2 →
     s.ownsGate r = true → r.arg 0 = i.val →
     (Takes s .releaseStreamResume r rest → s.streams[i].state = .held →
       exec .releaseStreamResume s = .next
         (((s.entered rest).updateStream i (fun x => { x with
           state := .running, holdCause := none, absenceRun := 0 })).conclude r .ok
             [BitVec.ofNat 8 i.val, 2#8, BitVec.ofNat 8 s.streams[i].position, 0xFF#8] false)) ∧
     (Takes s .releaseStreamRearm r rest → r.arg 1 = 1 → s.streams[i].state = .held →
       exec .releaseStreamRearm s = .next
         (((s.entered rest).updateStream i (fun x => { x with
           state := .armed, position := (s.streamRec i).entryStep, holdCause := none, absenceRun := 0
           lastAdvance := none, spacing := none })).conclude r .ok
             [BitVec.ofNat 8 i.val, 1#8, BitVec.ofNat 8 (s.streamRec i).entryStep, 0xFF#8] false)) ∧
     (s.streams[i].state ≠ .held →
       (Takes s .releaseStreamResume r rest →
         exec .releaseStreamResume s = .next ((s.entered rest).conclude r .state
           [BitVec.ofNat 8 i.val, streamStateByte s.streams[i].state,
            BitVec.ofNat 8 s.streams[i].position, holdCauseByte s.streams[i].holdCause] false)) ∧
       (Takes s .releaseStreamRearm r rest → r.arg 1 = 1 →
         exec .releaseStreamRearm s = .next ((s.entered rest).conclude r .state
           [BitVec.ofNat 8 i.val, streamStateByte s.streams[i].state,
            BitVec.ofNat 8 s.streams[i].position, holdCauseByte s.streams[i].holdCause] false))))

/-- QUENCH of the owner adds COMMAND; CLEAR-QUENCH removes the named causes, but LINE stays, with status
STILL-ACTIVE, while the line is asserted and enabled; a cause that is not named stays, and while one is left
nothing but the set changes. The causes named are those whose codes the list bytes
carry. -/
def Obligations.QuenchAndClearQuench : Prop :=
  (∀ (s : State) (r : Request) (rest : List Request), s.ownsGate r = true →
    (Takes s .quench r rest → Carries r 0 →
      ∃ u : State, u = (s.entered rest).addCause .command ∧
        exec .quench s = .next (u.conclude r .ok
          [causeMask u.quench.causes, yesNo u.quench.qf, yesNo u.quench.qs,
           quenchStateByte u.quench.unit, waitByte u.quench.wait] false)) ∧
    (∀ cs, Takes s .clearQuench r rest → Carries r (1 + r.arg 0) → namedCauses r = some cs →
      (s.quench.level = .asserted ∧ s.quench.lineEnable = true ∧ Cause.line ∈ cs →
        ∃ u : State, u = (s.entered rest).removeCauses (cs.filter (fun c => decide (c ≠ .line))) ∧
          (s.quench.causes.line = true → u = (s.entered rest).setQuench { s.quench with causes :=
            { line := true
              command := s.quench.causes.command && decide (Cause.command ∉ cs)
              stream := s.quench.causes.stream && decide (Cause.stream ∉ cs)
              mark := s.quench.causes.mark && decide (Cause.mark ∉ cs)
              startup := s.quench.causes.startup && decide (Cause.startup ∉ cs)
              restart := s.quench.causes.restart && decide (Cause.restart ∉ cs) } }) ∧
          exec .clearQuench s = .next (u.conclude r .stillActive
            [causeMask u.quench.causes, yesNo u.quench.qf, yesNo u.quench.qs,
             quenchStateByte u.quench.unit, waitByte u.quench.wait] false)) ∧
      (¬ (s.quench.level = .asserted ∧ s.quench.lineEnable = true ∧ Cause.line ∈ cs) →
        ∃ u : State, u = (s.entered rest).removeCauses cs ∧
          (∀ c, u.quench.causes.has c = (s.quench.causes.has c && decide (c ∉ cs))) ∧
          (∀ c, s.quench.causes.has c = true → c ∉ cs →
            u = (s.entered rest).setQuench { s.quench with causes := u.quench.causes }) ∧
          exec .clearQuench s = .next (u.conclude r .ok
            [causeMask u.quench.causes, yesNo u.quench.qf, yesNo u.quench.qs,
             quenchStateByte u.quench.unit, waitByte u.quench.wait] false)))) ∧
  (∀ (r : Request) (cs : List Cause), Carries r (1 + r.arg 0) →
    (namedCauses r = some cs ↔ cs.length = r.arg 0 ∧
      ∀ (k : Nat) (c : Cause), cs[k]? = some c → r.arg (1 + k) = causeCode c))

/-- SET-LIVE: the four values in force; a port set without the arrival port is refused RANGE. The release mode
comes first, then LINE is judged against the line values, and a unit that was RELEASING, is so still and has
a new release mode re-judges its wait: it ends at once with detail SETTING, or is replaced. The values are
those that the four argument bytes carry. -/
def Obligations.SetLiveAppliesFourValues : Prop :=
  (∀ (s : State) (r : Request) (rest : List Request) (v : LiveValues), Takes s .setLive r rest →
    Carries r 4 → s.ownsGate r = true → carriedLive r = some v →
    (v.ports.getLsbD r.port.index = true →
      ∃ t : State, exec .setLive s = .next t ∧ t.agent.mgmtPorts = v.ports ∧
        t.quench.lineEnable = v.enable ∧ t.quench.lineMode = v.lineMode ∧
        t.quench.releaseMode = v.releaseMode ∧ t.quench.level = s.quench.level ∧
        (s.quench.level = .asserted → v.enable = true → t.quench.causes.line = true) ∧
        (v.lineMode = .auto → (s.quench.level = .deasserted ∨ v.enable = false) →
          t.quench.causes.line = false) ∧
        (v.lineMode = .latched → (s.quench.level = .deasserted ∨ v.enable = false) →
          t.quench.causes = s.quench.causes)) ∧
    (v.ports.getLsbD r.port.index = false →
      exec .setLive s = .next ((s.entered rest).conclude r .range [] false))) ∧
  (∀ (s : State) (r : Request) (rest : List Request) (v : LiveValues), Takes s .setLive r rest →
    Carries r 4 → s.ownsGate r = true → carriedLive r = some v →
    v.ports.getLsbD r.port.index = true →
    ∃ u : State,
      u = ((s.entered rest).setAgent { (s.entered rest).agent with mgmtPorts := v.ports }).applyLive
        v.enable v.lineMode v.releaseMode ∧
      exec .setLive s = .next (u.conclude r .ok
        (r.args ++ [causeMask u.quench.causes, yesNo u.quench.qf, yesNo u.quench.qs,
          quenchStateByte u.quench.unit, waitByte u.quench.wait]) false)) ∧
  (∀ (s : State) (enable : Bool) (lm : LineMode) (rm : ReleaseMode),
    let placed := s.setQuench { s.quench with lineEnable := enable, lineMode := lm, releaseMode := rm }
    let judged :=
      if s.quench.level = .asserted ∧ enable = true then placed.addCause .line
      else match lm with | .auto => placed.removeCauses [.line] | .latched => placed
    let settles : State := (judged.setQuench { judged.quench with
      qs := false, unit := .normal, wait := none }).raise
        { cls := .quenchOff, stream := none, port := none, detail := 7#16, test := false }
    ((s.quench.unit ≠ .releasing ∨ judged.quench.unit ≠ .releasing ∨ s.quench.releaseMode = rm) →
      s.applyLive enable lm rm = judged) ∧
    (s.quench.unit = .releasing → judged.quench.unit = .releasing → s.quench.releaseMode ≠ rm →
      (rm = .immediate → s.applyLive enable lm rm = settles) ∧
      (s.timer.state ≠ .running → s.applyLive enable lm rm = settles) ∧
      (rm = .cycle → s.timer.state = .running →
        s.applyLive enable lm rm = judged.setQuench { judged.quench with wait := some .cycle }) ∧
      (∀ c, rm = .mark → s.timer.state = .running → s.timer.current = some c →
        (c.follow = .free → s.applyLive enable lm rm = settles) ∧
        (c.follow = .follow →
          s.applyLive enable lm rm = judged.setQuench { judged.quench with wait := some .mark })))) ∧
  (∀ (r : Request) (v : LiveValues), Carries r 4 →
    (carriedLive r = some v ↔
      r.args = [yesNo v.enable, lineModeByte v.lineMode, releaseModeByte v.releaseMode,
        v.ports.setWidth 8]))

/-- SET-LISTENER replaces five fields and purges the listener's records; SET-NOTIFY replaces enable and
listener of the named classes; CLEAR-FLAGS clears exactly the named flags. RAISE-FLAG takes a TEST
occurrence of the class and says what became of its record, of a class that is not enabled so whatever its
listener (log 42). ACK-NOTIFY removes every AWAITING record of the listener at or before S, NOT-OWNER for
another station, STATE for a disabled listener. The values of a listener are those that the argument bytes
carry, its address not a group address (log 22), and the classes named those whose numbers they carry. -/
def Obligations.EventRequests : Prop :=
  (∀ (s : State) (r : Request) (rest : List Request), s.ownsGate r = true →
     (∀ v, Takes s .setListener r rest → Carries r 11 → carriedListener r = some v →
       exec .setListener s = .next
         (((s.entered rest).setEvents { s.events with
           listeners := s.events.listeners.set v.listener { s.events.listeners[v.listener] with
             enabled := v.enabled, addr := v.addr, port := v.port, retryInterval := v.retryInterval
             retryLimit := v.retryLimit }
           queue := s.events.queue.filter (fun n => decide (n.listener ≠ v.listener)) }).conclude r .ok
             [BitVec.ofNat 8
               (s.events.queue.filter (fun n => decide (n.listener = v.listener))).length] false)) ∧
     (∀ (l : ListenerIx) (cs : List EventClass), Takes s .setNotify r rest →
       Carries r (3 + r.arg 2) → r.arg 0 ≤ 1 → r.arg 1 = l.val → namedClasses r 3 (r.arg 2) = some cs →
       ∃ u : State, exec .setNotify s = .next (u.conclude r .ok [] false) ∧
         u.events = { s.events with classes := u.events.classes } ∧
         (∀ c : EventClass, u.events.classes[c.number] =
           if c ∈ cs then { enabled := decide (r.arg 0 = 1), listener := l }
           else s.events.classes[c.number])) ∧
     (∀ cs : List EventClass, Takes s .clearFlags r rest → Carries r (1 + r.arg 0) →
       namedClasses r 1 (r.arg 0) = some cs →
       ∃ u : State, exec .clearFlags s = .next (u.conclude r .ok
           [u.events.flags.extractLsb' 8 8, u.events.flags.extractLsb' 0 8] false) ∧
         u.events = { s.events with flags := u.events.flags } ∧
         (∀ c : EventClass, u.events.flags.getLsbD c.number.val =
           (s.events.flags.getLsbD c.number.val && !decide (c ∈ cs))))) ∧
  (∀ (s : State) (r : Request) (rest : List Request) (c : EventClass), Takes s .raiseFlag r rest →
     Carries r 1 → s.ownsGate r = true → r.arg 0 = c.number.val →
     ∃ (u : State) (outcome : Byte) (seq : Half),
       u = (s.entered rest).raise
         { cls := c, stream := none, port := none, detail := 0#16, test := true } ∧
       exec .raiseFlag s = .next (u.conclude r .ok
         ([outcome] ++ be16 seq ++ be16 u.events.flags) false) ∧
       u.events.flags.getLsbD c.number.val = true ∧
       (s.events.classes[c.number].enabled = false → outcome = 2#8 ∧ seq = 0#16) ∧
       (s.events.classes[c.number].enabled = true →
         s.events.listeners[s.events.classes[c.number].listener].enabled = false →
         outcome = 3#8 ∧ seq = 0#16) ∧
       (s.events.classes[c.number].enabled = true →
         s.events.listeners[s.events.classes[c.number].listener].enabled = true →
         (s.events.queue.length < 32 → outcome = 0#8 ∧
           seq = s.events.listeners[s.events.classes[c.number].listener].nextSeq) ∧
         (32 ≤ s.events.queue.length → outcome = 1#8 ∧ seq = 0#16))) ∧
  (∀ (s : State) (r : Request) (rest : List Request) (l : ListenerIx), Takes s .ackNotify r rest →
     Carries r 3 → r.arg 0 = l.val →
     let gone (n : NotifRecord) : Bool :=
       decide (n.listener = l) && decide (n.state ≠ .unsent) &&
         decide ((halfAt r.args 1 - n.seq).toNat ≤ 32767)
     (r.source ≠ s.events.listeners[l].addr →
       exec .ackNotify s = .next ((s.entered rest).conclude r .notOwner [] false)) ∧
     (r.source = s.events.listeners[l].addr → s.events.listeners[l].enabled = false →
       exec .ackNotify s = .next ((s.entered rest).conclude r .state [] false)) ∧
     (r.source = s.events.listeners[l].addr → s.events.listeners[l].enabled = true →
       exec .ackNotify s = .next
         (((s.entered rest).setEvents { s.events with
           queue := s.events.queue.filter (fun n => !gone n) }).conclude r .ok
             [BitVec.ofNat 8 (s.events.queue.filter gone).length] false))) ∧
  (∀ (r : Request) (v : ListenerValues), Carries r 11 →
     (carriedListener r = some v ↔
       r.args = [BitVec.ofNat 8 v.listener.val, yesNo v.enabled] ++ be48 v.addr ++
         [BitVec.ofNat 8 v.port.index, BitVec.ofNat 8 v.retryInterval, BitVec.ofNat 8 v.retryLimit] ∧
       (byteAt r.args 2).getLsbD 0 = false ∧ 1 ≤ v.retryInterval ∧ v.retryInterval ≤ 255 ∧
       v.retryLimit ≤ 7)) ∧
  (∀ (r : Request) (place count : Nat) (cs : List EventClass), Carries r (place + count) →
     (namedClasses r place count = some cs ↔ cs.length = count ∧
       ∀ (k : Nat) (c : EventClass), cs[k]? = some c → r.arg (place + k) = c.number.val)) ∧
  [EventClass.stray, .hold, .stall, .misplaced, .surplus, .unknown, .quenchOn, .quenchOff, .markFault,
   .commit, .lease, .egressDrop, .foreign, .link, .stageReady, .step].map (fun c => c.number.val) =
    List.range 16

/-- TIMER-START in STOPPED: IMMEDIATE is RUNNING at counter 0 of cycle 0 with every admitted count 0 and an
attribution record, current start NONE and interval OPEN, where the cycle runs in FOLLOW mode; ON-MARK is
ARMED; both answer OK with state, counter and cycle count; in RUNNING and ARMED they are refused STATE.
TIMER-STOP: STOPPED with counter, cycle count, length and mark-fault count kept, no frame in reception in an
unbroken run any more, no release wait; a pending commit with target NEXT applies, and one with target AT is
withdrawn, COMMIT raised with detail WITHDRAWN and reason TIMER-STOP, edits and marks kept; with a wait to
end too the two come in a free order (log 14). The answer is OK with STOPPED, counter and cycle count; in
STOPPED it is refused STATE. -/
def Obligations.TimerStartsAndStops : Prop :=
  (∀ (s : State) (r : Request) (rest : List Request), Carries r 1 → s.ownsGate r = true →
     (Takes s .timerStartImmediate r rest → s.timer.state = .stopped →
       ∃ u : State, exec .timerStartImmediate s = .next (u.conclude r .ok
           ([2#8] ++ be32 0#32 ++ be32 0#32) false) ∧
         u.timer =
           { state := .running, counter := 0, cycleCount := 0#32
             cycleLength := u.active.settings.period, faultCount := 0
             attribution := (match u.active.settings.follow with
               | .follow => some { onTime := false, isOpen := true }
               | .free => none)
             current := some
               { period := u.active.settings.period, tolerance := u.active.settings.tolerance
                 follow := u.active.settings.follow }
             ended := none, closesTaken := [] } ∧
         (∀ i : StreamIx, u.streams[i].admittedCount = 0) ∧
         (s.staging.state ≠ .pending → u.active = s.active ∧ u.staging = s.staging ∧
           (∀ i : StreamIx, u.streams[i] = { s.streams[i] with admittedCount := 0 }))) ∧
     (Takes s .timerStartOnMark r rest → r.arg 0 = 1 → s.timer.state = .stopped →
       ∃ u : State, exec .timerStartOnMark s = .next (u.conclude r .ok
           ([1#8] ++ be32 0#32 ++ be32 0#32) false) ∧
         u = (s.entered rest).setTimer u.timer ∧ u.timer.state = .armed ∧ u.timer.counter = 0 ∧
         u.timer.cycleCount = 0#32 ∧ u.timer.faultCount = 0 ∧ u.timer.attribution = none ∧
         u.timer.cycleLength = s.timer.cycleLength) ∧
     (s.timer.state = .running ∨ s.timer.state = .armed →
       (Takes s .timerStartImmediate r rest →
         exec .timerStartImmediate s = .next ((s.entered rest).conclude r .state
           ([timerStateByte s.timer.state] ++ be32 (BitVec.ofNat 32 s.timer.counter) ++
             be32 s.timer.cycleCount) false)) ∧
       (Takes s .timerStartOnMark r rest → r.arg 0 = 1 →
         exec .timerStartOnMark s = .next ((s.entered rest).conclude r .state
           ([timerStateByte s.timer.state] ++ be32 (BitVec.ofNat 32 s.timer.counter) ++
             be32 s.timer.cycleCount) false)))) ∧
  (∀ (s : State) (r : Request) (rest : List Request), Takes s .timerStop r rest → Carries r 0 →
     s.ownsGate r = true →
     (s.timer.state = .running ∨ s.timer.state = .armed →
       ∃ t : State, exec .timerStop s = .next t ∧
         t.timer = { s.timer with state := .stopped, attribution := none } ∧
         (s.timer.state = .running →
           (∀ (p : Port) (x : Reception), (t.ports.get p).reception = some x →
             x.start.unbroken = false) ∧ t.quench.wait = none)) ∧
     (s.timer.state = .stopped →
       exec .timerStop s = .next ((s.entered rest).conclude r .state
         ([0#8] ++ be32 (BitVec.ofNat 32 s.timer.counter) ++ be32 s.timer.cycleCount) false))) ∧
  (∀ (s : State) (r : Request) (rest : List Request), Takes s .timerStop r rest → Carries r 0 →
     s.ownsGate r = true →
     let halted := (s.entered rest).setTimer { s.timer with state := .stopped, attribution := none }
     let stopped := (halted.setPorts (s.ports.map (fun u => { u with
         reception := u.reception.map (fun x => { x with
           start := { x.start with unbroken := false } }) }))).setEgress
       (s.egress.map (fun e => { e with selectDue := true }))
     let ends (x : State) (c : PendingCommit) : State :=
       match c.target with
       | .nextStart => x.applyCommit
       | .atCycle _ =>
         let raised := (x.setStaging { x.staging with commit := none, state := .ready }).raise
           { cls := .commit, stream := none, port := none, detail := 0x0203#16, test := false }
         raised.setEgress (raised.egress.map (fun e => { e with selectDue := true }))
     let answers (u : State) : Prop := exec .timerStop s = .next (u.conclude r .ok
       ([0#8] ++ be32 (BitVec.ofNat 32 s.timer.counter) ++ be32 s.timer.cycleCount) false)
     (s.timer.state = .armed → answers halted) ∧
     (s.timer.state = .running → s.staging.commit = none → answers stopped.quenchTimerStop) ∧
     (∀ c, s.timer.state = .running → s.staging.state = .pending → s.staging.commit = some c →
       (s.quench.wait = none → answers (ends stopped c)) ∧
       (s.quench.wait ≠ none → answers (ends (stopped.draw 1) c).quenchTimerStop ∨
         answers (ends (stopped.draw 1).quenchTimerStop c))))

/-! ### Formats -/

/-- The layouts of section 12.3: each record byte by byte, settings, window, stream, step, template, runtime
record, counter sets and fault record; the first four read back as they were sent, for every record within
its ranges, and are refused outside them. Fields are sent most significant byte first, and a frame ends in
its FCS, the CRC-32 of spec/00 (order of its bits: log 25). The last clause gives the codes of Table 12-4. -/
def Obligations.RecordsReadBackAsSent : Prop :=
  (∀ x : Settings, 2500 ≤ x.period → x.period ≤ 1048575 → x.tolerance ≤ 64 → 1 ≤ x.faultLimit →
    x.faultLimit ≤ 15 → readSettings (settingsBytes x) = some x) ∧
  (∀ x : WindowRec, x.openOff ≤ 1048575 → x.closeOff ≤ 1048575 → readWindow (windowBytes x) = some x) ∧
  (∀ x : StreamRec, 1 ≤ x.framesPerCycle → x.framesPerCycle ≤ 4 → 2 ≤ x.ringLength →
    x.ringLength ≤ 16 → x.entryStep ≤ 15 → x.absenceLimit ≤ 255 → readStream (streamBytes x) = some x) ∧
  (∀ x : StepRec, readStep (stepBytes x) = some x) ∧
  (∀ x : Settings, settingsBytes x = be32 (BitVec.ofNat 32 x.period) ++
    [match x.follow with | .free => 0#8 | .follow => 1#8, BitVec.ofNat 8 x.markPort.index,
     BitVec.ofNat 8 x.tolerance, BitVec.ofNat 8 x.faultLimit, x.markForward.setWidth 8,
     x.quenchEgress.setWidth 8, x.background.p0.setWidth 8, x.background.p1.setWidth 8,
     x.background.p2.setWidth 8, x.background.p3.setWidth 8]) ∧
  (∀ x : WindowRec, windowBytes x =
    [(if x.valid then 0x80#8 else 0#8) |||
        (match x.kind with | .admitting => 0#8 | .guard => 0x40#8) ||| BitVec.ofNat 8 x.port.index,
     (BitVec.ofNat 24 x.openOff).extractLsb' 16 8, (BitVec.ofNat 24 x.openOff).extractLsb' 8 8,
     (BitVec.ofNat 24 x.openOff).extractLsb' 0 8, (BitVec.ofNat 24 x.closeOff).extractLsb' 16 8,
     (BitVec.ofNat 24 x.closeOff).extractLsb' 8 8, (BitVec.ofNat 24 x.closeOff).extractLsb' 0 8]) ∧
  (∀ x : StreamRec, streamBytes x =
    [if x.enabled then 1#8 else 0#8, x.tag.extractLsb' 8 8, x.tag.extractLsb' 0 8,
     BitVec.ofNat 8 x.window.val, BitVec.ofNat 8 x.framesPerCycle,
     (BitVec.ofNat 16 x.ringBase.val).extractLsb' 8 8, (BitVec.ofNat 16 x.ringBase.val).extractLsb' 0 8,
     BitVec.ofNat 8 x.ringLength, BitVec.ofNat 8 x.entryStep,
     match x.repeatPolicy with | .forward => 0#8 | .drop => 1#8,
     match x.strayPolicy with | .count => 0#8 | .hold => 1#8 | .holdAndQuench => 2#8,
     if x.fill then 1#8 else 0#8, BitVec.ofNat 8 x.absenceLimit,
     match x.stallPolicy with | .hold => 0#8 | .holdAndQuench => 1#8,
     match x.template with | none => 0xFF#8 | some k => BitVec.ofNat 8 k.val]) ∧
  (∀ x : StepRec, stepBytes x =
    [x.phase.setWidth 8, (if x.notify then 0x80#8 else 0#8) ||| x.egress.setWidth 8]) ∧
  (∀ (k : Nat) (image : List Byte), templateBytes k none = [BitVec.ofNat 8 k, 0#8, 0#8] ∧
    templateBytes k (some image) =
      [BitVec.ofNat 8 k, 1#8, BitVec.ofNat 8 image.length] ++ image) ∧
  (∀ (k : Nat) (x : StreamRun) (dirty : Bool), streamRunBytes k x dirty =
    [BitVec.ofNat 8 k,
     match x.state with | .disabled => 0#8 | .armed => 1#8 | .running => 2#8 | .held => 3#8,
     BitVec.ofNat 8 x.position, BitVec.ofNat 8 x.admittedCount, BitVec.ofNat 8 x.absenceRun,
     match x.holdCause with
     | some .stray => 1#8 | some .stall => 2#8 | some .manual => 3#8 | none => 0xFF#8,
     if dirty then 1#8 else 0#8,
     (if x.lastAdvance.isSome then 1#8 else 0#8) ||| (if x.spacing.isSome then 2#8 else 0#8)] ++
    be32 (match x.lastAdvance with | some n => n | none => 0#32) ++
    be32 (match x.spacing with | some n => n | none => 0#32)) ∧
  (∀ c : StreamCounters, streamCounterBytes c =
    [c.admitted, c.lockOns, c.advances, c.repeats, c.strays, c.seeks, c.misplaced, c.surplus,
      c.absences, c.substitutesSent, c.suppressed].flatMap be32) ∧
  (∀ c : PortCounters, portCounterBytes c =
    [c.good, c.runts, c.giants, c.fcsErrors, c.abortedReceptions, c.malformed, c.requestsAccepted,
      c.foreign, c.marks, c.unknownTag, c.background, c.backgroundUnforwarded, c.transmitted,
      c.cyclicDrops, c.managementDrops, c.backgroundDrops, c.linkFlushDrops, c.abandoned,
      c.quenchDiscards].flatMap be32) ∧
  (∀ f : FaultRecord, faultBytes (some f) =
    [1#8, match f.part with | .settings => 0#8 | .window => 1#8 | .stream => 2#8 | .step => 3#8] ++
      be16 (match f.index with | some k => BitVec.ofNat 16 k | none => 0xFFFF#16) ++
      [match f.stream with | some k => BitVec.ofNat 8 k | none => 0xFF#8, BitVec.ofNat 8 f.check]) ∧
  (∀ a : List Byte, (readSettings a).isSome = true ↔
    (2500 ≤ natAt a 0 4 ∧ natAt a 0 4 ≤ 1048575 ∧ natAt a 4 1 ≤ 1 ∧ natAt a 5 1 ≤ 3 ∧
      natAt a 6 1 ≤ 64 ∧ 1 ≤ natAt a 7 1 ∧ natAt a 7 1 ≤ 15 ∧
      ∀ k, 8 ≤ k → k ≤ 13 → natAt a k 1 ≤ 15)) ∧
  (∀ a : List Byte, (readWindow a).isSome = true ↔
    (byteAt a 0 &&& 0x3C#8 = 0#8 ∧ natAt a 1 3 ≤ 1048575 ∧ natAt a 4 3 ≤ 1048575)) ∧
  (∀ a : List Byte, (readStream a).isSome = true ↔
    (natAt a 0 1 ≤ 1 ∧ natAt a 3 1 ≤ 63 ∧ 1 ≤ natAt a 4 1 ∧ natAt a 4 1 ≤ 4 ∧ natAt a 5 2 ≤ 1023 ∧
      2 ≤ natAt a 7 1 ∧ natAt a 7 1 ≤ 16 ∧ natAt a 8 1 ≤ 15 ∧ natAt a 9 1 ≤ 1 ∧ natAt a 10 1 ≤ 2 ∧
      natAt a 11 1 ≤ 1 ∧ natAt a 13 1 ≤ 1 ∧ (natAt a 14 1 ≤ 31 ∨ natAt a 14 1 = 255))) ∧
  (∀ a : List Byte, (readStep a).isSome = true ↔
    (byteAt a 0 &&& 0xF0#8 = 0#8 ∧ byteAt a 1 &&& 0x70#8 = 0#8)) ∧
  (∀ (a : BitVec 16) (b : BitVec 32) (c : BitVec 48),
    be16 a = [a.extractLsb' 8 8, a.extractLsb' 0 8] ∧
    be32 b = [b.extractLsb' 24 8, b.extractLsb' 16 8, b.extractLsb' 8 8, b.extractLsb' 0 8] ∧
    be48 c = [c.extractLsb' 40 8, c.extractLsb' 32 8, c.extractLsb' 24 8, c.extractLsb' 16 8,
      c.extractLsb' 8 8, c.extractLsb' 0 8]) ∧
  (∀ l : List Byte, withFcs l = l ++ fcs l ∧ fcsMatches (withFcs l) = true ∧ (fcs l).length = 4 ∧
    ∀ j k, j < 4 → k < 8 → ((fcs l).getD j 0#8).getLsbD k =
      !(l.foldl (fun (reg : BitVec 32) (b : Byte) => (List.range 8).foldl (fun (r : BitVec 32) (m : Nat) =>
          (r <<< (1 : Nat)) ^^^ (if r.getLsbD 31 != b.getLsbD m then 0x04C11DB7#32 else 0#32)) reg)
        0xFFFFFFFF#32).getLsbD (31 - (8 * j + k))) ∧
  (yesNo false = 0#8 ∧ yesNo true = 1#8 ∧
    [TimerState.stopped, .armed, .running].map timerStateByte = [0#8, 1#8, 2#8] ∧
    [StreamState.disabled, .armed, .running, .held].map streamStateByte = [0#8, 1#8, 2#8, 3#8] ∧
    [some HoldCause.stray, some .stall, some .manual, none].map holdCauseByte =
      [1#8, 2#8, 3#8, 0xFF#8] ∧
    [StagingState.ready, .pending, .restaging].map stagingStateByte = [0#8, 1#8, 2#8] ∧
    [RestageReason.apply, .lease, .restart].map reasonCode = [1, 2, 3] ∧
    [FaultPart.settings, .window, .stream, .step].map faultPartByte = [0#8, 1#8, 2#8, 3#8] ∧
    [QuenchState.normal, .quenched, .releasing].map quenchStateByte = [0#8, 1#8, 2#8] ∧
    [some ReleaseWait.cycle, some .mark, none].map waitByte = [1#8, 2#8, 0xFF#8] ∧
    [LineMode.auto, .latched].map lineModeByte = [0#8, 1#8] ∧
    [ReleaseMode.immediate, .cycle, .mark].map releaseModeByte = [0#8, 1#8, 2#8] ∧
    [Cause.line, .command, .stream, .mark, .startup, .restart].map causeCode = List.range 6 ∧
    ∀ (x : CauseSet) (k : Nat), (causeMask x).getLsbD k =
      (match k with
       | 0 => x.line | 1 => x.command | 2 => x.stream | 3 => x.mark | 4 => x.startup
       | 5 => x.restart | _ => false))

/-! ### Laws that every step keeps -/

/-- No queue exceeds its capacity and the reply cache holds one entry for an address: kept by every step. -/
def Obligations.CapacityLawKeptByEveryStep : Prop :=
  ∀ s t : State, CapacityLaw s → step s = .next t → CapacityLaw t

/-- QF follows the cause set, QS is set while QF is, and the unit state agrees: kept by every step. -/
def Obligations.QuenchLawKeptByEveryStep : Prop :=
  ∀ s t : State, QuenchLaw s.quench → step s = .next t → QuenchLaw t.quench

/-- The active set passes every validation check, and the staged set of a pending commit too: kept by every
step. -/
def Obligations.ActiveSetStaysValid : Prop :=
  ∀ s t : State, ValidSetLaw s → step s = .next t → ValidSetLaw t

/-- Hold causes, DISABLED, positions, the entry step of ARMED streams, admitted counts and clean records agree
with the active set: kept by every step. -/
def Obligations.StreamLawKeptByEveryStep : Prop :=
  ∀ s t : State, StreamLaw s → step s = .next t → StreamLaw t

/-- The laws of the ports, each kept by every step: a port that is DOWN has nothing queued, sent or in
reception; nothing refers to a received frame on the port on which it arrived; and no management or
background frame that started while RUNNING is under an open guard, but at the moment of its cut-off. -/
def Obligations.PortLawsKeptByEveryStep : Prop :=
  (∀ s t : State, LinkLaw s → step s = .next t → LinkLaw t) ∧
  (∀ s t : State, ReferenceLaw s → step s = .next t → ReferenceLaw t) ∧
  (∀ s t : State, GuardLaw s → step s = .next t → GuardLaw t) ∧
  (∀ (s : State) (p : Port), s.cutDue p = true →
    .guardOpen p ∈ s.dueNow ∧ ∃ t : State, exec (.guardOpen p) s = .next t ∧ t.cutDue p = false)

end
end

