-- ==== Sys2Proof/Laws/State.lean ====
section
/-! SUPPORT. One lemma for each field of each update of State, so that no proof unfolds a record update. -/

namespace Sys2Proof.Machine

/-! ### setPorts -/

@[simp] theorem setPorts_base (s : State) (v : PerPort PortUnit) :
    (s.setPorts v).base = s.base := rfl
@[simp] theorem setPorts_strap (s : State) (v : PerPort PortUnit) :
    (s.setPorts v).strap = s.strap := rfl
@[simp] theorem setPorts_ports (s : State) (v : PerPort PortUnit) :
    (s.setPorts v).ports = v := rfl
@[simp] theorem setPorts_egress (s : State) (v : PerPort PortUnit) :
    (s.setPorts v).egress = s.egress := rfl
@[simp] theorem setPorts_frames (s : State) (v : PerPort PortUnit) :
    (s.setPorts v).frames = s.frames := rfl
@[simp] theorem setPorts_nextFrame (s : State) (v : PerPort PortUnit) :
    (s.setPorts v).nextFrame = s.nextFrame := rfl
@[simp] theorem setPorts_timer (s : State) (v : PerPort PortUnit) :
    (s.setPorts v).timer = s.timer := rfl
@[simp] theorem setPorts_streams (s : State) (v : PerPort PortUnit) :
    (s.setPorts v).streams = s.streams := rfl
@[simp] theorem setPorts_staging (s : State) (v : PerPort PortUnit) :
    (s.setPorts v).staging = s.staging := rfl
@[simp] theorem setPorts_bankA (s : State) (v : PerPort PortUnit) :
    (s.setPorts v).bankA = s.bankA := rfl
@[simp] theorem setPorts_bankB (s : State) (v : PerPort PortUnit) :
    (s.setPorts v).bankB = s.bankB := rfl
@[simp] theorem setPorts_quench (s : State) (v : PerPort PortUnit) :
    (s.setPorts v).quench = s.quench := rfl
@[simp] theorem setPorts_events (s : State) (v : PerPort PortUnit) :
    (s.setPorts v).events = s.events := rfl
@[simp] theorem setPorts_agent (s : State) (v : PerPort PortUnit) :
    (s.setPorts v).agent = s.agent := rfl
@[simp] theorem setPorts_draws (s : State) (v : PerPort PortUnit) :
    (s.setPorts v).draws = s.draws := rfl
@[simp] theorem setPorts_pending (s : State) (v : PerPort PortUnit) :
    (s.setPorts v).pending = s.pending := rfl

/-! ### setEgress -/

@[simp] theorem setEgress_base (s : State) (v : PerPort Egress) :
    (s.setEgress v).base = s.base := rfl
@[simp] theorem setEgress_strap (s : State) (v : PerPort Egress) :
    (s.setEgress v).strap = s.strap := rfl
@[simp] theorem setEgress_ports (s : State) (v : PerPort Egress) :
    (s.setEgress v).ports = s.ports := rfl
@[simp] theorem setEgress_egress (s : State) (v : PerPort Egress) :
    (s.setEgress v).egress = v := rfl
@[simp] theorem setEgress_frames (s : State) (v : PerPort Egress) :
    (s.setEgress v).frames = s.frames := rfl
@[simp] theorem setEgress_nextFrame (s : State) (v : PerPort Egress) :
    (s.setEgress v).nextFrame = s.nextFrame := rfl
@[simp] theorem setEgress_timer (s : State) (v : PerPort Egress) :
    (s.setEgress v).timer = s.timer := rfl
@[simp] theorem setEgress_streams (s : State) (v : PerPort Egress) :
    (s.setEgress v).streams = s.streams := rfl
@[simp] theorem setEgress_staging (s : State) (v : PerPort Egress) :
    (s.setEgress v).staging = s.staging := rfl
@[simp] theorem setEgress_bankA (s : State) (v : PerPort Egress) :
    (s.setEgress v).bankA = s.bankA := rfl
@[simp] theorem setEgress_bankB (s : State) (v : PerPort Egress) :
    (s.setEgress v).bankB = s.bankB := rfl
@[simp] theorem setEgress_quench (s : State) (v : PerPort Egress) :
    (s.setEgress v).quench = s.quench := rfl
@[simp] theorem setEgress_events (s : State) (v : PerPort Egress) :
    (s.setEgress v).events = s.events := rfl
@[simp] theorem setEgress_agent (s : State) (v : PerPort Egress) :
    (s.setEgress v).agent = s.agent := rfl
@[simp] theorem setEgress_draws (s : State) (v : PerPort Egress) :
    (s.setEgress v).draws = s.draws := rfl
@[simp] theorem setEgress_pending (s : State) (v : PerPort Egress) :
    (s.setEgress v).pending = s.pending := rfl

/-! ### setFrames -/

@[simp] theorem setFrames_base (s : State) (v : List HeldFrame) :
    (s.setFrames v).base = s.base := rfl
@[simp] theorem setFrames_strap (s : State) (v : List HeldFrame) :
    (s.setFrames v).strap = s.strap := rfl
@[simp] theorem setFrames_ports (s : State) (v : List HeldFrame) :
    (s.setFrames v).ports = s.ports := rfl
@[simp] theorem setFrames_egress (s : State) (v : List HeldFrame) :
    (s.setFrames v).egress = s.egress := rfl
@[simp] theorem setFrames_frames (s : State) (v : List HeldFrame) :
    (s.setFrames v).frames = v := rfl
@[simp] theorem setFrames_nextFrame (s : State) (v : List HeldFrame) :
    (s.setFrames v).nextFrame = s.nextFrame := rfl
@[simp] theorem setFrames_timer (s : State) (v : List HeldFrame) :
    (s.setFrames v).timer = s.timer := rfl
@[simp] theorem setFrames_streams (s : State) (v : List HeldFrame) :
    (s.setFrames v).streams = s.streams := rfl
@[simp] theorem setFrames_staging (s : State) (v : List HeldFrame) :
    (s.setFrames v).staging = s.staging := rfl
@[simp] theorem setFrames_bankA (s : State) (v : List HeldFrame) :
    (s.setFrames v).bankA = s.bankA := rfl
@[simp] theorem setFrames_bankB (s : State) (v : List HeldFrame) :
    (s.setFrames v).bankB = s.bankB := rfl
@[simp] theorem setFrames_quench (s : State) (v : List HeldFrame) :
    (s.setFrames v).quench = s.quench := rfl
@[simp] theorem setFrames_events (s : State) (v : List HeldFrame) :
    (s.setFrames v).events = s.events := rfl
@[simp] theorem setFrames_agent (s : State) (v : List HeldFrame) :
    (s.setFrames v).agent = s.agent := rfl
@[simp] theorem setFrames_draws (s : State) (v : List HeldFrame) :
    (s.setFrames v).draws = s.draws := rfl
@[simp] theorem setFrames_pending (s : State) (v : List HeldFrame) :
    (s.setFrames v).pending = s.pending := rfl

/-! ### setTimer -/

@[simp] theorem setTimer_base (s : State) (v : Timer) :
    (s.setTimer v).base = s.base := rfl
@[simp] theorem setTimer_strap (s : State) (v : Timer) :
    (s.setTimer v).strap = s.strap := rfl
@[simp] theorem setTimer_ports (s : State) (v : Timer) :
    (s.setTimer v).ports = s.ports := rfl
@[simp] theorem setTimer_egress (s : State) (v : Timer) :
    (s.setTimer v).egress = s.egress := rfl
@[simp] theorem setTimer_frames (s : State) (v : Timer) :
    (s.setTimer v).frames = s.frames := rfl
@[simp] theorem setTimer_nextFrame (s : State) (v : Timer) :
    (s.setTimer v).nextFrame = s.nextFrame := rfl
@[simp] theorem setTimer_timer (s : State) (v : Timer) :
    (s.setTimer v).timer = v := rfl
@[simp] theorem setTimer_streams (s : State) (v : Timer) :
    (s.setTimer v).streams = s.streams := rfl
@[simp] theorem setTimer_staging (s : State) (v : Timer) :
    (s.setTimer v).staging = s.staging := rfl
@[simp] theorem setTimer_bankA (s : State) (v : Timer) :
    (s.setTimer v).bankA = s.bankA := rfl
@[simp] theorem setTimer_bankB (s : State) (v : Timer) :
    (s.setTimer v).bankB = s.bankB := rfl
@[simp] theorem setTimer_quench (s : State) (v : Timer) :
    (s.setTimer v).quench = s.quench := rfl
@[simp] theorem setTimer_events (s : State) (v : Timer) :
    (s.setTimer v).events = s.events := rfl
@[simp] theorem setTimer_agent (s : State) (v : Timer) :
    (s.setTimer v).agent = s.agent := rfl
@[simp] theorem setTimer_draws (s : State) (v : Timer) :
    (s.setTimer v).draws = s.draws := rfl
@[simp] theorem setTimer_pending (s : State) (v : Timer) :
    (s.setTimer v).pending = s.pending := rfl

/-! ### setStreams -/

@[simp] theorem setStreams_base (s : State) (v : Vector StreamRun 128) :
    (s.setStreams v).base = s.base := rfl
@[simp] theorem setStreams_strap (s : State) (v : Vector StreamRun 128) :
    (s.setStreams v).strap = s.strap := rfl
@[simp] theorem setStreams_ports (s : State) (v : Vector StreamRun 128) :
    (s.setStreams v).ports = s.ports := rfl
@[simp] theorem setStreams_egress (s : State) (v : Vector StreamRun 128) :
    (s.setStreams v).egress = s.egress := rfl
@[simp] theorem setStreams_frames (s : State) (v : Vector StreamRun 128) :
    (s.setStreams v).frames = s.frames := rfl
@[simp] theorem setStreams_nextFrame (s : State) (v : Vector StreamRun 128) :
    (s.setStreams v).nextFrame = s.nextFrame := rfl
@[simp] theorem setStreams_timer (s : State) (v : Vector StreamRun 128) :
    (s.setStreams v).timer = s.timer := rfl
@[simp] theorem setStreams_streams (s : State) (v : Vector StreamRun 128) :
    (s.setStreams v).streams = v := rfl
@[simp] theorem setStreams_staging (s : State) (v : Vector StreamRun 128) :
    (s.setStreams v).staging = s.staging := rfl
@[simp] theorem setStreams_bankA (s : State) (v : Vector StreamRun 128) :
    (s.setStreams v).bankA = s.bankA := rfl
@[simp] theorem setStreams_bankB (s : State) (v : Vector StreamRun 128) :
    (s.setStreams v).bankB = s.bankB := rfl
@[simp] theorem setStreams_quench (s : State) (v : Vector StreamRun 128) :
    (s.setStreams v).quench = s.quench := rfl
@[simp] theorem setStreams_events (s : State) (v : Vector StreamRun 128) :
    (s.setStreams v).events = s.events := rfl
@[simp] theorem setStreams_agent (s : State) (v : Vector StreamRun 128) :
    (s.setStreams v).agent = s.agent := rfl
@[simp] theorem setStreams_draws (s : State) (v : Vector StreamRun 128) :
    (s.setStreams v).draws = s.draws := rfl
@[simp] theorem setStreams_pending (s : State) (v : Vector StreamRun 128) :
    (s.setStreams v).pending = s.pending := rfl

/-! ### setStaging -/

@[simp] theorem setStaging_base (s : State) (v : Staging) :
    (s.setStaging v).base = s.base := rfl
@[simp] theorem setStaging_strap (s : State) (v : Staging) :
    (s.setStaging v).strap = s.strap := rfl
@[simp] theorem setStaging_ports (s : State) (v : Staging) :
    (s.setStaging v).ports = s.ports := rfl
@[simp] theorem setStaging_egress (s : State) (v : Staging) :
    (s.setStaging v).egress = s.egress := rfl
@[simp] theorem setStaging_frames (s : State) (v : Staging) :
    (s.setStaging v).frames = s.frames := rfl
@[simp] theorem setStaging_nextFrame (s : State) (v : Staging) :
    (s.setStaging v).nextFrame = s.nextFrame := rfl
@[simp] theorem setStaging_timer (s : State) (v : Staging) :
    (s.setStaging v).timer = s.timer := rfl
@[simp] theorem setStaging_streams (s : State) (v : Staging) :
    (s.setStaging v).streams = s.streams := rfl
@[simp] theorem setStaging_staging (s : State) (v : Staging) :
    (s.setStaging v).staging = v := rfl
@[simp] theorem setStaging_bankA (s : State) (v : Staging) :
    (s.setStaging v).bankA = s.bankA := rfl
@[simp] theorem setStaging_bankB (s : State) (v : Staging) :
    (s.setStaging v).bankB = s.bankB := rfl
@[simp] theorem setStaging_quench (s : State) (v : Staging) :
    (s.setStaging v).quench = s.quench := rfl
@[simp] theorem setStaging_events (s : State) (v : Staging) :
    (s.setStaging v).events = s.events := rfl
@[simp] theorem setStaging_agent (s : State) (v : Staging) :
    (s.setStaging v).agent = s.agent := rfl
@[simp] theorem setStaging_draws (s : State) (v : Staging) :
    (s.setStaging v).draws = s.draws := rfl
@[simp] theorem setStaging_pending (s : State) (v : Staging) :
    (s.setStaging v).pending = s.pending := rfl

/-! ### setQuench -/

@[simp] theorem setQuench_base (s : State) (v : Quench) :
    (s.setQuench v).base = s.base := rfl
@[simp] theorem setQuench_strap (s : State) (v : Quench) :
    (s.setQuench v).strap = s.strap := rfl
@[simp] theorem setQuench_ports (s : State) (v : Quench) :
    (s.setQuench v).ports = s.ports := rfl
@[simp] theorem setQuench_egress (s : State) (v : Quench) :
    (s.setQuench v).egress = s.egress := rfl
@[simp] theorem setQuench_frames (s : State) (v : Quench) :
    (s.setQuench v).frames = s.frames := rfl
@[simp] theorem setQuench_nextFrame (s : State) (v : Quench) :
    (s.setQuench v).nextFrame = s.nextFrame := rfl
@[simp] theorem setQuench_timer (s : State) (v : Quench) :
    (s.setQuench v).timer = s.timer := rfl
@[simp] theorem setQuench_streams (s : State) (v : Quench) :
    (s.setQuench v).streams = s.streams := rfl
@[simp] theorem setQuench_staging (s : State) (v : Quench) :
    (s.setQuench v).staging = s.staging := rfl
@[simp] theorem setQuench_bankA (s : State) (v : Quench) :
    (s.setQuench v).bankA = s.bankA := rfl
@[simp] theorem setQuench_bankB (s : State) (v : Quench) :
    (s.setQuench v).bankB = s.bankB := rfl
@[simp] theorem setQuench_quench (s : State) (v : Quench) :
    (s.setQuench v).quench = v := rfl
@[simp] theorem setQuench_events (s : State) (v : Quench) :
    (s.setQuench v).events = s.events := rfl
@[simp] theorem setQuench_agent (s : State) (v : Quench) :
    (s.setQuench v).agent = s.agent := rfl
@[simp] theorem setQuench_draws (s : State) (v : Quench) :
    (s.setQuench v).draws = s.draws := rfl
@[simp] theorem setQuench_pending (s : State) (v : Quench) :
    (s.setQuench v).pending = s.pending := rfl

/-! ### setEvents -/

@[simp] theorem setEvents_base (s : State) (v : EventUnit) :
    (s.setEvents v).base = s.base := rfl
@[simp] theorem setEvents_strap (s : State) (v : EventUnit) :
    (s.setEvents v).strap = s.strap := rfl
@[simp] theorem setEvents_ports (s : State) (v : EventUnit) :
    (s.setEvents v).ports = s.ports := rfl
@[simp] theorem setEvents_egress (s : State) (v : EventUnit) :
    (s.setEvents v).egress = s.egress := rfl
@[simp] theorem setEvents_frames (s : State) (v : EventUnit) :
    (s.setEvents v).frames = s.frames := rfl
@[simp] theorem setEvents_nextFrame (s : State) (v : EventUnit) :
    (s.setEvents v).nextFrame = s.nextFrame := rfl
@[simp] theorem setEvents_timer (s : State) (v : EventUnit) :
    (s.setEvents v).timer = s.timer := rfl
@[simp] theorem setEvents_streams (s : State) (v : EventUnit) :
    (s.setEvents v).streams = s.streams := rfl
@[simp] theorem setEvents_staging (s : State) (v : EventUnit) :
    (s.setEvents v).staging = s.staging := rfl
@[simp] theorem setEvents_bankA (s : State) (v : EventUnit) :
    (s.setEvents v).bankA = s.bankA := rfl
@[simp] theorem setEvents_bankB (s : State) (v : EventUnit) :
    (s.setEvents v).bankB = s.bankB := rfl
@[simp] theorem setEvents_quench (s : State) (v : EventUnit) :
    (s.setEvents v).quench = s.quench := rfl
@[simp] theorem setEvents_events (s : State) (v : EventUnit) :
    (s.setEvents v).events = v := rfl
@[simp] theorem setEvents_agent (s : State) (v : EventUnit) :
    (s.setEvents v).agent = s.agent := rfl
@[simp] theorem setEvents_draws (s : State) (v : EventUnit) :
    (s.setEvents v).draws = s.draws := rfl
@[simp] theorem setEvents_pending (s : State) (v : EventUnit) :
    (s.setEvents v).pending = s.pending := rfl

/-! ### setAgent -/

@[simp] theorem setAgent_base (s : State) (v : Agent) :
    (s.setAgent v).base = s.base := rfl
@[simp] theorem setAgent_strap (s : State) (v : Agent) :
    (s.setAgent v).strap = s.strap := rfl
@[simp] theorem setAgent_ports (s : State) (v : Agent) :
    (s.setAgent v).ports = s.ports := rfl
@[simp] theorem setAgent_egress (s : State) (v : Agent) :
    (s.setAgent v).egress = s.egress := rfl
@[simp] theorem setAgent_frames (s : State) (v : Agent) :
    (s.setAgent v).frames = s.frames := rfl
@[simp] theorem setAgent_nextFrame (s : State) (v : Agent) :
    (s.setAgent v).nextFrame = s.nextFrame := rfl
@[simp] theorem setAgent_timer (s : State) (v : Agent) :
    (s.setAgent v).timer = s.timer := rfl
@[simp] theorem setAgent_streams (s : State) (v : Agent) :
    (s.setAgent v).streams = s.streams := rfl
@[simp] theorem setAgent_staging (s : State) (v : Agent) :
    (s.setAgent v).staging = s.staging := rfl
@[simp] theorem setAgent_bankA (s : State) (v : Agent) :
    (s.setAgent v).bankA = s.bankA := rfl
@[simp] theorem setAgent_bankB (s : State) (v : Agent) :
    (s.setAgent v).bankB = s.bankB := rfl
@[simp] theorem setAgent_quench (s : State) (v : Agent) :
    (s.setAgent v).quench = s.quench := rfl
@[simp] theorem setAgent_events (s : State) (v : Agent) :
    (s.setAgent v).events = s.events := rfl
@[simp] theorem setAgent_agent (s : State) (v : Agent) :
    (s.setAgent v).agent = v := rfl
@[simp] theorem setAgent_draws (s : State) (v : Agent) :
    (s.setAgent v).draws = s.draws := rfl
@[simp] theorem setAgent_pending (s : State) (v : Agent) :
    (s.setAgent v).pending = s.pending := rfl

/-! ### setPending -/

@[simp] theorem setPending_base (s : State) (v : List Instr) :
    (s.setPending v).base = s.base := rfl
@[simp] theorem setPending_strap (s : State) (v : List Instr) :
    (s.setPending v).strap = s.strap := rfl
@[simp] theorem setPending_ports (s : State) (v : List Instr) :
    (s.setPending v).ports = s.ports := rfl
@[simp] theorem setPending_egress (s : State) (v : List Instr) :
    (s.setPending v).egress = s.egress := rfl
@[simp] theorem setPending_frames (s : State) (v : List Instr) :
    (s.setPending v).frames = s.frames := rfl
@[simp] theorem setPending_nextFrame (s : State) (v : List Instr) :
    (s.setPending v).nextFrame = s.nextFrame := rfl
@[simp] theorem setPending_timer (s : State) (v : List Instr) :
    (s.setPending v).timer = s.timer := rfl
@[simp] theorem setPending_streams (s : State) (v : List Instr) :
    (s.setPending v).streams = s.streams := rfl
@[simp] theorem setPending_staging (s : State) (v : List Instr) :
    (s.setPending v).staging = s.staging := rfl
@[simp] theorem setPending_bankA (s : State) (v : List Instr) :
    (s.setPending v).bankA = s.bankA := rfl
@[simp] theorem setPending_bankB (s : State) (v : List Instr) :
    (s.setPending v).bankB = s.bankB := rfl
@[simp] theorem setPending_quench (s : State) (v : List Instr) :
    (s.setPending v).quench = s.quench := rfl
@[simp] theorem setPending_events (s : State) (v : List Instr) :
    (s.setPending v).events = s.events := rfl
@[simp] theorem setPending_agent (s : State) (v : List Instr) :
    (s.setPending v).agent = s.agent := rfl
@[simp] theorem setPending_draws (s : State) (v : List Instr) :
    (s.setPending v).draws = s.draws := rfl
@[simp] theorem setPending_pending (s : State) (v : List Instr) :
    (s.setPending v).pending = v := rfl

/-! ### draw -/

@[simp] theorem draw_base (s : State) (n : Nat) :
    (s.draw n).base = s.base := rfl
@[simp] theorem draw_strap (s : State) (n : Nat) :
    (s.draw n).strap = s.strap := rfl
@[simp] theorem draw_ports (s : State) (n : Nat) :
    (s.draw n).ports = s.ports := rfl
@[simp] theorem draw_egress (s : State) (n : Nat) :
    (s.draw n).egress = s.egress := rfl
@[simp] theorem draw_frames (s : State) (n : Nat) :
    (s.draw n).frames = s.frames := rfl
@[simp] theorem draw_nextFrame (s : State) (n : Nat) :
    (s.draw n).nextFrame = s.nextFrame := rfl
@[simp] theorem draw_timer (s : State) (n : Nat) :
    (s.draw n).timer = s.timer := rfl
@[simp] theorem draw_streams (s : State) (n : Nat) :
    (s.draw n).streams = s.streams := rfl
@[simp] theorem draw_staging (s : State) (n : Nat) :
    (s.draw n).staging = s.staging := rfl
@[simp] theorem draw_bankA (s : State) (n : Nat) :
    (s.draw n).bankA = s.bankA := rfl
@[simp] theorem draw_bankB (s : State) (n : Nat) :
    (s.draw n).bankB = s.bankB := rfl
@[simp] theorem draw_quench (s : State) (n : Nat) :
    (s.draw n).quench = s.quench := rfl
@[simp] theorem draw_events (s : State) (n : Nat) :
    (s.draw n).events = s.events := rfl
@[simp] theorem draw_agent (s : State) (n : Nat) :
    (s.draw n).agent = s.agent := rfl
@[simp] theorem draw_draws (s : State) (n : Nat) :
    (s.draw n).draws = s.draws + n := rfl
@[simp] theorem draw_pending (s : State) (n : Nat) :
    (s.draw n).pending = s.pending := rfl

/-! ### updatePort -/

@[simp] theorem updatePort_base (s : State) (p : Port) (f : PortUnit → PortUnit) :
    (s.updatePort p f).base = s.base := rfl
@[simp] theorem updatePort_strap (s : State) (p : Port) (f : PortUnit → PortUnit) :
    (s.updatePort p f).strap = s.strap := rfl
@[simp] theorem updatePort_ports (s : State) (p : Port) (f : PortUnit → PortUnit) :
    (s.updatePort p f).ports = s.ports.set p (f (s.ports.get p)) := rfl
@[simp] theorem updatePort_egress (s : State) (p : Port) (f : PortUnit → PortUnit) :
    (s.updatePort p f).egress = s.egress := rfl
@[simp] theorem updatePort_frames (s : State) (p : Port) (f : PortUnit → PortUnit) :
    (s.updatePort p f).frames = s.frames := rfl
@[simp] theorem updatePort_nextFrame (s : State) (p : Port) (f : PortUnit → PortUnit) :
    (s.updatePort p f).nextFrame = s.nextFrame := rfl
@[simp] theorem updatePort_timer (s : State) (p : Port) (f : PortUnit → PortUnit) :
    (s.updatePort p f).timer = s.timer := rfl
@[simp] theorem updatePort_streams (s : State) (p : Port) (f : PortUnit → PortUnit) :
    (s.updatePort p f).streams = s.streams := rfl
@[simp] theorem updatePort_staging (s : State) (p : Port) (f : PortUnit → PortUnit) :
    (s.updatePort p f).staging = s.staging := rfl
@[simp] theorem updatePort_bankA (s : State) (p : Port) (f : PortUnit → PortUnit) :
    (s.updatePort p f).bankA = s.bankA := rfl
@[simp] theorem updatePort_bankB (s : State) (p : Port) (f : PortUnit → PortUnit) :
    (s.updatePort p f).bankB = s.bankB := rfl
@[simp] theorem updatePort_quench (s : State) (p : Port) (f : PortUnit → PortUnit) :
    (s.updatePort p f).quench = s.quench := rfl
@[simp] theorem updatePort_events (s : State) (p : Port) (f : PortUnit → PortUnit) :
    (s.updatePort p f).events = s.events := rfl
@[simp] theorem updatePort_agent (s : State) (p : Port) (f : PortUnit → PortUnit) :
    (s.updatePort p f).agent = s.agent := rfl
@[simp] theorem updatePort_draws (s : State) (p : Port) (f : PortUnit → PortUnit) :
    (s.updatePort p f).draws = s.draws := rfl
@[simp] theorem updatePort_pending (s : State) (p : Port) (f : PortUnit → PortUnit) :
    (s.updatePort p f).pending = s.pending := rfl

/-! ### countPort -/

@[simp] theorem countPort_base (s : State) (p : Port) (f : PortCounters → PortCounters) :
    (s.countPort p f).base = s.base := rfl
@[simp] theorem countPort_strap (s : State) (p : Port) (f : PortCounters → PortCounters) :
    (s.countPort p f).strap = s.strap := rfl
@[simp] theorem countPort_ports (s : State) (p : Port) (f : PortCounters → PortCounters) :
    (s.countPort p f).ports = s.ports.set p { s.ports.get p with counters := f (s.ports.get p).counters } := rfl
@[simp] theorem countPort_egress (s : State) (p : Port) (f : PortCounters → PortCounters) :
    (s.countPort p f).egress = s.egress := rfl
@[simp] theorem countPort_frames (s : State) (p : Port) (f : PortCounters → PortCounters) :
    (s.countPort p f).frames = s.frames := rfl
@[simp] theorem countPort_nextFrame (s : State) (p : Port) (f : PortCounters → PortCounters) :
    (s.countPort p f).nextFrame = s.nextFrame := rfl
@[simp] theorem countPort_timer (s : State) (p : Port) (f : PortCounters → PortCounters) :
    (s.countPort p f).timer = s.timer := rfl
@[simp] theorem countPort_streams (s : State) (p : Port) (f : PortCounters → PortCounters) :
    (s.countPort p f).streams = s.streams := rfl
@[simp] theorem countPort_staging (s : State) (p : Port) (f : PortCounters → PortCounters) :
    (s.countPort p f).staging = s.staging := rfl
@[simp] theorem countPort_bankA (s : State) (p : Port) (f : PortCounters → PortCounters) :
    (s.countPort p f).bankA = s.bankA := rfl
@[simp] theorem countPort_bankB (s : State) (p : Port) (f : PortCounters → PortCounters) :
    (s.countPort p f).bankB = s.bankB := rfl
@[simp] theorem countPort_quench (s : State) (p : Port) (f : PortCounters → PortCounters) :
    (s.countPort p f).quench = s.quench := rfl
@[simp] theorem countPort_events (s : State) (p : Port) (f : PortCounters → PortCounters) :
    (s.countPort p f).events = s.events := rfl
@[simp] theorem countPort_agent (s : State) (p : Port) (f : PortCounters → PortCounters) :
    (s.countPort p f).agent = s.agent := rfl
@[simp] theorem countPort_draws (s : State) (p : Port) (f : PortCounters → PortCounters) :
    (s.countPort p f).draws = s.draws := rfl
@[simp] theorem countPort_pending (s : State) (p : Port) (f : PortCounters → PortCounters) :
    (s.countPort p f).pending = s.pending := rfl

/-! ### updateEgress -/

@[simp] theorem updateEgress_base (s : State) (p : Port) (f : Egress → Egress) :
    (s.updateEgress p f).base = s.base := rfl
@[simp] theorem updateEgress_strap (s : State) (p : Port) (f : Egress → Egress) :
    (s.updateEgress p f).strap = s.strap := rfl
@[simp] theorem updateEgress_ports (s : State) (p : Port) (f : Egress → Egress) :
    (s.updateEgress p f).ports = s.ports := rfl
@[simp] theorem updateEgress_egress (s : State) (p : Port) (f : Egress → Egress) :
    (s.updateEgress p f).egress = s.egress.set p (f (s.egress.get p)) := rfl
@[simp] theorem updateEgress_frames (s : State) (p : Port) (f : Egress → Egress) :
    (s.updateEgress p f).frames = s.frames := rfl
@[simp] theorem updateEgress_nextFrame (s : State) (p : Port) (f : Egress → Egress) :
    (s.updateEgress p f).nextFrame = s.nextFrame := rfl
@[simp] theorem updateEgress_timer (s : State) (p : Port) (f : Egress → Egress) :
    (s.updateEgress p f).timer = s.timer := rfl
@[simp] theorem updateEgress_streams (s : State) (p : Port) (f : Egress → Egress) :
    (s.updateEgress p f).streams = s.streams := rfl
@[simp] theorem updateEgress_staging (s : State) (p : Port) (f : Egress → Egress) :
    (s.updateEgress p f).staging = s.staging := rfl
@[simp] theorem updateEgress_bankA (s : State) (p : Port) (f : Egress → Egress) :
    (s.updateEgress p f).bankA = s.bankA := rfl
@[simp] theorem updateEgress_bankB (s : State) (p : Port) (f : Egress → Egress) :
    (s.updateEgress p f).bankB = s.bankB := rfl
@[simp] theorem updateEgress_quench (s : State) (p : Port) (f : Egress → Egress) :
    (s.updateEgress p f).quench = s.quench := rfl
@[simp] theorem updateEgress_events (s : State) (p : Port) (f : Egress → Egress) :
    (s.updateEgress p f).events = s.events := rfl
@[simp] theorem updateEgress_agent (s : State) (p : Port) (f : Egress → Egress) :
    (s.updateEgress p f).agent = s.agent := rfl
@[simp] theorem updateEgress_draws (s : State) (p : Port) (f : Egress → Egress) :
    (s.updateEgress p f).draws = s.draws := rfl
@[simp] theorem updateEgress_pending (s : State) (p : Port) (f : Egress → Egress) :
    (s.updateEgress p f).pending = s.pending := rfl

/-! ### updateStream -/

@[simp] theorem updateStream_base (s : State) (i : StreamIx) (f : StreamRun → StreamRun) :
    (s.updateStream i f).base = s.base := rfl
@[simp] theorem updateStream_strap (s : State) (i : StreamIx) (f : StreamRun → StreamRun) :
    (s.updateStream i f).strap = s.strap := rfl
@[simp] theorem updateStream_ports (s : State) (i : StreamIx) (f : StreamRun → StreamRun) :
    (s.updateStream i f).ports = s.ports := rfl
@[simp] theorem updateStream_egress (s : State) (i : StreamIx) (f : StreamRun → StreamRun) :
    (s.updateStream i f).egress = s.egress := rfl
@[simp] theorem updateStream_frames (s : State) (i : StreamIx) (f : StreamRun → StreamRun) :
    (s.updateStream i f).frames = s.frames := rfl
@[simp] theorem updateStream_nextFrame (s : State) (i : StreamIx) (f : StreamRun → StreamRun) :
    (s.updateStream i f).nextFrame = s.nextFrame := rfl
@[simp] theorem updateStream_timer (s : State) (i : StreamIx) (f : StreamRun → StreamRun) :
    (s.updateStream i f).timer = s.timer := rfl
@[simp] theorem updateStream_streams (s : State) (i : StreamIx) (f : StreamRun → StreamRun) :
    (s.updateStream i f).streams = s.streams.set i (f s.streams[i]) := rfl
@[simp] theorem updateStream_staging (s : State) (i : StreamIx) (f : StreamRun → StreamRun) :
    (s.updateStream i f).staging = s.staging := rfl
@[simp] theorem updateStream_bankA (s : State) (i : StreamIx) (f : StreamRun → StreamRun) :
    (s.updateStream i f).bankA = s.bankA := rfl
@[simp] theorem updateStream_bankB (s : State) (i : StreamIx) (f : StreamRun → StreamRun) :
    (s.updateStream i f).bankB = s.bankB := rfl
@[simp] theorem updateStream_quench (s : State) (i : StreamIx) (f : StreamRun → StreamRun) :
    (s.updateStream i f).quench = s.quench := rfl
@[simp] theorem updateStream_events (s : State) (i : StreamIx) (f : StreamRun → StreamRun) :
    (s.updateStream i f).events = s.events := rfl
@[simp] theorem updateStream_agent (s : State) (i : StreamIx) (f : StreamRun → StreamRun) :
    (s.updateStream i f).agent = s.agent := rfl
@[simp] theorem updateStream_draws (s : State) (i : StreamIx) (f : StreamRun → StreamRun) :
    (s.updateStream i f).draws = s.draws := rfl
@[simp] theorem updateStream_pending (s : State) (i : StreamIx) (f : StreamRun → StreamRun) :
    (s.updateStream i f).pending = s.pending := rfl

/-! ### countStream -/

@[simp] theorem countStream_base (s : State) (i : StreamIx) (f : StreamCounters → StreamCounters) :
    (s.countStream i f).base = s.base := rfl
@[simp] theorem countStream_strap (s : State) (i : StreamIx) (f : StreamCounters → StreamCounters) :
    (s.countStream i f).strap = s.strap := rfl
@[simp] theorem countStream_ports (s : State) (i : StreamIx) (f : StreamCounters → StreamCounters) :
    (s.countStream i f).ports = s.ports := rfl
@[simp] theorem countStream_egress (s : State) (i : StreamIx) (f : StreamCounters → StreamCounters) :
    (s.countStream i f).egress = s.egress := rfl
@[simp] theorem countStream_frames (s : State) (i : StreamIx) (f : StreamCounters → StreamCounters) :
    (s.countStream i f).frames = s.frames := rfl
@[simp] theorem countStream_nextFrame (s : State) (i : StreamIx) (f : StreamCounters → StreamCounters) :
    (s.countStream i f).nextFrame = s.nextFrame := rfl
@[simp] theorem countStream_timer (s : State) (i : StreamIx) (f : StreamCounters → StreamCounters) :
    (s.countStream i f).timer = s.timer := rfl
@[simp] theorem countStream_streams (s : State) (i : StreamIx) (f : StreamCounters → StreamCounters) :
    (s.countStream i f).streams = s.streams.set i { s.streams[i] with counters := f s.streams[i].counters } := rfl
@[simp] theorem countStream_staging (s : State) (i : StreamIx) (f : StreamCounters → StreamCounters) :
    (s.countStream i f).staging = s.staging := rfl
@[simp] theorem countStream_bankA (s : State) (i : StreamIx) (f : StreamCounters → StreamCounters) :
    (s.countStream i f).bankA = s.bankA := rfl
@[simp] theorem countStream_bankB (s : State) (i : StreamIx) (f : StreamCounters → StreamCounters) :
    (s.countStream i f).bankB = s.bankB := rfl
@[simp] theorem countStream_quench (s : State) (i : StreamIx) (f : StreamCounters → StreamCounters) :
    (s.countStream i f).quench = s.quench := rfl
@[simp] theorem countStream_events (s : State) (i : StreamIx) (f : StreamCounters → StreamCounters) :
    (s.countStream i f).events = s.events := rfl
@[simp] theorem countStream_agent (s : State) (i : StreamIx) (f : StreamCounters → StreamCounters) :
    (s.countStream i f).agent = s.agent := rfl
@[simp] theorem countStream_draws (s : State) (i : StreamIx) (f : StreamCounters → StreamCounters) :
    (s.countStream i f).draws = s.draws := rfl
@[simp] theorem countStream_pending (s : State) (i : StreamIx) (f : StreamCounters → StreamCounters) :
    (s.countStream i f).pending = s.pending := rfl

/-! ### holdFrame -/

@[simp] theorem holdFrame_base (s : State) (p : Port) (b : List Byte) :
    (s.holdFrame p b).base = s.base := rfl
@[simp] theorem holdFrame_strap (s : State) (p : Port) (b : List Byte) :
    (s.holdFrame p b).strap = s.strap := rfl
@[simp] theorem holdFrame_ports (s : State) (p : Port) (b : List Byte) :
    (s.holdFrame p b).ports = s.ports := rfl
@[simp] theorem holdFrame_egress (s : State) (p : Port) (b : List Byte) :
    (s.holdFrame p b).egress = s.egress := rfl
@[simp] theorem holdFrame_frames (s : State) (p : Port) (b : List Byte) :
    (s.holdFrame p b).frames = HeldFrame.mk s.nextFrame p b :: s.frames := rfl
@[simp] theorem holdFrame_nextFrame (s : State) (p : Port) (b : List Byte) :
    (s.holdFrame p b).nextFrame = s.nextFrame + 1 := rfl
@[simp] theorem holdFrame_timer (s : State) (p : Port) (b : List Byte) :
    (s.holdFrame p b).timer = s.timer := rfl
@[simp] theorem holdFrame_streams (s : State) (p : Port) (b : List Byte) :
    (s.holdFrame p b).streams = s.streams := rfl
@[simp] theorem holdFrame_staging (s : State) (p : Port) (b : List Byte) :
    (s.holdFrame p b).staging = s.staging := rfl
@[simp] theorem holdFrame_bankA (s : State) (p : Port) (b : List Byte) :
    (s.holdFrame p b).bankA = s.bankA := rfl
@[simp] theorem holdFrame_bankB (s : State) (p : Port) (b : List Byte) :
    (s.holdFrame p b).bankB = s.bankB := rfl
@[simp] theorem holdFrame_quench (s : State) (p : Port) (b : List Byte) :
    (s.holdFrame p b).quench = s.quench := rfl
@[simp] theorem holdFrame_events (s : State) (p : Port) (b : List Byte) :
    (s.holdFrame p b).events = s.events := rfl
@[simp] theorem holdFrame_agent (s : State) (p : Port) (b : List Byte) :
    (s.holdFrame p b).agent = s.agent := rfl
@[simp] theorem holdFrame_draws (s : State) (p : Port) (b : List Byte) :
    (s.holdFrame p b).draws = s.draws := rfl
@[simp] theorem holdFrame_pending (s : State) (p : Port) (b : List Byte) :
    (s.holdFrame p b).pending = s.pending := rfl

/-! ### callSelection -/

@[simp] theorem callSelection_base (s : State) (p : Port) :
    (s.callSelection p).base = s.base := rfl
@[simp] theorem callSelection_strap (s : State) (p : Port) :
    (s.callSelection p).strap = s.strap := rfl
@[simp] theorem callSelection_ports (s : State) (p : Port) :
    (s.callSelection p).ports = s.ports := rfl
@[simp] theorem callSelection_egress (s : State) (p : Port) :
    (s.callSelection p).egress = s.egress.set p { s.egress.get p with selectDue := true } := rfl
@[simp] theorem callSelection_frames (s : State) (p : Port) :
    (s.callSelection p).frames = s.frames := rfl
@[simp] theorem callSelection_nextFrame (s : State) (p : Port) :
    (s.callSelection p).nextFrame = s.nextFrame := rfl
@[simp] theorem callSelection_timer (s : State) (p : Port) :
    (s.callSelection p).timer = s.timer := rfl
@[simp] theorem callSelection_streams (s : State) (p : Port) :
    (s.callSelection p).streams = s.streams := rfl
@[simp] theorem callSelection_staging (s : State) (p : Port) :
    (s.callSelection p).staging = s.staging := rfl
@[simp] theorem callSelection_bankA (s : State) (p : Port) :
    (s.callSelection p).bankA = s.bankA := rfl
@[simp] theorem callSelection_bankB (s : State) (p : Port) :
    (s.callSelection p).bankB = s.bankB := rfl
@[simp] theorem callSelection_quench (s : State) (p : Port) :
    (s.callSelection p).quench = s.quench := rfl
@[simp] theorem callSelection_events (s : State) (p : Port) :
    (s.callSelection p).events = s.events := rfl
@[simp] theorem callSelection_agent (s : State) (p : Port) :
    (s.callSelection p).agent = s.agent := rfl
@[simp] theorem callSelection_draws (s : State) (p : Port) :
    (s.callSelection p).draws = s.draws := rfl
@[simp] theorem callSelection_pending (s : State) (p : Port) :
    (s.callSelection p).pending = s.pending := rfl

/-! ### callSelections -/

@[simp] theorem callSelections_base (s : State) :
    (s.callSelections).base = s.base := rfl
@[simp] theorem callSelections_strap (s : State) :
    (s.callSelections).strap = s.strap := rfl
@[simp] theorem callSelections_ports (s : State) :
    (s.callSelections).ports = s.ports := rfl
@[simp] theorem callSelections_egress (s : State) :
    (s.callSelections).egress = s.egress.map (fun e => { e with selectDue := true }) := rfl
@[simp] theorem callSelections_frames (s : State) :
    (s.callSelections).frames = s.frames := rfl
@[simp] theorem callSelections_nextFrame (s : State) :
    (s.callSelections).nextFrame = s.nextFrame := rfl
@[simp] theorem callSelections_timer (s : State) :
    (s.callSelections).timer = s.timer := rfl
@[simp] theorem callSelections_streams (s : State) :
    (s.callSelections).streams = s.streams := rfl
@[simp] theorem callSelections_staging (s : State) :
    (s.callSelections).staging = s.staging := rfl
@[simp] theorem callSelections_bankA (s : State) :
    (s.callSelections).bankA = s.bankA := rfl
@[simp] theorem callSelections_bankB (s : State) :
    (s.callSelections).bankB = s.bankB := rfl
@[simp] theorem callSelections_quench (s : State) :
    (s.callSelections).quench = s.quench := rfl
@[simp] theorem callSelections_events (s : State) :
    (s.callSelections).events = s.events := rfl
@[simp] theorem callSelections_agent (s : State) :
    (s.callSelections).agent = s.agent := rfl
@[simp] theorem callSelections_draws (s : State) :
    (s.callSelections).draws = s.draws := rfl
@[simp] theorem callSelections_pending (s : State) :
    (s.callSelections).pending = s.pending := rfl

/-! ### releaseFrames -/

@[simp] theorem releaseFrames_base (s : State) :
    (s.releaseFrames).base = s.base := rfl
@[simp] theorem releaseFrames_strap (s : State) :
    (s.releaseFrames).strap = s.strap := rfl
@[simp] theorem releaseFrames_ports (s : State) :
    (s.releaseFrames).ports = s.ports := rfl
@[simp] theorem releaseFrames_egress (s : State) :
    (s.releaseFrames).egress = s.egress := rfl
@[simp] theorem releaseFrames_frames (s : State) :
    (s.releaseFrames).frames = s.frames.filter (fun f => Port.all.any (fun p => (s.egress.get p).refersTo f.id)) := rfl
@[simp] theorem releaseFrames_nextFrame (s : State) :
    (s.releaseFrames).nextFrame = s.nextFrame := rfl
@[simp] theorem releaseFrames_timer (s : State) :
    (s.releaseFrames).timer = s.timer := rfl
@[simp] theorem releaseFrames_streams (s : State) :
    (s.releaseFrames).streams = s.streams := rfl
@[simp] theorem releaseFrames_staging (s : State) :
    (s.releaseFrames).staging = s.staging := rfl
@[simp] theorem releaseFrames_bankA (s : State) :
    (s.releaseFrames).bankA = s.bankA := rfl
@[simp] theorem releaseFrames_bankB (s : State) :
    (s.releaseFrames).bankB = s.bankB := rfl
@[simp] theorem releaseFrames_quench (s : State) :
    (s.releaseFrames).quench = s.quench := rfl
@[simp] theorem releaseFrames_events (s : State) :
    (s.releaseFrames).events = s.events := rfl
@[simp] theorem releaseFrames_agent (s : State) :
    (s.releaseFrames).agent = s.agent := rfl
@[simp] theorem releaseFrames_draws (s : State) :
    (s.releaseFrames).draws = s.draws := rfl
@[simp] theorem releaseFrames_pending (s : State) :
    (s.releaseFrames).pending = s.pending := rfl

/-! ### setStaged -/

@[simp] theorem setStaged_base (s : State) (b : Bank) : (s.setStaged b).base = s.base := by
  unfold State.setStaged; split <;> rfl
@[simp] theorem setStaged_strap (s : State) (b : Bank) : (s.setStaged b).strap = s.strap := by
  unfold State.setStaged; split <;> rfl
@[simp] theorem setStaged_ports (s : State) (b : Bank) : (s.setStaged b).ports = s.ports := by
  unfold State.setStaged; split <;> rfl
@[simp] theorem setStaged_egress (s : State) (b : Bank) : (s.setStaged b).egress = s.egress := by
  unfold State.setStaged; split <;> rfl
@[simp] theorem setStaged_frames (s : State) (b : Bank) : (s.setStaged b).frames = s.frames := by
  unfold State.setStaged; split <;> rfl
@[simp] theorem setStaged_nextFrame (s : State) (b : Bank) : (s.setStaged b).nextFrame = s.nextFrame := by
  unfold State.setStaged; split <;> rfl
@[simp] theorem setStaged_timer (s : State) (b : Bank) : (s.setStaged b).timer = s.timer := by
  unfold State.setStaged; split <;> rfl
@[simp] theorem setStaged_streams (s : State) (b : Bank) : (s.setStaged b).streams = s.streams := by
  unfold State.setStaged; split <;> rfl
@[simp] theorem setStaged_staging (s : State) (b : Bank) : (s.setStaged b).staging = s.staging := by
  unfold State.setStaged; split <;> rfl
@[simp] theorem setStaged_quench (s : State) (b : Bank) : (s.setStaged b).quench = s.quench := by
  unfold State.setStaged; split <;> rfl
@[simp] theorem setStaged_events (s : State) (b : Bank) : (s.setStaged b).events = s.events := by
  unfold State.setStaged; split <;> rfl
@[simp] theorem setStaged_agent (s : State) (b : Bank) : (s.setStaged b).agent = s.agent := by
  unfold State.setStaged; split <;> rfl
@[simp] theorem setStaged_draws (s : State) (b : Bank) : (s.setStaged b).draws = s.draws := by
  unfold State.setStaged; split <;> rfl
@[simp] theorem setStaged_pending (s : State) (b : Bank) : (s.setStaged b).pending = s.pending := by
  unfold State.setStaged; split <;> rfl

/-- A write into the staged bank leaves the active set alone (R112). -/
@[simp] theorem setStaged_active (s : State) (b : Bank) : (s.setStaged b).active = s.active := by
  cases h : s.staging.active <;> simp [State.setStaged, State.active, State.bank, h]

/-- A write into the staged bank is read back from it (R112). -/
@[simp] theorem setStaged_staged (s : State) (b : Bank) : (s.setStaged b).staged = b := by
  cases h : s.staging.active <;> simp [State.setStaged, State.staged, State.bank, BankName.other, h]

/-! ### One value for each port, tables -/

theorem perPort_get_set {α : Type} (v : PerPort α) (p q : Port) (x : α) :
    (v.set p x).get q = if q = p then x else v.get q := by
  cases p <;> cases q <;> rfl

@[simp] theorem perPort_get_set_same {α : Type} (v : PerPort α) (p : Port) (x : α) :
    (v.set p x).get p = x := by cases p <;> rfl

theorem perPort_get_set_other {α : Type} (v : PerPort α) {p q : Port} (h : q ≠ p) (x : α) :
    (v.set p x).get q = v.get q := by simp [perPort_get_set, h]

@[simp] theorem perPort_get_map {α β : Type} (v : PerPort α) (f : α → β) (p : Port) :
    (v.map f).get p = f (v.get p) := by cases p <;> rfl

@[simp] theorem mapTable_getElem {α β : Type} {n : Nat} (v : Vector α n) (f : α → β) (i : Nat)
    (h : i < n) : (mapTable v f)[i] = f v[i] := by
  simp [mapTable]

@[simp] theorem tableOf_getElem {α : Type} {n : Nat} (f : Fin n → α) (i : Nat) (h : i < n) :
    (tableOf f)[i] = f ⟨i, h⟩ := by
  simp [tableOf]

/-- The record of one stream after another's update. -/
theorem streams_set_other (v : Vector StreamRun 128) {i j : StreamIx} (h : i ≠ j) (x : StreamRun) :
    (v.set i x)[j] = v[j] := by
  have h' : i.val ≠ j.val := fun e => h (Fin.ext e)
  simp [h']

/-- Every port is in the list of ports. -/
@[simp] theorem mem_portAll (p : Port) : p ∈ Port.all := by cases p <;> decide

end Sys2Proof.Machine
end

