-- ==== Sys2Proof/Laws/Requests.lean ====
section
/-! SUPPORT. What the agent's execution of a request comes to, step by step of R167: one lemma for each
step that can end it. -/

namespace Sys2Proof.Machine

theorem entered_eq (s : State) (rest : List Request) :
    (s.tookRequest rest).countExecuted = s.entered rest := rfl

/-- Taken requests of a row whose header is readable and which no cache entry answers go to step 3. -/
theorem agentExecutes_step3 {s : State} {c : Instr} {r : Request} {rest : List Request}
    (h : Takes s c r rest) (k : Request → State → State) :
    s.agentExecutes c k = k r (s.entered rest) := by
  have h1 : ¬ r.body.length < 4 := Nat.not_lt.mpr h.readable
  have h2 : (s.tookRequest rest).cacheHit r = none := h.fresh
  unfold State.agentExecutes
  rw [h.noWait, h.head]
  simp only [h.row, if_true, h1, if_false, h2, entered_eq]

/-- Step 2 answers from the reply cache (R168). -/
theorem agentExecutes_cached {s : State} {c : Instr} {r : Request} {rest : List Request}
    {e : CacheEntry} (hw : s.agent.restartWait = none) (hh : s.agent.intake = r :: rest)
    (hc : r.command = c) (hb : 4 ≤ r.body.length) (he : s.cacheHit r = some e)
    (k : Request → State → State) :
    s.agentExecutes c k = (s.tookRequest rest).answerFromCache r e := by
  have h1 : ¬ r.body.length < 4 := Nat.not_lt.mpr hb
  have h2 : (s.tookRequest rest).cacheHit r = some e := he
  unfold State.agentExecutes
  rw [hw, hh]
  simp only [hc, if_true, h1, if_false, h2]

/-- The body of a request that carries its row's argument bytes passes the body check. -/
theorem bodyOk_of_carries {row : RequestRow} {r : Request} {n : Nat} (h : Carries r n)
    (hf : row.form r.args = true) : row.bodyOk r = true := by
  have h8 : 8 ≤ r.body.length := by rw [h.size]; omega
  simp [RequestRow.bodyOk, h.whole, h8, hf]

theorem args_length {r : Request} {n : Nat} (h : Carries r n) : r.args.length = n := by
  simp [Request.args, h.size]

theorem formBytes_of_carries {r : Request} {n : Nat} (h : Carries r n) : formBytes n r.args = true := by
  simp [formBytes, args_length h]

/-- Steps 4 to 6 passed: the effect is taken and its answer concluded. -/
theorem execute_passes {row : RequestRow} {s : State} {r : Request} {rest : List Request}
    (h : Takes s row.command r rest) (hb : row.bodyOk r = true)
    (ho : row.needsOwner = true → s.ownsGate r = true) (hr : row.ranges r = true) :
    row.execute s =
      (row.effect r (s.entered rest)).after.conclude r (row.effect r (s.entered rest)).status
        (row.effect r (s.entered rest)).result
        (row.isRestart && decide ((row.effect r (s.entered rest)).status = .ok)) := by
  have ho' : (row.needsOwner && !(s.entered rest).ownsGate r) = false := by
    cases hn : row.needsOwner
    · rfl
    · have : (s.entered rest).ownsGate r = true := ho hn
      simp [this]
  unfold RequestRow.execute
  rw [agentExecutes_step3 h]
  simp [RequestRow.judge, hb, ho', hr]

/-- Step 4 fails: MALFORMED (R180). -/
theorem execute_malformed {row : RequestRow} {s : State} {r : Request} {rest : List Request}
    (h : Takes s row.command r rest) (hb : row.bodyOk r = false) :
    row.execute s = (s.entered rest).conclude r .malformed [] false := by
  unfold RequestRow.execute
  rw [agentExecutes_step3 h]
  simp [RequestRow.judge, hb]

/-- Step 5 fails: NOT-OWNER (R170). -/
theorem execute_notOwner {row : RequestRow} {s : State} {r : Request} {rest : List Request}
    (h : Takes s row.command r rest) (hb : row.bodyOk r = true) (hn : row.needsOwner = true)
    (ho : s.ownsGate r = false) :
    row.execute s = (s.entered rest).conclude r .notOwner [] false := by
  have ho' : (s.entered rest).ownsGate r = false := ho
  unfold RequestRow.execute
  rw [agentExecutes_step3 h]
  simp [RequestRow.judge, hb, hn, ho']

/-- Step 6 fails: RANGE, without a result (R181). -/
theorem execute_range {row : RequestRow} {s : State} {r : Request} {rest : List Request}
    (h : Takes s row.command r rest) (hb : row.bodyOk r = true)
    (ho : row.needsOwner = true → s.ownsGate r = true) (hr : row.ranges r = false) :
    row.execute s = (s.entered rest).conclude r .range [] false := by
  have ho' : (row.needsOwner && !(s.entered rest).ownsGate r) = false := by
    cases hn : row.needsOwner
    · rfl
    · have : (s.entered rest).ownsGate r = true := ho hn
      simp [this]
  unfold RequestRow.execute
  rw [agentExecutes_step3 h]
  simp [RequestRow.judge, hb, ho', hr]

/-! ### The byte that tells two rows of one code apart (log 4) -/

theorem ite_ne {α : Type} {p : Prop} [Decidable p] {a b c : α} (ha : a ≠ c) (hb : b ≠ c) :
    (if p then a else b) ≠ c := by
  split <;> assumption

theorem command_commitNext {r : Request} (h : r.command = .commitNext) : r.arg 0 = 0 := by
  by_contra hne
  refine absurd h ?_
  unfold Request.command
  simp only [if_neg hne]
  repeat' apply ite_ne
  all_goals exact Instr.noConfusion

theorem command_releaseStreamResume {r : Request} (h : r.command = .releaseStreamResume) : r.arg 1 = 0 := by
  by_contra hne
  refine absurd h ?_
  unfold Request.command
  simp only [if_neg hne]
  repeat' apply ite_ne
  all_goals exact Instr.noConfusion

theorem command_timerStartImmediate {r : Request} (h : r.command = .timerStartImmediate) : r.arg 0 = 0 := by
  by_contra hne
  refine absurd h ?_
  unfold Request.command
  simp only [if_neg hne]
  repeat' apply ite_ne
  all_goals exact Instr.noConfusion

theorem command_readCountersClear {r : Request} (h : r.command = .readCountersClear) : r.arg 2 = 1 := by
  by_contra hne
  refine absurd h ?_
  unfold Request.command
  simp only [if_neg hne]
  repeat' apply ite_ne
  all_goals exact Instr.noConfusion

end Sys2Proof.Machine
end

