-- ==== Sys2Proof/Laws/Due.lean ====
section
/-! SUPPORT. What is due in a state, command by command: when each source of occurrences holds a command, and
when each condition holds by the fields of the state. -/

namespace Sys2Proof.Machine

/-- Both branches are in a list. -/
theorem ite_mem_list {α : Type} {p : Prop} [Decidable p] {a b : α} {l : List α} (ha : a ∈ l)
    (hb : b ∈ l) :
    (if p then a else b) ∈ l := by
  split <;> assumption

/-- A request's command is one of the commands of the agent. -/
theorem command_mem (r : Request) : r.command ∈ ownerCommands ++ openCommands ++ [.unknownRequest] := by
  unfold Request.command
  repeat' (first | decide | refine ite_mem_list ?_ ?_)

/-- What is due, source by source. -/
theorem mem_dueNow (s : State) (c : Instr) :
    c ∈ s.dueNow ↔ (∃ p, c ∈ s.portDue p) ∨ c ∈ s.windowsDue ∨
      (s.cycleStartDue = true ∧ c = .cycleStart) ∨
      (s.intervalOver = true ∧ c = .attributionIntervalClose) ∨
      (s.advanceEndDue = true ∧ c = .pendingAdvanceEnd) ∨ c ∈ s.lineDue ∨ c ∈ s.retriesDue ∨
      (s.leaseDue = true ∧ c = .leaseExpiry) ∨ (s.restageDone = true ∧ c = .restageCompletion) ∨
      (s.restartDue = true ∧ c = .restartWaitExpiry) ∨ c ∈ s.requestDue := by
  have hp : ∀ p : Port, p ∈ Port.all := by intro p; cases p <;> decide
  unfold State.dueNow
  simp only [List.mem_append, List.mem_flatMap, hp, true_and, List.mem_ite_nil_right, List.mem_singleton,
    or_assoc]

/-- What is due at a port. -/
theorem mem_portDue (s : State) (p : Port) (c : Instr) :
    c ∈ s.portDue p ↔
      ((s.egress.get p).maySelect = true ∧ c = .transmitStart p) ∨
      ((∃ x, (s.egress.get p).transmitter = .sending x ∧ x.remaining = 0) ∧ c = .transmitComplete p) ∨
      ((∃ r, (s.ports.get p).reception = some r ∧ wireTime r.frame.length ≤ r.elapsed) ∧
        c = .frameArrival p) ∨
      (s.cutDue p = true ∧ c = .guardOpen p) ∨ (s.offerDue p = true ∧ c = .notificationOffer p) := by
  unfold State.portDue
  cases ht : (s.egress.get p).transmitter <;> cases hr : (s.ports.get p).reception <;>
    simp [List.mem_append, List.mem_ite_nil_right]

/-- The closes that are due. -/
theorem mem_windowsDue (s : State) (c : Instr) :
    c ∈ s.windowsDue ↔ ∃ w : WindowIx, (s.closeDue .admitting w = true ∧ c = .windowClose w.val) ∨
      (s.closeDue .guard w = true ∧ c = .guardClose w.val) := by
  have hw : ∀ w : WindowIx, w ∈ allWindows := by intro w; simp [allWindows]
  simp only [State.windowsDue, List.mem_flatMap, hw, true_and, List.mem_append, List.mem_ite_nil_right,
    List.mem_singleton]

/-- The retry timers that have expired (R161). -/
theorem mem_retriesDue (s : State) (c : Instr) :
    c ∈ s.retriesDue ↔ ∃ r ∈ s.events.queue, s.expiredRecord r.listener r.seq r = true ∧
      c = .retryTimerExpiry r.listener r.seq := by
  simp only [State.retriesDue, List.mem_map, List.mem_filter, and_assoc, eq_comm]

/-- The request at the head of the intake queue (R167, R177; log 43). -/
theorem mem_requestDue (s : State) (c : Instr) :
    c ∈ s.requestDue ↔ s.agent.restartWait = none ∧ ∃ r rest, s.agent.intake = r :: rest ∧ c = r.command := by
  unfold State.requestDue
  cases s.agent.restartWait <;> cases s.agent.intake <;> simp

/-- The level of QUENCH_N that is due (R93). -/
theorem mem_lineDue (s : State) (c : Instr) :
    c ∈ s.lineDue ↔ s.quench.lineDue = true ∧
      (s.quench.pin = .asserted ∧ c = .quenchLineAsserted ∨
       s.quench.pin = .deasserted ∧ c = .quenchLineDeasserted) := by
  unfold State.lineDue
  cases s.quench.lineDue <;> cases s.quench.pin <;> simp

/-- When a close of a kind is due (R49, R60). -/
theorem closeDue_iff (s : State) (k : WindowKind) (w : WindowIx) :
    s.closeDue k w = true ↔ s.timer.state = .running ∧ s.active.windows[w].valid = true ∧
      s.active.windows[w].kind = k ∧ s.active.windows[w].closeOff ≤ s.timer.counter ∧
      s.timer.closesTaken.contains w.val = false := by
  simp only [State.closeDue, State.closeReached, State.running, Bool.and_eq_true, decide_eq_true_eq,
    Bool.not_eq_true']
  tauto

/-- When the attribution interval is over (R75). -/
theorem intervalOver_iff (s : State) :
    s.intervalOver = true ↔ s.timer.state = .running ∧
       (∃ a, s.timer.attribution = some a ∧ a.isOpen = true) ∧
       (∃ c, s.timer.current = some c ∧ c.tolerance + 1 ≤ s.timer.counter) ∧
       ∀ r, (s.ports.get s.active.settings.markPort).reception = some r → s.holdsInterval r = false := by
  unfold State.intervalOver State.running State.markPort
  cases s.timer.attribution <;> cases s.timer.current <;>
    cases (s.ports.get s.active.settings.markPort).reception <;> simp [and_assoc]

/-- When a start is early in its cycle, or late in the one that ended (R76). -/
theorem earlyStartOpen_iff (s : State) (r : StartRecord) :
    s.earlyStartOpen r = true ↔ s.timer.current.isSome = true ∧
      ((∃ c, s.timer.current = some c ∧ r.cycle = s.timer.cycleCount ∧ c.follow = .follow ∧
             c.period - c.tolerance ≤ r.offset) ∨
          (∃ e, s.timer.ended = some e ∧ r.cycle + 1#32 = s.timer.cycleCount ∧
             e.params.follow = .follow ∧ e.params.period - e.params.tolerance ≤ r.offset ∧
             ∀ a, s.timer.attribution = some a → a.onTime = false)) := by
  have hne : r.cycle + 1#32 = s.timer.cycleCount → r.cycle ≠ s.timer.cycleCount := by
    intro h h'; rw [h'] at h; simp at h
  unfold State.earlyStartOpen
  cases s.timer.current with
  | none => simp
  | some c =>
    by_cases hc : r.cycle = s.timer.cycleCount
    · have : ¬ (r.cycle + 1#32 = s.timer.cycleCount) := fun h => hne h hc
      simp [hc]
    · cases s.timer.ended <;> cases s.timer.attribution <;> simp [hc, and_assoc]

/-- When the pending advance ends (R76). -/
theorem advanceEndDue_iff (s : State) :
    s.advanceEndDue = true ↔ s.timer.state = .running ∧
       ∃ r, (s.ports.get s.active.settings.markPort).reception = some r ∧ r.start.unbroken = true ∧
         128 < r.received ∧ r.advanceEnded = false ∧ s.earlyStartOpen r.start = true := by
  unfold State.advanceEndDue State.candidateStart State.running State.markPort
  cases (s.ports.get s.active.settings.markPort).reception with
  | none => simp
  | some r =>
    by_cases h1 : s.timer.state = .running <;> cases h2 : r.start.unbroken <;>
      cases h3 : s.earlyStartOpen r.start <;> simp [h1, h2, h3]

/-- When a port's due records are to be offered (R160). -/
theorem offerDue_iff (s : State) (p : Port) :
    s.offerDue p = true ↔ s.link p = .up ∧ (s.egress.get p).mgmt.length < 4 ∧
       ∃ r ∈ s.events.queue, (r.state = .unsent ∨ r.state = .resendDue) ∧
         s.events.listeners[r.listener].port = p := by
  have hd : ∀ r : NotifRecord, r.isDue = true ↔ r.state = .unsent ∨ r.state = .resendDue := by
    intro r; unfold NotifRecord.isDue; cases r.state <;> simp
  simp only [State.offerDue, State.mgmtRoom, State.hasRoom, Bool.and_eq_true, decide_eq_true_eq,
    List.any_eq_true, hd, and_assoc]

/-- When a record's retry timer has run out (R161). -/
theorem expiredRecord_iff (s : State) (l : ListenerIx) (q : Half) (r : NotifRecord) :
    s.expiredRecord l q r = true ↔ r.listener = l ∧ r.seq = q ∧ ∃ t, r.state = .awaiting t ∧ t ≤ s.base := by
  unfold State.expiredRecord
  cases r.state <;> simp [and_assoc]

/-- When an arbiter selects (R146). -/
theorem maySelect_iff (e : Egress) :
    e.maySelect = true ↔ e.selectDue = true ∧ (e.transmitter = .idle ∨ e.transmitter = .waiting) := by
  unfold Egress.maySelect
  cases e.transmitter <;> simp

/-- When a frame on the wire is cut off (R149). -/
theorem cutDue_iff (s : State) (p : Port) :
    s.cutDue p = true ↔ (s.openGuard p).isSome = true ∧
      ∃ x, (s.egress.get p).transmitter = .sending x ∧ x.startedRunning = some true := by
  unfold State.cutDue
  cases (s.egress.get p).transmitter <;> simp

/-- When the lease has run out (R171). -/
theorem leaseDue_iff (s : State) :
    s.leaseDue = true ↔ ∃ o, s.agent.owner = some o ∧ o.expiry ≤ s.base := by
  unfold State.leaseDue
  cases s.agent.owner <;> simp

/-- When a restage completes (R123). -/
theorem restageDone_iff (s : State) :
    s.restageDone = true ↔ s.staging.state = .restaging ∧
       ∀ t, s.staging.restageEnd = some t → t ≤ s.base := by
  unfold State.restageDone
  cases s.staging.restageEnd <;> simp

/-- When the wait of RESTART ends without a completion (R177). -/
theorem restartDue_iff (s : State) :
    s.restartDue = true ↔ ∃ w, s.agent.restartWait = some w ∧ w.deadline ≤ s.base ∧
       (w.failed = true ∨ ∃ (p : Port) (f : List Byte), .response f true ∈ (s.egress.get p).mgmt) := by
  have hp : ∀ p : Port, p ∈ Port.all := by intro p; cases p <;> decide
  have hq : ∀ e : Egress, e.queuesRestart = true ↔ ∃ f, .response f true ∈ e.mgmt := by
    intro e
    simp only [Egress.queuesRestart, List.any_eq_true]
    constructor
    · rintro ⟨m, hm, h⟩
      cases m with
      | response f b => simp only at h; subst h; exact ⟨f, hm⟩
      | notification _ => simp at h
    · rintro ⟨f, hf⟩; exact ⟨_, hf, rfl⟩
  unfold State.restartDue
  cases s.agent.restartWait with
  | none => simp
  | some w => simp [List.any_eq_true, hp, hq]

/-- When a level of QUENCH_N is taken (R93). -/
theorem lineDue_iff (q : Quench) :
    q.lineDue = true ↔ q.pin ≠ q.level ∧ 2 ≤ q.pinTicks := by
  simp [Quench.lineDue]

end Sys2Proof.Machine
end

