-- ==== Sys2Proof/Laws/Readings.lean ====
section
/-! SUPPORT. The readings of a state (link, active set, stream record, running) through each update that
does not concern them, each true by rfl. -/

namespace Sys2Proof.Machine

/-! ### setPorts -/

@[simp] theorem setPorts_active (s : State) (v : PerPort PortUnit) :
    (s.setPorts v).active = s.active := rfl
@[simp] theorem setPorts_staged (s : State) (v : PerPort PortUnit) :
    (s.setPorts v).staged = s.staged := rfl
@[simp] theorem setPorts_streamRec (s : State) (v : PerPort PortUnit) (j : StreamIx) :
    (s.setPorts v).streamRec j = s.streamRec j := rfl
@[simp] theorem setPorts_running (s : State) (v : PerPort PortUnit) :
    (s.setPorts v).running = s.running := rfl

/-! ### setEgress -/

@[simp] theorem setEgress_link (s : State) (v : PerPort Egress) (q : Port) :
    (s.setEgress v).link q = s.link q := rfl
@[simp] theorem setEgress_active (s : State) (v : PerPort Egress) :
    (s.setEgress v).active = s.active := rfl
@[simp] theorem setEgress_staged (s : State) (v : PerPort Egress) :
    (s.setEgress v).staged = s.staged := rfl
@[simp] theorem setEgress_streamRec (s : State) (v : PerPort Egress) (j : StreamIx) :
    (s.setEgress v).streamRec j = s.streamRec j := rfl
@[simp] theorem setEgress_running (s : State) (v : PerPort Egress) :
    (s.setEgress v).running = s.running := rfl

/-! ### setFrames -/

@[simp] theorem setFrames_link (s : State) (v : List HeldFrame) (q : Port) :
    (s.setFrames v).link q = s.link q := rfl
@[simp] theorem setFrames_active (s : State) (v : List HeldFrame) :
    (s.setFrames v).active = s.active := rfl
@[simp] theorem setFrames_staged (s : State) (v : List HeldFrame) :
    (s.setFrames v).staged = s.staged := rfl
@[simp] theorem setFrames_streamRec (s : State) (v : List HeldFrame) (j : StreamIx) :
    (s.setFrames v).streamRec j = s.streamRec j := rfl
@[simp] theorem setFrames_running (s : State) (v : List HeldFrame) :
    (s.setFrames v).running = s.running := rfl

/-! ### setTimer -/

@[simp] theorem setTimer_link (s : State) (v : Timer) (q : Port) :
    (s.setTimer v).link q = s.link q := rfl
@[simp] theorem setTimer_active (s : State) (v : Timer) :
    (s.setTimer v).active = s.active := rfl
@[simp] theorem setTimer_staged (s : State) (v : Timer) :
    (s.setTimer v).staged = s.staged := rfl
@[simp] theorem setTimer_streamRec (s : State) (v : Timer) (j : StreamIx) :
    (s.setTimer v).streamRec j = s.streamRec j := rfl

/-! ### setStreams -/

@[simp] theorem setStreams_link (s : State) (v : Vector StreamRun 128) (q : Port) :
    (s.setStreams v).link q = s.link q := rfl
@[simp] theorem setStreams_active (s : State) (v : Vector StreamRun 128) :
    (s.setStreams v).active = s.active := rfl
@[simp] theorem setStreams_staged (s : State) (v : Vector StreamRun 128) :
    (s.setStreams v).staged = s.staged := rfl
@[simp] theorem setStreams_streamRec (s : State) (v : Vector StreamRun 128) (j : StreamIx) :
    (s.setStreams v).streamRec j = s.streamRec j := rfl
@[simp] theorem setStreams_running (s : State) (v : Vector StreamRun 128) :
    (s.setStreams v).running = s.running := rfl

/-! ### setStaging -/

@[simp] theorem setStaging_link (s : State) (v : Staging) (q : Port) :
    (s.setStaging v).link q = s.link q := rfl
@[simp] theorem setStaging_running (s : State) (v : Staging) :
    (s.setStaging v).running = s.running := rfl

/-! ### setQuench -/

@[simp] theorem setQuench_link (s : State) (v : Quench) (q : Port) :
    (s.setQuench v).link q = s.link q := rfl
@[simp] theorem setQuench_active (s : State) (v : Quench) :
    (s.setQuench v).active = s.active := rfl
@[simp] theorem setQuench_staged (s : State) (v : Quench) :
    (s.setQuench v).staged = s.staged := rfl
@[simp] theorem setQuench_streamRec (s : State) (v : Quench) (j : StreamIx) :
    (s.setQuench v).streamRec j = s.streamRec j := rfl
@[simp] theorem setQuench_running (s : State) (v : Quench) :
    (s.setQuench v).running = s.running := rfl

/-! ### setEvents -/

@[simp] theorem setEvents_link (s : State) (v : EventUnit) (q : Port) :
    (s.setEvents v).link q = s.link q := rfl
@[simp] theorem setEvents_active (s : State) (v : EventUnit) :
    (s.setEvents v).active = s.active := rfl
@[simp] theorem setEvents_staged (s : State) (v : EventUnit) :
    (s.setEvents v).staged = s.staged := rfl
@[simp] theorem setEvents_streamRec (s : State) (v : EventUnit) (j : StreamIx) :
    (s.setEvents v).streamRec j = s.streamRec j := rfl
@[simp] theorem setEvents_running (s : State) (v : EventUnit) :
    (s.setEvents v).running = s.running := rfl

/-! ### setAgent -/

@[simp] theorem setAgent_link (s : State) (v : Agent) (q : Port) :
    (s.setAgent v).link q = s.link q := rfl
@[simp] theorem setAgent_active (s : State) (v : Agent) :
    (s.setAgent v).active = s.active := rfl
@[simp] theorem setAgent_staged (s : State) (v : Agent) :
    (s.setAgent v).staged = s.staged := rfl
@[simp] theorem setAgent_streamRec (s : State) (v : Agent) (j : StreamIx) :
    (s.setAgent v).streamRec j = s.streamRec j := rfl
@[simp] theorem setAgent_running (s : State) (v : Agent) :
    (s.setAgent v).running = s.running := rfl

/-! ### setPending -/

@[simp] theorem setPending_link (s : State) (v : List Instr) (q : Port) :
    (s.setPending v).link q = s.link q := rfl
@[simp] theorem setPending_active (s : State) (v : List Instr) :
    (s.setPending v).active = s.active := rfl
@[simp] theorem setPending_staged (s : State) (v : List Instr) :
    (s.setPending v).staged = s.staged := rfl
@[simp] theorem setPending_streamRec (s : State) (v : List Instr) (j : StreamIx) :
    (s.setPending v).streamRec j = s.streamRec j := rfl
@[simp] theorem setPending_running (s : State) (v : List Instr) :
    (s.setPending v).running = s.running := rfl

/-! ### draw -/

@[simp] theorem draw_link (s : State) (n : Nat) (q : Port) :
    (s.draw n).link q = s.link q := rfl
@[simp] theorem draw_active (s : State) (n : Nat) :
    (s.draw n).active = s.active := rfl
@[simp] theorem draw_staged (s : State) (n : Nat) :
    (s.draw n).staged = s.staged := rfl
@[simp] theorem draw_streamRec (s : State) (n : Nat) (j : StreamIx) :
    (s.draw n).streamRec j = s.streamRec j := rfl
@[simp] theorem draw_running (s : State) (n : Nat) :
    (s.draw n).running = s.running := rfl

/-! ### updatePort -/

@[simp] theorem updatePort_active (s : State) (p : Port) (f : PortUnit → PortUnit) :
    (s.updatePort p f).active = s.active := rfl
@[simp] theorem updatePort_staged (s : State) (p : Port) (f : PortUnit → PortUnit) :
    (s.updatePort p f).staged = s.staged := rfl
@[simp] theorem updatePort_streamRec (s : State) (p : Port) (f : PortUnit → PortUnit) (j : StreamIx) :
    (s.updatePort p f).streamRec j = s.streamRec j := rfl
@[simp] theorem updatePort_running (s : State) (p : Port) (f : PortUnit → PortUnit) :
    (s.updatePort p f).running = s.running := rfl

/-! ### countPort -/

@[simp] theorem countPort_active (s : State) (p : Port) (f : PortCounters → PortCounters) :
    (s.countPort p f).active = s.active := rfl
@[simp] theorem countPort_staged (s : State) (p : Port) (f : PortCounters → PortCounters) :
    (s.countPort p f).staged = s.staged := rfl
@[simp] theorem countPort_streamRec (s : State) (p : Port) (f : PortCounters → PortCounters) (j : StreamIx) :
    (s.countPort p f).streamRec j = s.streamRec j := rfl
@[simp] theorem countPort_running (s : State) (p : Port) (f : PortCounters → PortCounters) :
    (s.countPort p f).running = s.running := rfl

/-! ### updateEgress -/

@[simp] theorem updateEgress_link (s : State) (p : Port) (f : Egress → Egress) (q : Port) :
    (s.updateEgress p f).link q = s.link q := rfl
@[simp] theorem updateEgress_active (s : State) (p : Port) (f : Egress → Egress) :
    (s.updateEgress p f).active = s.active := rfl
@[simp] theorem updateEgress_staged (s : State) (p : Port) (f : Egress → Egress) :
    (s.updateEgress p f).staged = s.staged := rfl
@[simp] theorem updateEgress_streamRec (s : State) (p : Port) (f : Egress → Egress) (j : StreamIx) :
    (s.updateEgress p f).streamRec j = s.streamRec j := rfl
@[simp] theorem updateEgress_running (s : State) (p : Port) (f : Egress → Egress) :
    (s.updateEgress p f).running = s.running := rfl

/-! ### updateStream -/

@[simp] theorem updateStream_link (s : State) (i : StreamIx) (f : StreamRun → StreamRun) (q : Port) :
    (s.updateStream i f).link q = s.link q := rfl
@[simp] theorem updateStream_active (s : State) (i : StreamIx) (f : StreamRun → StreamRun) :
    (s.updateStream i f).active = s.active := rfl
@[simp] theorem updateStream_staged (s : State) (i : StreamIx) (f : StreamRun → StreamRun) :
    (s.updateStream i f).staged = s.staged := rfl
@[simp] theorem updateStream_streamRec (s : State) (i : StreamIx) (f : StreamRun → StreamRun) (j : StreamIx) :
    (s.updateStream i f).streamRec j = s.streamRec j := rfl
@[simp] theorem updateStream_running (s : State) (i : StreamIx) (f : StreamRun → StreamRun) :
    (s.updateStream i f).running = s.running := rfl

/-! ### countStream -/

@[simp] theorem countStream_link (s : State) (i : StreamIx) (f : StreamCounters → StreamCounters) (q : Port) :
    (s.countStream i f).link q = s.link q := rfl
@[simp] theorem countStream_active (s : State) (i : StreamIx) (f : StreamCounters → StreamCounters) :
    (s.countStream i f).active = s.active := rfl
@[simp] theorem countStream_staged (s : State) (i : StreamIx) (f : StreamCounters → StreamCounters) :
    (s.countStream i f).staged = s.staged := rfl
@[simp] theorem countStream_streamRec (s : State) (i : StreamIx) (f : StreamCounters → StreamCounters) (j : StreamIx) :
    (s.countStream i f).streamRec j = s.streamRec j := rfl
@[simp] theorem countStream_running (s : State) (i : StreamIx) (f : StreamCounters → StreamCounters) :
    (s.countStream i f).running = s.running := rfl

/-! ### holdFrame -/

@[simp] theorem holdFrame_link (s : State) (p : Port) (b : List Byte) (q : Port) :
    (s.holdFrame p b).link q = s.link q := rfl
@[simp] theorem holdFrame_active (s : State) (p : Port) (b : List Byte) :
    (s.holdFrame p b).active = s.active := rfl
@[simp] theorem holdFrame_staged (s : State) (p : Port) (b : List Byte) :
    (s.holdFrame p b).staged = s.staged := rfl
@[simp] theorem holdFrame_streamRec (s : State) (p : Port) (b : List Byte) (j : StreamIx) :
    (s.holdFrame p b).streamRec j = s.streamRec j := rfl
@[simp] theorem holdFrame_running (s : State) (p : Port) (b : List Byte) :
    (s.holdFrame p b).running = s.running := rfl

/-! ### callSelection -/

@[simp] theorem callSelection_link (s : State) (p : Port) (q : Port) :
    (s.callSelection p).link q = s.link q := rfl
@[simp] theorem callSelection_active (s : State) (p : Port) :
    (s.callSelection p).active = s.active := rfl
@[simp] theorem callSelection_staged (s : State) (p : Port) :
    (s.callSelection p).staged = s.staged := rfl
@[simp] theorem callSelection_streamRec (s : State) (p : Port) (j : StreamIx) :
    (s.callSelection p).streamRec j = s.streamRec j := rfl
@[simp] theorem callSelection_running (s : State) (p : Port) :
    (s.callSelection p).running = s.running := rfl

/-! ### callSelections -/

@[simp] theorem callSelections_link (s : State) (q : Port) :
    s.callSelections.link q = s.link q := rfl
@[simp] theorem callSelections_active (s : State) :
    s.callSelections.active = s.active := rfl
@[simp] theorem callSelections_staged (s : State) :
    s.callSelections.staged = s.staged := rfl
@[simp] theorem callSelections_streamRec (s : State) (j : StreamIx) :
    s.callSelections.streamRec j = s.streamRec j := rfl
@[simp] theorem callSelections_running (s : State) :
    s.callSelections.running = s.running := rfl

/-! ### releaseFrames -/

@[simp] theorem releaseFrames_link (s : State) (q : Port) :
    s.releaseFrames.link q = s.link q := rfl
@[simp] theorem releaseFrames_active (s : State) :
    s.releaseFrames.active = s.active := rfl
@[simp] theorem releaseFrames_staged (s : State) :
    s.releaseFrames.staged = s.staged := rfl
@[simp] theorem releaseFrames_streamRec (s : State) (j : StreamIx) :
    s.releaseFrames.streamRec j = s.streamRec j := rfl
@[simp] theorem releaseFrames_running (s : State) :
    s.releaseFrames.running = s.running := rfl

@[simp] theorem countPort_link (s : State) (p q : Port) (f : PortCounters → PortCounters) :
    (s.countPort p f).link q = s.link q := by
  simp only [State.link, countPort_ports, perPort_get_set]
  split
  · subst q; rfl
  · rfl

@[simp] theorem updatePort_updatePort (s : State) (p : Port) (f g : PortUnit → PortUnit) :
    (s.updatePort p f).updatePort p g = s.updatePort p (fun u => g (f u)) := by
  cases p <;> rfl

end Sys2Proof.Machine
end

