-- ==== Sys2Proof/Laws/Within.lean ====
section
/-! SUPPORT. For each shared operation, one lemma that says which blocks it can touch. A proof about a
block that an operation does not touch cites the lemma's projection and unfolds nothing. -/

namespace Sys2Proof.Machine

/-! ### Footprints -/

/-- A footprint lies within another. -/
def Footprint.le (f g : Footprint) : Bool :=
  (!f.strap || g.strap) && (!f.ports || g.ports) && (!f.egress || g.egress) &&
  (!f.frames || g.frames) && (!f.timer || g.timer) && (!f.streams || g.streams) &&
  (!f.staging || g.staging) && (!f.banks || g.banks) && (!f.quench || g.quench) &&
  (!f.events || g.events) && (!f.agent || g.agent) && (!f.draws || g.draws)

theorem Within.refl (f : Footprint) (s : State) : Within f s s := by
  constructor <;> first | rfl | (intro _; first | rfl | exact ⟨rfl, rfl⟩)

theorem Within.trans {f : Footprint} {s t u : State} (h : Within f s t) (k : Within f t u) :
    Within f s u where
  base := k.base.trans h.base
  pending := k.pending.trans h.pending
  strap e := (k.strap e).trans (h.strap e)
  ports e := (k.ports e).trans (h.ports e)
  egress e := (k.egress e).trans (h.egress e)
  frames e := ⟨(k.frames e).1.trans (h.frames e).1, (k.frames e).2.trans (h.frames e).2⟩
  timer e := (k.timer e).trans (h.timer e)
  streams e := (k.streams e).trans (h.streams e)
  staging e := (k.staging e).trans (h.staging e)
  banks e := ⟨(k.banks e).1.trans (h.banks e).1, (k.banks e).2.trans (h.banks e).2⟩
  quench e := (k.quench e).trans (h.quench e)
  events e := (k.events e).trans (h.events e)
  agent e := (k.agent e).trans (h.agent e)
  draws e := (k.draws e).trans (h.draws e)

/-- A change within a footprint is within every larger one. -/
theorem Within.mono {f g : Footprint} {s t : State} (h : Within f s t) (le : f.le g = true) :
    Within g s t := by
  simp only [Footprint.le, Bool.and_eq_true, Bool.or_eq_true, Bool.not_eq_true'] at le
  obtain ⟨⟨⟨⟨⟨⟨⟨⟨⟨⟨⟨l1, l2⟩, l3⟩, l4⟩, l5⟩, l6⟩, l7⟩, l8⟩, l9⟩, l10⟩, l11⟩, l12⟩ := le
  exact
    { base := h.base, pending := h.pending
      strap := fun e => h.strap (l1.resolve_right (by simp [e]))
      ports := fun e => h.ports (l2.resolve_right (by simp [e]))
      egress := fun e => h.egress (l3.resolve_right (by simp [e]))
      frames := fun e => h.frames (l4.resolve_right (by simp [e]))
      timer := fun e => h.timer (l5.resolve_right (by simp [e]))
      streams := fun e => h.streams (l6.resolve_right (by simp [e]))
      staging := fun e => h.staging (l7.resolve_right (by simp [e]))
      banks := fun e => h.banks (l8.resolve_right (by simp [e]))
      quench := fun e => h.quench (l9.resolve_right (by simp [e]))
      events := fun e => h.events (l10.resolve_right (by simp [e]))
      agent := fun e => h.agent (l11.resolve_right (by simp [e]))
      draws := fun e => h.draws (l12.resolve_right (by simp [e])) }

/-- Two changes one after the other, each within a footprint of its own. -/
theorem Within.comp {f g k : Footprint} {s t u : State} (h : Within f s t) (h' : Within g t u)
    (l : f.le k = true) (l' : g.le k = true) : Within k s u :=
  (h.mono l).trans (h'.mono l')

/-- A list of changes, each within one footprint. -/
theorem Within.foldl {α : Type} {f : Footprint} (step : State → α → State)
    (h : ∀ t x, Within f t (step t x)) (l : List α) (s : State) : Within f s (l.foldl step s) := by
  induction l generalizing s with
  | nil => exact .refl f s
  | cons x xs ih => exact (h s x).trans (ih _)

/-! ### The updates -/

theorem setPorts_within (s : State) (v : PerPort PortUnit) :
    Within { ports := true } s (s.setPorts v) := by
  constructor <;> first | rfl | (intro h; first | rfl | exact ⟨rfl, rfl⟩ | cases h)
theorem setEgress_within (s : State) (v : PerPort Egress) :
    Within { egress := true } s (s.setEgress v) := by
  constructor <;> first | rfl | (intro h; first | rfl | exact ⟨rfl, rfl⟩ | cases h)
theorem setFrames_within (s : State) (v : List HeldFrame) :
    Within { frames := true } s (s.setFrames v) := by
  constructor <;> first | rfl | (intro h; first | rfl | exact ⟨rfl, rfl⟩ | cases h)
theorem setTimer_within (s : State) (v : Timer) : Within { timer := true } s (s.setTimer v) := by
  constructor <;> first | rfl | (intro h; first | rfl | exact ⟨rfl, rfl⟩ | cases h)
theorem setStreams_within (s : State) (v : Vector StreamRun 128) :
    Within { streams := true } s (s.setStreams v) := by
  constructor <;> first | rfl | (intro h; first | rfl | exact ⟨rfl, rfl⟩ | cases h)
theorem setStaging_within (s : State) (v : Staging) :
    Within { staging := true } s (s.setStaging v) := by
  constructor <;> first | rfl | (intro h; first | rfl | exact ⟨rfl, rfl⟩ | cases h)
theorem setQuench_within (s : State) (v : Quench) : Within { quench := true } s (s.setQuench v) := by
  constructor <;> first | rfl | (intro h; first | rfl | exact ⟨rfl, rfl⟩ | cases h)
theorem setEvents_within (s : State) (v : EventUnit) :
    Within { events := true } s (s.setEvents v) := by
  constructor <;> first | rfl | (intro h; first | rfl | exact ⟨rfl, rfl⟩ | cases h)
theorem setAgent_within (s : State) (v : Agent) : Within { agent := true } s (s.setAgent v) := by
  constructor <;> first | rfl | (intro h; first | rfl | exact ⟨rfl, rfl⟩ | cases h)
theorem draw_within (s : State) (n : Nat) : Within { draws := true } s (s.draw n) := by
  constructor <;> first | rfl | (intro h; first | rfl | exact ⟨rfl, rfl⟩ | cases h)
theorem holdFrame_within (s : State) (p : Port) (b : List Byte) :
    Within { frames := true } s (s.holdFrame p b) := by
  constructor <;> first | rfl | (intro h; first | rfl | exact ⟨rfl, rfl⟩ | cases h)
theorem setStaged_within (s : State) (b : Bank) : Within { banks := true } s (s.setStaged b) := by
  constructor <;> simp
theorem updatePort_within (s : State) (p : Port) (f : PortUnit → PortUnit) :
    Within { ports := true } s (s.updatePort p f) := setPorts_within s _
theorem countPort_within (s : State) (p : Port) (f : PortCounters → PortCounters) :
    Within { ports := true } s (s.countPort p f) := setPorts_within s _
theorem updateEgress_within (s : State) (p : Port) (f : Egress → Egress) :
    Within { egress := true } s (s.updateEgress p f) := setEgress_within s _
theorem updateStream_within (s : State) (i : StreamIx) (f : StreamRun → StreamRun) :
    Within { streams := true } s (s.updateStream i f) := setStreams_within s _
theorem countStream_within (s : State) (i : StreamIx) (f : StreamCounters → StreamCounters) :
    Within { streams := true } s (s.countStream i f) := setStreams_within s _
theorem callSelection_within (s : State) (p : Port) :
    Within { egress := true } s (s.callSelection p) := setEgress_within s _
theorem callSelections_within (s : State) : Within { egress := true } s s.callSelections :=
  setEgress_within s _
theorem releaseFrames_within (s : State) : Within { frames := true } s s.releaseFrames :=
  setFrames_within s _

/-- Two effects in either order, each within one footprint that also holds the draw. -/
theorem inEitherOrder_within {f : Footprint} {a b : State → State} (both : Bool)
    (ha : ∀ t, Within f t (a t)) (hb : ∀ t, Within f t (b t)) (hd : f.draws = true) (s : State) :
    Within f s (inEitherOrder both a b s) := by
  have hdraw : Within f s (s.draw 1) := (draw_within s 1).mono (by simp [Footprint.le, hd])
  unfold inEitherOrder
  split
  · split
    · exact hdraw.trans ((ha _).trans (hb _))
    · exact hdraw.trans ((hb _).trans (ha _))
  · exact (ha _).trans (hb _)

/-! ### The event unit -/

theorem offerNotifications_within (s : State) (p : Port) :
    Within .raising s (s.offerNotifications p) := by
  unfold State.offerNotifications
  split
  · exact (setEvents_within s _).comp (updateEgress_within _ p _) rfl rfl
  · exact .refl _ s

theorem setFlag_within (s : State) (c : EventClass) : Within { events := true } s (s.setFlag c) :=
  setEvents_within s _

theorem generate_within (s : State) (l : ListenerIx) (o : Occurrence) :
    Within .raising s (s.generate l o) := by
  unfold State.generate
  split
  · split
    · exact (setEvents_within s _).comp (offerNotifications_within _ _) rfl rfl
    · exact (setEvents_within s _).mono rfl
  · exact .refl _ s

theorem raise_within (s : State) (o : Occurrence) : Within .raising s (s.raise o) := by
  unfold State.raise
  split
  · exact (setFlag_within s _).comp (generate_within _ _ _) rfl rfl
  · exact (setFlag_within s _).mono rfl

/-! ### The quench unit -/

/-- What the quench unit's operations touch. -/
def Footprint.quenching : Footprint := { Footprint.raising with quench := true }

theorem addCause_within (s : State) (c : Cause) : Within .quenching s (s.addCause c) := by
  unfold State.addCause
  split
  · exact .refl _ s
  · split
    · split
      · exact (setQuench_within s _).mono rfl
      · exact (setQuench_within s _).comp (raise_within _ _) rfl rfl
    · exact (setQuench_within s _).mono rfl

theorem quenchFalls_within (s : State) (code : Half) : Within .quenching s (s.quenchFalls code) :=
  (setQuench_within s _).comp (raise_within _ _) rfl rfl

theorem release_within (s : State) : Within .quenching s s.release := by
  unfold State.release
  split
  · exact (setQuench_within s _).mono rfl
  · exact (setQuench_within s _).comp (quenchFalls_within _ _) rfl rfl

theorem removeCauses_within (s : State) (cs : List Cause) :
    Within .quenching s (s.removeCauses cs) := by
  unfold State.removeCauses
  dsimp only
  split
  · exact (setQuench_within s _).comp (release_within _) rfl rfl
  · exact (setQuench_within s _).mono rfl

theorem quenchCycleStart_within (s : State) : Within .quenching s s.quenchCycleStart := by
  unfold State.quenchCycleStart
  split
  · exact quenchFalls_within s _
  · split
    · exact .refl _ s
    · exact quenchFalls_within s _
  · exact .refl _ s

theorem quenchOnTimeMark_within (s : State) : Within .quenching s s.quenchOnTimeMark := by
  unfold State.quenchOnTimeMark
  split
  · exact quenchFalls_within s _
  · exact .refl _ s
  · exact .refl _ s

theorem quenchTimerStop_within (s : State) : Within .quenching s s.quenchTimerStop := by
  unfold State.quenchTimerStop
  split
  · exact quenchFalls_within s _
  · exact .refl _ s

theorem judgeLine_within (s : State) : Within .quenching s s.judgeLine := by
  unfold State.judgeLine
  split
  · exact addCause_within s _
  · split
    · exact removeCauses_within s _
    · exact .refl _ s

theorem takeLine_within (s : State) (l : LineLevel) : Within .quenching s (s.takeLine l) := by
  unfold State.takeLine
  split
  · exact .refl _ s
  · exact (setQuench_within s _).comp (judgeLine_within _) rfl rfl

theorem settleLine_within (s : State) : Within .quenching s s.settleLine := by
  unfold State.settleLine
  split
  · exact takeLine_within s _
  · exact .refl _ s

theorem pinAt_within (s : State) (l : LineLevel) : Within .quenching s (s.pinAt l) := by
  unfold State.pinAt
  split
  · exact settleLine_within s
  · exact (settleLine_within s).comp (setQuench_within _ _) rfl rfl

theorem rejudgeWait_within (s : State) : Within .quenching s s.rejudgeWait := by
  unfold State.rejudgeWait
  split
  · exact (setQuench_within s _).mono rfl
  · exact quenchFalls_within s _

theorem applyLive_within (s : State) (e : Bool) (lm : LineMode) (rm : ReleaseMode) :
    Within .quenching s (s.applyLive e lm rm) := by
  have h := (setQuench_within s { s.quench with lineEnable := e, lineMode := lm, releaseMode := rm }).comp
    (judgeLine_within _) (k := .quenching) rfl rfl
  unfold State.applyLive
  dsimp only
  split
  · exact h.trans (rejudgeWait_within _)
  · exact h

/-! ### Guards and queues -/

theorem restartFailed_within (s : State) : Within { agent := true } s s.restartFailed := by
  unfold State.restartFailed
  split
  · exact setAgent_within s _
  · exact .refl _ s

/-- What a guard cut-off touches. -/
def Footprint.cutting : Footprint := { Footprint.raising with agent := true, frames := true }

theorem cutOff_within (s : State) (p : Port) : Within .cutting s (s.cutOff p) := by
  have h1 : Within .cutting s (if (s.egress.get p).sendsRestart then s.restartFailed else s) := by
    split
    · exact (restartFailed_within s).mono rfl
    · exact .refl _ s
  exact (h1.trans ((updateEgress_within _ p _).comp (raise_within _ _) rfl rfl)).trans
    ((releaseFrames_within _).mono rfl)

theorem cutOffIfDue_within (s : State) (p : Port) : Within .cutting s (s.cutOffIfDue p) := by
  unfold State.cutOffIfDue
  split
  · exact cutOff_within s p
  · exact .refl _ s

theorem cutOffs_within (s : State) :
    Within { Footprint.cutting with draws := true } s s.cutOffs := by
  unfold State.cutOffs
  dsimp only
  split
  · exact (draw_within s 1).comp (Within.foldl _ cutOffIfDue_within _ _) rfl rfl
  · exact (Within.foldl _ cutOffIfDue_within _ _).mono rfl

/-- What an offer to a cyclic queue touches. -/
def Footprint.offering : Footprint := { Footprint.raising with ports := true }

theorem offerCyclic_within (s : State) (e : CyclicEntry) (p : Port) :
    Within .offering s (s.offerCyclic e p) := by
  unfold State.offerCyclic
  split
  · exact (updateEgress_within s p _).mono rfl
  · exact (countPort_within s p _).comp (raise_within _ _) rfl rfl

theorem offerCyclicTo_within (s : State) (e : CyclicEntry) (ps : List Port) :
    Within { Footprint.offering with draws := true } s (s.offerCyclicTo e ps) := by
  unfold State.offerCyclicTo
  split
  · exact (draw_within s 1).comp (Within.foldl _ (fun t p => offerCyclic_within t e p) _ _) rfl rfl
  · exact (Within.foldl _ (fun t p => offerCyclic_within t e p) _ _).mono rfl

theorem offerBackground_within (s : State) (ref : Nat) (p : Port) :
    Within { egress := true, ports := true } s (s.offerBackground ref p) := by
  unfold State.offerBackground
  split
  · exact (updateEgress_within s p _).mono rfl
  · exact (countPort_within s p _).mono rfl

theorem offerResponse_within (s : State) (p : Port) (f : List Byte) (b : Bool) :
    Within { egress := true, ports := true, agent := true } s (s.offerResponse p f b) := by
  unfold State.offerResponse
  dsimp only
  split
  · exact (updateEgress_within s p _).mono rfl
  · split
    · exact (countPort_within s p _).comp (restartFailed_within _) rfl rfl
    · exact (countPort_within s p _).mono rfl

/-! ### The stream table -/

/-- What the stream table's handling of frames and closes touches. -/
def Footprint.streaming : Footprint :=
  { Footprint.offering with streams := true, quench := true, draws := true }

theorem forwardReal_within (s : State) (i : StreamIx) (p : Port) (c : Phase) (ref : Nat) :
    Within { Footprint.offering with draws := true } s (s.forwardReal i p c ref) :=
  offerCyclicTo_within s _ _

theorem offerSubstitutes_within (s : State) (i : StreamIx) (p : Port) :
    Within { Footprint.offering with draws := true } s (s.offerSubstitutes i p) := by
  unfold State.offerSubstitutes
  split
  · exact offerCyclicTo_within s _ _
  · exact .refl _ s

theorem enterHeld_within (s : State) (i : StreamIx) (c : HoldCause) :
    Within { Footprint.raising with streams := true } s (s.enterHeld i c) :=
  (updateStream_within s i _).comp (raise_within _ _) rfl rfl

theorem lock_within (s : State) (i : StreamIx) (p : Port) (c : Phase) (ref : Nat) :
    Within .streaming s (s.lock i p c ref) :=
  ((updateStream_within s i _).comp (forwardReal_within _ i p c ref) (k := .streaming) rfl rfl).trans
    ((raise_within _ _).mono rfl)

theorem seek_within (s : State) (i : StreamIx) : Within .streaming s (s.seek i) :=
  (countStream_within s i _).mono rfl

theorem repeated_within (s : State) (i : StreamIx) (p : Port) (c : Phase) (ref : Nat) :
    Within .streaming s (s.repeated i p c ref) := by
  unfold State.repeated
  dsimp only
  split
  · exact (countStream_within s i _).comp (forwardReal_within _ i p c ref) rfl rfl
  · exact (countStream_within s i _).mono rfl

theorem advance_within (s : State) (i : StreamIx) (p : Port) (c : Phase) (ref : Nat) :
    Within .streaming s (s.advance i p c ref) := by
  have h := (updateStream_within s i (fun r => r.advanced (s.streamRec i) s.timer.cycleCount)).comp
    (forwardReal_within _ i p c ref) (k := .streaming) rfl rfl
  unfold State.advance
  dsimp only
  split
  · exact h.trans ((raise_within _ _).mono rfl)
  · exact h

theorem strayed_within (s : State) (i : StreamIx) (p : Port) (c : Phase) :
    Within .streaming s (s.strayed i p c) :=
  (countStream_within s i _).comp (raise_within _ _) rfl rfl

theorem stray_within (s : State) (i : StreamIx) (p : Port) (c : Phase) :
    Within .streaming s (s.stray i p c) := by
  unfold State.stray
  split
  · exact strayed_within s i p c
  · exact (strayed_within s i p c).trans ((enterHeld_within _ i _).mono rfl)
  · exact (strayed_within s i p c).trans
      ((enterHeld_within _ i _).comp (addCause_within _ _) rfl rfl)

theorem admittedFrame_within (s : State) (i : StreamIx) (p : Port) (c : Phase) (ref : Nat) :
    Within .streaming s (s.admittedFrame i p c ref) := by
  unfold State.admittedFrame
  split
  · exact .refl _ s
  · split
    · exact lock_within s i p c ref
    · exact seek_within s i
  · split
    · exact repeated_within s i p c ref
    · split
      · exact advance_within s i p c ref
      · exact stray_within s i p c
  · exact (offerSubstitutes_within s i p).mono rfl

theorem stallStream_within (s : State) (i : StreamIx) (p : Port) :
    Within .streaming s (s.stallStream i p) := by
  have h := (raise_within s (occStall i p s.streams[i].absenceRun)).comp (enterHeld_within _ i .stall)
    (k := .streaming) rfl rfl
  unfold State.stallStream
  dsimp only
  split
  · exact h
  · exact h.trans ((addCause_within _ _).mono rfl)

theorem absentStream_within (s : State) (i : StreamIx) (p : Port) :
    Within .streaming s (s.absentStream i p) := by
  have h : Within .streaming s
      (if (s.streamRec i).fill then (s.updateStream i StreamRun.absent).offerSubstitutes i p
        else s.updateStream i StreamRun.absent) := by
    split
    · exact (updateStream_within s i _).comp (offerSubstitutes_within _ i p) rfl rfl
    · exact (updateStream_within s i _).mono rfl
  unfold State.absentStream
  dsimp only
  split
  · exact h.trans (stallStream_within _ i p)
  · exact h

theorem examineStream_within (s : State) (w : WindowIx) (i : StreamIx) :
    Within .streaming s (s.examineStream w i) := by
  unfold State.examineStream
  split
  · split
    · exact (updateStream_within s i _).mono rfl
    · exact absentStream_within s i _
  · exact .refl _ s

theorem examineWindow_within (s : State) (w : WindowIx) : Within .streaming s (s.examineWindow w) :=
  Within.foldl _ (fun t i => examineStream_within t w i) _ s

theorem zeroAdmitted_within (s : State) : Within { streams := true } s s.zeroAdmitted :=
  setStreams_within s _

/-! ### The staging controller -/

/-- What the staging controller's apply and withdrawal touch. -/
def Footprint.committing : Footprint := { Footprint.raising with staging := true, streams := true }

theorem beginRestage_within (s : State) (w : RestageReason) :
    Within { staging := true } s (s.beginRestage w) := by
  unfold State.beginRestage
  split
  · exact .refl _ s
  · exact setStaging_within s _
  · exact setStaging_within s _

theorem applyCommit_within (s : State) : Within .committing s s.applyCommit := by
  have h1 : Within .committing s s.swapBanks := (setStaging_within s _).mono rfl
  have h2 : Within .committing s s.swapBanks.reseatDirty := h1.trans ((setStreams_within _ _).mono rfl)
  have h3 : Within .committing s s.swapBanks.reseatDirty.dropCommit :=
    h2.trans ((setStaging_within _ _).mono rfl)
  exact ((h3.trans ((raise_within _ _).mono rfl)).trans ((beginRestage_within _ _).mono rfl)).trans
    ((callSelections_within _).mono rfl)

theorem withdrawCommit_within (s : State) (code : Half) :
    Within { Footprint.raising with staging := true } s (s.withdrawCommit code) :=
  ((setStaging_within s _).comp (raise_within _ _) (k := { Footprint.raising with staging := true })
    rfl rfl).trans ((callSelections_within _).mono rfl)

theorem stagingCycleStart_within (s : State) : Within .committing s s.stagingCycleStart := by
  unfold State.stagingCycleStart
  split
  · exact applyCommit_within s
  · exact .refl _ s

theorem stagingTimerStop_within (s : State) : Within .committing s s.stagingTimerStop := by
  unfold State.stagingTimerStop
  split
  · split
    · split
      · exact applyCommit_within s
      · exact (withdrawCommit_within s _).mono rfl
    · exact .refl _ s
  · exact .refl _ s
  · exact .refl _ s

theorem stagingLeaseExpiry_within (s : State) (a : StationAddr) :
    Within { Footprint.raising with staging := true } s (s.stagingLeaseExpiry a) := by
  unfold State.stagingLeaseExpiry
  split
  · exact (beginRestage_within s _).mono rfl
  · split
    · split
      · exact (withdrawCommit_within s _).trans ((beginRestage_within _ _).mono rfl)
      · exact .refl _ s
    · exact .refl _ s
  · exact .refl _ s

theorem stagingYield_within (s : State) : Within { staging := true } s s.stagingYield := by
  unfold State.stagingYield
  split
  · exact setStaging_within s _
  · exact .refl _ s

theorem markDirty_within (s : State) (test : StreamIx → Bool) :
    Within { staging := true } s (s.markDirty test) := setStaging_within s _

/-! ### The cycle timer -/

/-- What mark faults and on-time marks touch. -/
def Footprint.marking : Footprint := { Footprint.quenching with timer := true }

theorem markFault_within (s : State) (code : Half) : Within .marking s (s.markFault code) := by
  have h := (setTimer_within s { s.timer with faultCount := satInc s.timer.faultCount }).comp
    (raise_within _ (occMarkFault s.markPort code)) (k := .marking) rfl rfl
  unfold State.markFault
  dsimp only
  split
  · exact h.trans ((raise_within _ _).comp (addCause_within _ _) rfl rfl)
  · exact h

theorem closeInterval_within (s : State) : Within .marking s s.closeInterval := by
  unfold State.closeInterval
  split
  · dsimp only
    split
    · exact (setTimer_within s _).mono rfl
    · exact (setTimer_within s _).comp (markFault_within _ _) rfl rfl
  · exact .refl _ s

theorem closeIntervalIfOver_within (s : State) : Within .marking s s.closeIntervalIfOver := by
  unfold State.closeIntervalIfOver
  split
  · exact closeInterval_within s
  · exact .refl _ s

theorem carryInterval_within (s : State) :
    Within { Footprint.marking with ports := true } s s.carryInterval := by
  unfold State.carryInterval
  split
  · exact (updatePort_within s _ _).mono rfl
  · split
    · split
      · exact (closeInterval_within s).mono rfl
      · exact .refl _ s
    · exact .refl _ s

theorem closeHeldInterval_within (s : State) (r : Option Reception) :
    Within .marking s (s.closeHeldInterval r) := by
  unfold State.closeHeldInterval
  split
  · split
    · exact markFault_within s _
    · exact .refl _ s
  · exact .refl _ s

theorem endHolds_within (before after : State) (p : Port) (r : Option Reception) :
    Within .marking after (before.endHolds after p r) := by
  unfold State.endHolds
  dsimp only
  split
  · exact (closeHeldInterval_within after r).trans (closeIntervalIfOver_within _)
  · exact closeHeldInterval_within after r

theorem noteClose_within (s : State) (w : WindowIx) : Within { timer := true } s (s.noteClose w) :=
  setTimer_within s _

/-- What the closes of windows touch. -/
def Footprint.closing : Footprint := { Footprint.streaming with timer := true }

theorem takeClose_within (s : State) (w : WindowIx) : Within .closing s (s.takeClose w) := by
  unfold State.takeClose
  split
  · exact (noteClose_within s w).comp (examineWindow_within _ w) rfl rfl
  · exact (noteClose_within s w).comp (callSelection_within _ _) rfl rfl

theorem beginCycle_within (s : State) (b : Bool) : Within { timer := true } s (s.beginCycle b) :=
  setTimer_within s _

/-- What a cycle start touches. -/
def Footprint.cycling : Footprint :=
  { Footprint.committing with
    timer := true, quench := true, agent := true, frames := true, draws := true }

theorem handCycleStart_within (s : State) (b : Bool) : Within .cycling s (s.handCycleStart b) := by
  have h : Within .cycling s (s.stagingCycleStart.beginCycle b).zeroAdmitted :=
    ((stagingCycleStart_within s).comp (beginCycle_within _ b) (k := .cycling) rfl rfl).trans
      ((zeroAdmitted_within _).mono rfl)
  exact (h.trans (inEitherOrder_within _ (fun t => (quenchCycleStart_within t).mono rfl)
    (fun t => (cutOffs_within t).mono rfl) rfl _)).trans ((callSelections_within _).mono rfl)

theorem periodMatch_within (s : State) :
    Within { Footprint.cycling with ports := true } s s.periodMatch :=
  ((carryInterval_within s).comp (setTimer_within _ _) (k := { Footprint.cycling with ports := true }) rfl
    rfl).trans ((handCycleStart_within _ _).mono rfl)

theorem onTimeMark_within (s : State) : Within .marking s s.onTimeMark :=
  (setTimer_within s _).comp (quenchOnTimeMark_within _) rfl rfl

theorem lateMark_within (s : State) (c : CycleParams) (o : Nat) : Within .marking s (s.lateMark c o) :=
  (setTimer_within s _).comp (onTimeMark_within _) rfl rfl

/-- What an advance of the counter touches. -/
def Footprint.advancing : Footprint := { Footprint.closing with agent := true, frames := true }

theorem advanceCounter_within (s : State) (x : Nat) : Within .advancing s (s.advanceCounter x) := by
  unfold State.advanceCounter
  dsimp only
  exact (((setTimer_within s _).comp (Within.foldl _ takeClose_within _ _) (k := .advancing) rfl
    rfl).trans ((cutOffs_within _).mono rfl)).trans ((callSelections_within _).mono rfl)

theorem earlyMark_within (s : State) (o w : Nat) : Within .advancing s (s.earlyMark o w) :=
  ((advanceCounter_within s w).comp (setTimer_within _ _) (k := .advancing) rfl rfl).trans
    ((onTimeMark_within _).mono rfl)

theorem judgeMark_within (s : State) (r : StartRecord) (len : Nat) :
    Within .advancing s (s.judgeMark r len) := by
  have hf : Within .advancing s (s.markFault 1#16) := (markFault_within s _).mono rfl
  have hr : Within .advancing s s := .refl _ s
  unfold State.judgeMark
  split
  · split
    · exact hr
    · split
      · exact hr
      · split
        · exact hf
        · split
          · split
            · exact (lateMark_within s _ _).mono rfl
            · exact hf
          · split
            · split
              · exact hr
              · split
                · exact earlyMark_within s _ _
                · exact hf
            · exact hf
  · exact hr

/-- What a cycle mark touches at the timer. -/
def Footprint.timing : Footprint := { Footprint.cycling with ports := true }

theorem startOnMark_within (s : State) (len : Nat) : Within .timing s (s.startOnMark len) := by
  have h1 := (setTimer_within s { s.timer with
    state := .running, cycleCount := 0#32, counter := wireTime len }).comp
      (handCycleStart_within _ true) (k := .timing) rfl rfl
  have h2 := h1.trans ((setTimer_within _ { (State.handCycleStart (s.setTimer { s.timer with
    state := .running, cycleCount := 0#32, counter := wireTime len }) true).timer with
      closesTaken := closesBelow (State.handCycleStart (s.setTimer { s.timer with
    state := .running, cycleCount := 0#32, counter := wireTime len }) true).active (wireTime len) }).mono
      (g := .timing) rfl)
  unfold State.startOnMark
  dsimp only
  split
  · exact h2.trans ((onTimeMark_within _).mono rfl)
  · exact h2

theorem timerTakesMark_within (s : State) (r : StartRecord) (len : Nat) :
    Within .timing s (s.timerTakesMark r len) := by
  unfold State.timerTakesMark
  split
  · exact .refl _ s
  · split
    · exact startOnMark_within s len
    · exact .refl _ s
  · exact (judgeMark_within s r len).mono rfl

theorem breakRuns_within (s : State) : Within { ports := true } s s.breakRuns := setPorts_within s _

/-- What a stop of the timer touches. -/
def Footprint.stopping : Footprint :=
  { Footprint.committing with timer := true, ports := true, quench := true, draws := true }

theorem stopTimer_within (s : State) : Within .stopping s s.stopTimer := by
  unfold State.stopTimer
  split
  · have h := (((setTimer_within s s.timer.stop).comp (breakRuns_within _) (k := .stopping) rfl
      rfl).trans ((callSelections_within _).mono rfl))
    exact h.trans (inEitherOrder_within _ (fun t => (stagingTimerStop_within t).mono rfl)
      (fun t => (quenchTimerStop_within t).mono rfl) rfl _)
  · exact (setTimer_within s _).mono rfl

end Sys2Proof.Machine
end

