-- ==== Sys2Proof/Laws/WithinAgent.lean ====
section
/-! SUPPORT. Which blocks the warm restart, the agent, the arbiter and the classifier can touch. -/

namespace Sys2Proof.Machine

/-! ### The warm restart -/

theorem restartBlocks_within (s : State) :
    Within { Footprint.wide with frames := false, banks := false, draws := false } s s.restartBlocks := by
  constructor <;> first | rfl | (intro h; first | rfl | exact ⟨rfl, rfl⟩ | cases h)

theorem warmRestart_within (s : State) : Within { Footprint.wide with banks := false } s s.warmRestart := by
  have h : Within { Footprint.wide with banks := false } s
      (s.restartBlocks.beginRestage .restart).releaseFrames :=
    ((restartBlocks_within s).comp (beginRestage_within _ _)
      (k := { Footprint.wide with banks := false }) rfl rfl).trans ((releaseFrames_within _).mono rfl)
  unfold State.warmRestart
  dsimp only
  split
  · exact h.trans (inEitherOrder_within true (fun t => (raise_within t _).mono rfl)
      (fun t => (raise_within t _).mono rfl) rfl _)
  · exact h.trans ((raise_within _ _).mono rfl)
  · exact h.trans ((raise_within _ _).mono rfl)
  · exact h

theorem settleRestart_within (s : State) :
    Within { Footprint.wide with banks := false } s s.settleRestart := by
  unfold State.settleRestart
  split
  · split
    · exact warmRestart_within s
    · exact .refl _ s
  · exact .refl _ s

/-! ### The agent -/

theorem conclude_within (s : State) (r : Request) (st : Status) (res : List Byte) (b : Bool) :
    Within .answer s (s.conclude r st res b) :=
  ((setAgent_within s _).comp (offerResponse_within _ _ _ _) (k := .answer) rfl rfl).trans
    ((draw_within _ 64).mono rfl)

theorem answerUnreadable_within (s : State) (r : Request) : Within .answer s (s.answerUnreadable r) :=
  (offerResponse_within s _ _ _).mono rfl

theorem answerFromCache_within (s : State) (r : Request) (e : CacheEntry) :
    Within .answer s (s.answerFromCache r e) :=
  (setAgent_within s _).comp (offerResponse_within _ _ _ _) rfl rfl

theorem tookRequest_within (s : State) (rest : List Request) :
    Within { agent := true } s (s.tookRequest rest) := setAgent_within s _

theorem countExecuted_within (s : State) : Within { agent := true } s s.countExecuted :=
  setAgent_within s _

theorem agentExecutes_within {f : Footprint} (s : State) (c : Instr) (k : Request → State → State)
    (hf : Footprint.answer.le f = true) (hk : ∀ r t, Within f t (k r t)) :
    Within f s (s.agentExecutes c k) := by
  have hagent : Footprint.le { agent := true } f = true := by
    revert hf; cases f; simp [Footprint.le, Footprint.answer]; tauto
  unfold State.agentExecutes
  split
  · split
    · split
      · exact ((tookRequest_within s _).mono hagent).trans ((answerUnreadable_within _ _).mono hf)
      · split
        · exact ((tookRequest_within s _).mono hagent).trans ((answerFromCache_within _ _ _).mono hf)
        · exact (((tookRequest_within s _).mono hagent).trans
            ((countExecuted_within _).mono hagent)).trans (hk _ _)
    · exact .refl f s
  · exact .refl f s
  · exact .refl f s

/-- A request's row touches what an answer touches and what its effect touches. -/
theorem execute_within {f : Footprint} (row : RequestRow) (s : State)
    (hf : Footprint.answer.le f = true) (he : ∀ r t, Within f t (row.effect r t).after) :
    Within f s (row.execute s) := by
  refine agentExecutes_within s _ _ hf (fun r t => ?_)
  unfold RequestRow.judge
  split
  · exact (conclude_within t _ _ _ _).mono hf
  · split
    · exact (conclude_within t _ _ _ _).mono hf
    · split
      · exact (conclude_within t _ _ _ _).mono hf
      · exact (he r t).trans ((conclude_within _ _ _ _ _).mono hf)

/-! ### The arbiter -/

/-- What a selection touches. -/
def Footprint.selecting : Footprint := { ports := true, egress := true, streams := true }

theorem beginSending_within (s : State) (p : Port) (x : Sent) (f : List Byte) (b : Option Bool) :
    Within { egress := true } s (s.beginSending p x f b) := updateEgress_within s p _

theorem startSubstitute_within (s : State) (p : Port) (i : StreamIx) (c : Phase) :
    Within .selecting s (s.startSubstitute p i c).1 := by
  unfold State.startSubstitute
  split <;> dsimp only
  · exact (beginSending_within s _ _ _ _).mono rfl
  · exact (countStream_within s _ _).mono rfl

theorem startCyclic_within (s : State) (p : Port) (e : CyclicEntry) :
    Within .selecting s (s.startCyclic p e).1 := by
  unfold State.startCyclic
  split
  · split
    · exact startSubstitute_within s p _ _
    · dsimp only
      exact (beginSending_within s _ _ _ _).mono rfl
  · exact startSubstitute_within s p _ _
  · dsimp only
    exact (beginSending_within s _ _ _ _).mono rfl

theorem startMgmt_within (s : State) (p : Port) (e : MgmtEntry) :
    Within .selecting s (s.startMgmt p e) := (beginSending_within s _ _ _ _).mono rfl

theorem startBackground_within (s : State) (p : Port) (ref : Nat) :
    Within .selecting s (s.startBackground p ref).1 := by
  unfold State.startBackground
  split <;> dsimp only
  · exact (countPort_within s _ _).mono rfl
  · exact (beginSending_within s _ _ _ _).mono rfl

theorem rest_within (s : State) (p : Port) : Within .selecting s (s.rest p) :=
  (updateEgress_within s p _).mono rfl

theorem selectMgmt_within (s t : State) (p : Port) (h : s.selectMgmt p = some t) :
    Within .selecting s t := by
  unfold State.selectMgmt at h
  split at h
  · split at h
    · obtain rfl := Option.some.inj h
      exact (updateEgress_within s p _).comp (startMgmt_within _ p _) rfl rfl
    · cases h
  · cases h

theorem selectRounds_within (p : Port) (n : Nat) (s : State) :
    Within .selecting s (State.selectRounds p n s) := by
  induction n generalizing s with
  | zero => exact rest_within s p
  | succ n ih =>
    unfold State.selectRounds
    split
    · next e rest _ =>
      have h := (updateEgress_within s p (fun x => { x with cyclic := rest })).comp
        (startCyclic_within _ p e) (k := .selecting) rfl rfl
      dsimp only
      split
      · exact h
      · exact h.trans (ih _)
    · split
      · exact selectMgmt_within s _ p (by assumption)
      · split
        · next ref rest _ =>
          have h := (updateEgress_within s p (fun x => { x with background := rest })).comp
            (startBackground_within _ p ref) (k := .selecting) rfl rfl
          dsimp only
          split
          · exact h
          · exact h.trans (ih _)
        · exact rest_within s p

theorem select_within (s : State) (p : Port) : Within .selecting s (s.select p) :=
  (updateEgress_within s p _).comp (selectRounds_within p _ _) rfl rfl

theorem completeSent_within (s : State) (x : Sent) :
    Within { Footprint.wide with banks := false } s (s.completeSent x) := by
  have hr : Within { Footprint.wide with banks := false } s s := .refl _ s
  unfold State.completeSent
  split
  · exact (countStream_within s _ _).mono rfl
  · split
    · exact warmRestart_within s
    · exact hr
  · exact hr
  · exact hr
  · exact hr
  · exact hr

theorem completeTransmission_within (s : State) (p : Port) (t : Transmission) :
    Within { Footprint.wide with banks := false } s (s.completeTransmission p t) :=
  (((countPort_within s p _).comp (updateEgress_within _ p _)
    (k := { Footprint.wide with banks := false }) rfl rfl).trans (completeSent_within _ _)).trans
      ((releaseFrames_within _).mono rfl)

theorem flushDown_within (s : State) (p : Port) :
    Within { ports := true, egress := true, agent := true } s (s.flushDown p) := by
  unfold State.flushDown
  dsimp only
  split
  · exact ((countPort_within s p _).comp (restartFailed_within _)
      (k := { ports := true, egress := true, agent := true }) rfl rfl).trans
        ((updateEgress_within _ p _).mono rfl)
  · exact (countPort_within s p _).comp (updateEgress_within _ p _) rfl rfl

/-! ### The classifier -/

/-- What the arrival of a frame touches before the restart's moment. -/
def Footprint.arriving : Footprint :=
  { Footprint.timing with frames := true }

theorem streamFrame_within (s : State) (i : StreamIx) (p : Port) (r : StartRecord) (f : List Byte) :
    Within .arriving s (s.streamFrame i p r f) := by
  unfold State.streamFrame
  split
  · exact (countStream_within s i _).comp (raise_within _ _) rfl rfl
  · exact (countStream_within s i _).comp (raise_within _ _) rfl rfl
  · exact ((updateStream_within s i _).comp (holdFrame_within _ p f) (k := .arriving) rfl rfl).trans
      ((admittedFrame_within _ i p _ _).mono rfl)

theorem streamData_within (s : State) (p : Port) (r : StartRecord) (f : List Byte) :
    Within .arriving s (s.streamData p r f) := by
  unfold State.streamData
  split
  · exact streamFrame_within s _ p r f
  · exact (countPort_within s p _).comp (raise_within _ _) rfl rfl

theorem intakeRequest_within (s : State) (r : Request) :
    Within { agent := true } s (s.intakeRequest r) := by
  unfold State.intakeRequest
  split <;> exact setAgent_within s _

theorem managementRequest_within (s : State) (p : Port) (f : List Byte) :
    Within .arriving s (s.managementRequest p f) := by
  unfold State.managementRequest
  split
  · exact (countPort_within s p _).comp (intakeRequest_within _ _) rfl rfl
  · exact (countPort_within s p _).comp (raise_within _ _) rfl rfl

theorem cycleMark_within (s : State) (p : Port) (r : StartRecord) (f : List Byte) :
    Within .arriving s (s.cycleMark p r f) := by
  unfold State.cycleMark
  dsimp only
  exact (((countPort_within s p _).comp (holdFrame_within _ p f) (k := .arriving) rfl rfl).trans
    ((offerCyclicTo_within _ _ _).mono rfl)).trans ((timerTakesMark_within _ r _).mono rfl)

theorem backgroundFrame_within (s : State) (p : Port) (f : List Byte) :
    Within .arriving s (s.backgroundFrame p f) := by
  unfold State.backgroundFrame
  dsimp only
  split
  · exact (countPort_within s p _).comp (countPort_within _ p _) rfl rfl
  · exact ((countPort_within s p _).comp (holdFrame_within _ p f) (k := .arriving) rfl rfl).trans
      ((Within.foldl _ (fun t q => offerBackground_within t _ q) _ _).mono rfl)

theorem goodFrame_within (s : State) (p : Port) (r : StartRecord) (f : List Byte) :
    Within .arriving s (s.goodFrame p r f) := by
  unfold State.goodFrame
  split
  · exact (countPort_within s p _).mono rfl
  · exact managementRequest_within s p f
  · exact cycleMark_within s p r f
  · exact streamData_within s p r f
  · exact backgroundFrame_within s p f

theorem receiveFrame_within (s : State) (p : Port) (r : StartRecord) (f : List Byte) :
    Within .arriving s (s.receiveFrame p r f) := by
  unfold State.receiveFrame
  split
  · exact (countPort_within s p _).mono rfl
  · split
    · exact (countPort_within s p _).mono rfl
    · split
      · exact (countPort_within s p _).mono rfl
      · exact (countPort_within s p _).comp (goodFrame_within _ p r f) rfl rfl

theorem noteAdvanceEnd_within (before after : State) :
    Within { egress := true } after (State.noteAdvanceEnd before after) := by
  unfold State.noteAdvanceEnd
  split
  · exact .refl _ after
  · exact callSelections_within after

end Sys2Proof.Machine
end

