-- ==== Sys2Proof/Laws/Events.lean ====
section
/-! SUPPORT. What raising an occurrence leaves as it was, field by field, and what it does to the flags,
the egress units and the listeners; the same for adding a cause and for a fall of QS. -/

namespace Sys2Proof.Machine

/-! ### raise -/

@[simp] theorem raise_base (s : State) (o : Occurrence) :
    (s.raise o).base = s.base := (raise_within s o).base
@[simp] theorem raise_strap (s : State) (o : Occurrence) :
    (s.raise o).strap = s.strap := (raise_within s o).strap rfl
@[simp] theorem raise_ports (s : State) (o : Occurrence) :
    (s.raise o).ports = s.ports := (raise_within s o).ports rfl
@[simp] theorem raise_frames (s : State) (o : Occurrence) :
    (s.raise o).frames = s.frames := ((raise_within s o).frames rfl).1
@[simp] theorem raise_nextFrame (s : State) (o : Occurrence) :
    (s.raise o).nextFrame = s.nextFrame := ((raise_within s o).frames rfl).2
@[simp] theorem raise_timer (s : State) (o : Occurrence) :
    (s.raise o).timer = s.timer := (raise_within s o).timer rfl
@[simp] theorem raise_streams (s : State) (o : Occurrence) :
    (s.raise o).streams = s.streams := (raise_within s o).streams rfl
@[simp] theorem raise_staging (s : State) (o : Occurrence) :
    (s.raise o).staging = s.staging := (raise_within s o).staging rfl
@[simp] theorem raise_bankA (s : State) (o : Occurrence) :
    (s.raise o).bankA = s.bankA := ((raise_within s o).banks rfl).1
@[simp] theorem raise_bankB (s : State) (o : Occurrence) :
    (s.raise o).bankB = s.bankB := ((raise_within s o).banks rfl).2
@[simp] theorem raise_quench (s : State) (o : Occurrence) :
    (s.raise o).quench = s.quench := (raise_within s o).quench rfl
@[simp] theorem raise_agent (s : State) (o : Occurrence) :
    (s.raise o).agent = s.agent := (raise_within s o).agent rfl
@[simp] theorem raise_draws (s : State) (o : Occurrence) :
    (s.raise o).draws = s.draws := (raise_within s o).draws rfl
@[simp] theorem raise_pending (s : State) (o : Occurrence) :
    (s.raise o).pending = s.pending := (raise_within s o).pending
@[simp] theorem raise_active (s : State) (o : Occurrence) :
    (s.raise o).active = s.active := by
  simp only [State.active, State.bank, raise_staging, raise_bankA, raise_bankB]
@[simp] theorem raise_staged (s : State) (o : Occurrence) :
    (s.raise o).staged = s.staged := by
  simp only [State.staged, State.bank, raise_staging, raise_bankA, raise_bankB]
@[simp] theorem raise_streamRec (s : State) (o : Occurrence) (j : StreamIx) :
    (s.raise o).streamRec j = s.streamRec j := by simp only [State.streamRec, raise_active]
@[simp] theorem raise_link (s : State) (o : Occurrence) (q : Port) :
    (s.raise o).link q = s.link q := by simp only [State.link, raise_ports]

/-! ### addCause -/

@[simp] theorem addCause_base (s : State) (c : Cause) :
    (s.addCause c).base = s.base := (addCause_within s c).base
@[simp] theorem addCause_strap (s : State) (c : Cause) :
    (s.addCause c).strap = s.strap := (addCause_within s c).strap rfl
@[simp] theorem addCause_ports (s : State) (c : Cause) :
    (s.addCause c).ports = s.ports := (addCause_within s c).ports rfl
@[simp] theorem addCause_frames (s : State) (c : Cause) :
    (s.addCause c).frames = s.frames := ((addCause_within s c).frames rfl).1
@[simp] theorem addCause_nextFrame (s : State) (c : Cause) :
    (s.addCause c).nextFrame = s.nextFrame := ((addCause_within s c).frames rfl).2
@[simp] theorem addCause_timer (s : State) (c : Cause) :
    (s.addCause c).timer = s.timer := (addCause_within s c).timer rfl
@[simp] theorem addCause_streams (s : State) (c : Cause) :
    (s.addCause c).streams = s.streams := (addCause_within s c).streams rfl
@[simp] theorem addCause_staging (s : State) (c : Cause) :
    (s.addCause c).staging = s.staging := (addCause_within s c).staging rfl
@[simp] theorem addCause_bankA (s : State) (c : Cause) :
    (s.addCause c).bankA = s.bankA := ((addCause_within s c).banks rfl).1
@[simp] theorem addCause_bankB (s : State) (c : Cause) :
    (s.addCause c).bankB = s.bankB := ((addCause_within s c).banks rfl).2
@[simp] theorem addCause_agent (s : State) (c : Cause) :
    (s.addCause c).agent = s.agent := (addCause_within s c).agent rfl
@[simp] theorem addCause_draws (s : State) (c : Cause) :
    (s.addCause c).draws = s.draws := (addCause_within s c).draws rfl
@[simp] theorem addCause_pending (s : State) (c : Cause) :
    (s.addCause c).pending = s.pending := (addCause_within s c).pending
@[simp] theorem addCause_active (s : State) (c : Cause) :
    (s.addCause c).active = s.active := by
  simp only [State.active, State.bank, addCause_staging, addCause_bankA, addCause_bankB]
@[simp] theorem addCause_staged (s : State) (c : Cause) :
    (s.addCause c).staged = s.staged := by
  simp only [State.staged, State.bank, addCause_staging, addCause_bankA, addCause_bankB]
@[simp] theorem addCause_streamRec (s : State) (c : Cause) (j : StreamIx) :
    (s.addCause c).streamRec j = s.streamRec j := by simp only [State.streamRec, addCause_active]
@[simp] theorem addCause_link (s : State) (c : Cause) (q : Port) :
    (s.addCause c).link q = s.link q := by simp only [State.link, addCause_ports]

/-! ### quenchFalls -/

@[simp] theorem quenchFalls_base (s : State) (code : Half) :
    (s.quenchFalls code).base = s.base := (quenchFalls_within s code).base
@[simp] theorem quenchFalls_strap (s : State) (code : Half) :
    (s.quenchFalls code).strap = s.strap := (quenchFalls_within s code).strap rfl
@[simp] theorem quenchFalls_ports (s : State) (code : Half) :
    (s.quenchFalls code).ports = s.ports := (quenchFalls_within s code).ports rfl
@[simp] theorem quenchFalls_frames (s : State) (code : Half) :
    (s.quenchFalls code).frames = s.frames := ((quenchFalls_within s code).frames rfl).1
@[simp] theorem quenchFalls_nextFrame (s : State) (code : Half) :
    (s.quenchFalls code).nextFrame = s.nextFrame := ((quenchFalls_within s code).frames rfl).2
@[simp] theorem quenchFalls_timer (s : State) (code : Half) :
    (s.quenchFalls code).timer = s.timer := (quenchFalls_within s code).timer rfl
@[simp] theorem quenchFalls_streams (s : State) (code : Half) :
    (s.quenchFalls code).streams = s.streams := (quenchFalls_within s code).streams rfl
@[simp] theorem quenchFalls_staging (s : State) (code : Half) :
    (s.quenchFalls code).staging = s.staging := (quenchFalls_within s code).staging rfl
@[simp] theorem quenchFalls_bankA (s : State) (code : Half) :
    (s.quenchFalls code).bankA = s.bankA := ((quenchFalls_within s code).banks rfl).1
@[simp] theorem quenchFalls_bankB (s : State) (code : Half) :
    (s.quenchFalls code).bankB = s.bankB := ((quenchFalls_within s code).banks rfl).2
@[simp] theorem quenchFalls_agent (s : State) (code : Half) :
    (s.quenchFalls code).agent = s.agent := (quenchFalls_within s code).agent rfl
@[simp] theorem quenchFalls_draws (s : State) (code : Half) :
    (s.quenchFalls code).draws = s.draws := (quenchFalls_within s code).draws rfl
@[simp] theorem quenchFalls_pending (s : State) (code : Half) :
    (s.quenchFalls code).pending = s.pending := (quenchFalls_within s code).pending
@[simp] theorem quenchFalls_active (s : State) (code : Half) :
    (s.quenchFalls code).active = s.active := by
  simp only [State.active, State.bank, quenchFalls_staging, quenchFalls_bankA, quenchFalls_bankB]
@[simp] theorem quenchFalls_staged (s : State) (code : Half) :
    (s.quenchFalls code).staged = s.staged := by
  simp only [State.staged, State.bank, quenchFalls_staging, quenchFalls_bankA, quenchFalls_bankB]
@[simp] theorem quenchFalls_streamRec (s : State) (code : Half) (j : StreamIx) :
    (s.quenchFalls code).streamRec j = s.streamRec j := by simp only [State.streamRec, quenchFalls_active]
@[simp] theorem quenchFalls_link (s : State) (code : Half) (q : Port) :
    (s.quenchFalls code).link q = s.link q := by simp only [State.link, quenchFalls_ports]

/-! ### removeCauses -/

@[simp] theorem removeCauses_base (s : State) (cs : List Cause) :
    (s.removeCauses cs).base = s.base := (removeCauses_within s cs).base
@[simp] theorem removeCauses_strap (s : State) (cs : List Cause) :
    (s.removeCauses cs).strap = s.strap := (removeCauses_within s cs).strap rfl
@[simp] theorem removeCauses_ports (s : State) (cs : List Cause) :
    (s.removeCauses cs).ports = s.ports := (removeCauses_within s cs).ports rfl
@[simp] theorem removeCauses_frames (s : State) (cs : List Cause) :
    (s.removeCauses cs).frames = s.frames := ((removeCauses_within s cs).frames rfl).1
@[simp] theorem removeCauses_nextFrame (s : State) (cs : List Cause) :
    (s.removeCauses cs).nextFrame = s.nextFrame := ((removeCauses_within s cs).frames rfl).2
@[simp] theorem removeCauses_timer (s : State) (cs : List Cause) :
    (s.removeCauses cs).timer = s.timer := (removeCauses_within s cs).timer rfl
@[simp] theorem removeCauses_streams (s : State) (cs : List Cause) :
    (s.removeCauses cs).streams = s.streams := (removeCauses_within s cs).streams rfl
@[simp] theorem removeCauses_staging (s : State) (cs : List Cause) :
    (s.removeCauses cs).staging = s.staging := (removeCauses_within s cs).staging rfl
@[simp] theorem removeCauses_bankA (s : State) (cs : List Cause) :
    (s.removeCauses cs).bankA = s.bankA := ((removeCauses_within s cs).banks rfl).1
@[simp] theorem removeCauses_bankB (s : State) (cs : List Cause) :
    (s.removeCauses cs).bankB = s.bankB := ((removeCauses_within s cs).banks rfl).2
@[simp] theorem removeCauses_agent (s : State) (cs : List Cause) :
    (s.removeCauses cs).agent = s.agent := (removeCauses_within s cs).agent rfl
@[simp] theorem removeCauses_draws (s : State) (cs : List Cause) :
    (s.removeCauses cs).draws = s.draws := (removeCauses_within s cs).draws rfl
@[simp] theorem removeCauses_pending (s : State) (cs : List Cause) :
    (s.removeCauses cs).pending = s.pending := (removeCauses_within s cs).pending
@[simp] theorem removeCauses_active (s : State) (cs : List Cause) :
    (s.removeCauses cs).active = s.active := by
  simp only [State.active, State.bank, removeCauses_staging, removeCauses_bankA, removeCauses_bankB]
@[simp] theorem removeCauses_staged (s : State) (cs : List Cause) :
    (s.removeCauses cs).staged = s.staged := by
  simp only [State.staged, State.bank, removeCauses_staging, removeCauses_bankA, removeCauses_bankB]
@[simp] theorem removeCauses_streamRec (s : State) (cs : List Cause) (j : StreamIx) :
    (s.removeCauses cs).streamRec j = s.streamRec j := by simp only [State.streamRec, removeCauses_active]
@[simp] theorem removeCauses_link (s : State) (cs : List Cause) (q : Port) :
    (s.removeCauses cs).link q = s.link q := by simp only [State.link, removeCauses_ports]

/-! ### The flags, the egress units, the classes -/

@[simp] theorem offerNotifications_flags (s : State) (p : Port) :
    (s.offerNotifications p).events.flags = s.events.flags := by
  unfold State.offerNotifications; split <;> rfl
@[simp] theorem offerNotifications_classes (s : State) (p : Port) :
    (s.offerNotifications p).events.classes = s.events.classes := by
  unfold State.offerNotifications; split <;> rfl
@[simp] theorem offerNotifications_listeners (s : State) (p : Port) :
    (s.offerNotifications p).events.listeners = s.events.listeners := by
  unfold State.offerNotifications; split <;> rfl

@[simp] theorem generate_flags (s : State) (l : ListenerIx) (o : Occurrence) :
    (s.generate l o).events.flags = s.events.flags := by
  unfold State.generate
  split
  · split
    · rw [offerNotifications_flags]; rfl
    · rfl
  · rfl
@[simp] theorem generate_classes (s : State) (l : ListenerIx) (o : Occurrence) :
    (s.generate l o).events.classes = s.events.classes := by
  unfold State.generate
  split
  · split
    · rw [offerNotifications_classes]; rfl
    · rfl
  · rfl

/-- An occurrence sets the flag of its class and no other (R153). -/
@[simp] theorem raise_flags (s : State) (o : Occurrence) :
    (s.raise o).events.flags = s.events.flags ||| (1#16 <<< o.cls.number.val) := by
  unfold State.raise
  split
  · rw [generate_flags]; rfl
  · rfl
@[simp] theorem raise_classes (s : State) (o : Occurrence) :
    (s.raise o).events.classes = s.events.classes := by
  unfold State.raise
  split
  · rw [generate_classes]; rfl
  · rfl

/-- Offers touch the management queue and the selection mark of an egress unit, nothing else of it. -/
structure SameButMgmt (e f : Egress) : Prop where
  cyclic : f.cyclic = e.cyclic
  background : f.background = e.background
  transmitter : f.transmitter = e.transmitter

theorem SameButMgmt.refl (e : Egress) : SameButMgmt e e := ⟨rfl, rfl, rfl⟩

theorem offerNotifications_egress (s : State) (p q : Port) :
    SameButMgmt (s.egress.get q) ((s.offerNotifications p).egress.get q) := by
  unfold State.offerNotifications
  split
  · simp only [updateEgress_egress, setEvents_egress, perPort_get_set]
    split
    · subst q; exact ⟨rfl, rfl, rfl⟩
    · exact .refl _
  · exact .refl _

theorem generate_egress (s : State) (l : ListenerIx) (o : Occurrence) (q : Port) :
    SameButMgmt (s.egress.get q) ((s.generate l o).egress.get q) := by
  unfold State.generate
  split
  · split
    · exact offerNotifications_egress (s.withRecord l o) _ q
    · exact .refl _
  · exact .refl _

theorem raise_egress (s : State) (o : Occurrence) (q : Port) :
    SameButMgmt (s.egress.get q) ((s.raise o).egress.get q) := by
  unfold State.raise
  split
  · exact generate_egress (s.setFlag o.cls) _ o q
  · exact .refl _

@[simp] theorem raise_cyclic (s : State) (o : Occurrence) (q : Port) :
    ((s.raise o).egress.get q).cyclic = (s.egress.get q).cyclic := (raise_egress s o q).cyclic
@[simp] theorem raise_background (s : State) (o : Occurrence) (q : Port) :
    ((s.raise o).egress.get q).background = (s.egress.get q).background := (raise_egress s o q).background
@[simp] theorem raise_transmitter (s : State) (o : Occurrence) (q : Port) :
    ((s.raise o).egress.get q).transmitter = (s.egress.get q).transmitter :=
  (raise_egress s o q).transmitter

end Sys2Proof.Machine
end

