-- ==== Sys2Proof/Laws/Formats.lean ====
section
/-! SUPPORT. The frame check sequence stands at the end of a frame and matches there; which bytes each reader
of a record accepts. -/

namespace Sys2Proof.Machine

/-! ### The frame check sequence -/

@[simp] theorem fcs_length (l : List Byte) : (fcs l).length = 4 := rfl

@[simp] theorem withFcs_length (l : List Byte) : (withFcs l).length = l.length + 4 := by
  simp [withFcs]

@[simp] theorem frameContent_append (l c : List Byte) (h : c.length = 4) : frameContent (l ++ c) = l := by
  simp [frameContent, h]

/-- A frame matches its FCS exactly when its last four bytes are the FCS of the rest. -/
theorem fcsMatches_append (l c : List Byte) (h : c.length = 4) : fcsMatches (l ++ c) = (c == fcs l) := by
  simp [fcsMatches, h]

@[simp] theorem fcsMatches_withFcs (l : List Byte) : fcsMatches (withFcs l) = true := by
  unfold withFcs
  rw [fcsMatches_append _ _ (fcs_length l)]
  simp

/-- A bit of a byte sent is the coefficient it stands for. -/
theorem fcsSentByte_bit (reg : BitVec 32) (top k : Nat) (h : k < 8) :
    (fcsSentByte reg top).getLsbD k = reg.getLsbD (top - k) := by
  have all : ∀ b0 b1 b2 b3 b4 b5 b6 b7 : Bool, ∀ i : Fin 8,
      ([(0, b0), (1, b1), (2, b2), (3, b3), (4, b4), (5, b5), (6, b6), (7, b7)].foldl
        (fun (acc : Byte) (x : Nat × Bool) => if x.2 then acc ||| (1#8 <<< x.1) else acc)
        0#8).getLsbD i.val =
      [b0, b1, b2, b3, b4, b5, b6, b7][i.val] := by decide +kernel
  have here := all (reg.getLsbD (top - 0)) (reg.getLsbD (top - 1)) (reg.getLsbD (top - 2))
    (reg.getLsbD (top - 3)) (reg.getLsbD (top - 4)) (reg.getLsbD (top - 5)) (reg.getLsbD (top - 6))
    (reg.getLsbD (top - 7)) ⟨k, h⟩
  refine Eq.trans here ?_
  match k, h with
  | 0, _ | 1, _ | 2, _ | 3, _ | 4, _ | 5, _ | 6, _ | 7, _ => rfl

/-! ### What the readers accept (R181) -/

theorem natAt_one (a : List Byte) (k : Nat) : natAt a k 1 = (byteAt a k).toNat := by simp [natAt]

theorem readYesNo_isSome (b : Byte) : (readYesNo b).isSome = true ↔ b.toNat ≤ 1 := by
  unfold readYesNo; revert b; decide +kernel

theorem readFollow_isSome (b : Byte) : (readFollow b).isSome = true ↔ b.toNat ≤ 1 := by
  unfold readFollow; revert b; decide +kernel

theorem readRepeat_isSome (b : Byte) : (readRepeat b).isSome = true ↔ b.toNat ≤ 1 := by
  unfold readRepeat; revert b; decide +kernel

theorem readStray_isSome (b : Byte) : (readStray b).isSome = true ↔ b.toNat ≤ 2 := by
  unfold readStray; revert b; decide +kernel

theorem readStall_isSome (b : Byte) : (readStall b).isSome = true ↔ b.toNat ≤ 1 := by
  unfold readStall; revert b; decide +kernel

theorem readPort_isSome (b : Byte) : (readPort b).isSome = true ↔ b.toNat ≤ 3 := by
  unfold readPort; revert b; decide +kernel

theorem readMask_isSome (b : Byte) : (readMask b).isSome = true ↔ b.toNat ≤ 15 := by
  unfold readMask; revert b; decide +kernel

theorem readTemplateIx_isSome (b : Byte) :
    (readTemplateIx b).isSome = true ↔ b.toNat ≤ 31 ∨ b.toNat = 255 := by
  unfold readTemplateIx; revert b; decide +kernel

theorem readRange_isSome (lo hi n : Nat) : (readRange lo hi n).isSome = true ↔ lo ≤ n ∧ n ≤ hi := by
  unfold readRange; split <;> simp_all

theorem readIndex_isSome (n i : Nat) : (readIndex n i).isSome = true ↔ i < n := by
  unfold readIndex; split <;> simp_all

/-- A reader followed by another accepts where both do. -/
theorem bind_isSome {α β : Type} (o : Option α) (f : α → Option β) :
    (o >>= f).isSome = true ↔ ∃ x, o = some x ∧ (f x).isSome = true := by
  cases o <;> simp

/-- One record out of its ranges makes the run out of range. -/
theorem readMany_none {α : Type} (read : List Byte → Option α) (size : Nat) {n k : Nat} {a : List Byte}
    (lt : k < n) (h : read ((a.drop (size * k)).take size) = none) : readMany read size n a = none := by
  induction n generalizing a k with
  | zero => omega
  | succ n ih =>
    unfold readMany
    cases k with
    | zero => simp only [Nat.mul_zero, List.drop_zero] at h; simp [h]
    | succ k =>
      have rest : readMany read size n (a.drop size) = none := by
        apply ih (k := k) (by omega)
        rw [List.drop_drop]
        rw [Nat.mul_succ, Nat.add_comm] at h
        exact h
      simp [rest]

/-- One item that is none makes the list none. -/
theorem readAll_none {α β : Type} (read : α → Option β) {l : List α} {x : α} (mem : x ∈ l)
    (h : read x = none) : readAll read l = none := by
  induction l with
  | nil => simp at mem
  | cons a l ih =>
    unfold readAll
    rcases List.mem_cons.mp mem with rfl | mem
    · simp [h]
    · simp [ih mem]

/-! ### Which value each reader gives -/

/-- A list of values is read exactly where each of its elements is read as the value of its place. -/
theorem readAll_eq_some {α β : Type} (read : α → Option β) : ∀ (l : List α) (cs : List β),
    readAll read l = some cs ↔ cs.length = l.length ∧
      ∀ (k : Nat) (x : α) (c : β), l[k]? = some x → cs[k]? = some c → read x = some c
  | [], cs => by cases cs <;> simp [readAll]
  | x :: xs, [] => by
    unfold readAll
    cases read x <;> cases readAll read xs <;> simp
  | x :: xs, c :: cs => by
    have rest := readAll_eq_some read xs cs
    constructor
    · intro h
      unfold readAll at h
      cases hx : read x with
      | none => rw [hx] at h; cases h
      | some y =>
        cases hs : readAll read xs with
        | none => rw [hx, hs] at h; cases h
        | some ys =>
          rw [hx, hs] at h
          injection h with h
          injection h with head tail
          subst head tail
          obtain ⟨len, each⟩ := rest.1 hs
          refine ⟨by rw [List.length_cons, List.length_cons, len], ?_⟩
          intro k a b ha hb
          cases k with
          | zero => cases ha; cases hb; exact hx
          | succ k => exact each k a b ha hb
    · rintro ⟨len, each⟩
      have head : read x = some c := each 0 x c rfl rfl
      have tail : readAll read xs = some cs := rest.2 ⟨Nat.succ.inj len, fun k a b => each (k + 1) a b⟩
      unfold readAll
      rw [head, tail]
      rfl

theorem readYesNo_eq_some (b : Byte) (x : Bool) : readYesNo b = some x ↔ b = yesNo x := by
  constructor
  · unfold readYesNo
    repeat' split
    all_goals rintro ⟨⟩
    all_goals assumption
  · rintro rfl; cases x <;> rfl

theorem readPort_eq_some (b : Byte) (p : Port) : readPort b = some p ↔ b = BitVec.ofNat 8 p.index := by
  revert b; cases p <;> decide +kernel

theorem readMask_eq_some (b : Byte) (x : PortSet) : readMask b = some x ↔ b = x.setWidth 8 := by
  constructor
  · unfold readMask
    split <;> rintro ⟨⟩
    apply BitVec.eq_of_toNat_eq
    simp only [BitVec.toNat_setWidth]
    omega
  · rintro rfl
    revert x; decide +kernel

theorem readLineMode_eq_some (b : Byte) (x : LineMode) : readLineMode b = some x ↔ b = lineModeByte x := by
  constructor
  · unfold readLineMode
    repeat' split
    all_goals rintro ⟨⟩
    all_goals assumption
  · rintro rfl; cases x <;> rfl

theorem readReleaseMode_eq_some (b : Byte) (x : ReleaseMode) :
    readReleaseMode b = some x ↔ b = releaseModeByte x := by
  constructor
  · unfold readReleaseMode
    repeat' split
    all_goals rintro ⟨⟩
    all_goals assumption
  · rintro rfl; cases x <;> rfl

theorem readCause_eq_some (b : Byte) (x : Cause) :
    readCause b = some x ↔ b = BitVec.ofNat 8 (causeCode x) := by
  constructor
  · unfold readCause
    repeat' split
    all_goals rintro ⟨⟩
    all_goals assumption
  · rintro rfl; cases x <;> rfl

theorem readClass_eq_some (b : Byte) (x : EventClass) :
    readClass b = some x ↔ b = BitVec.ofNat 8 x.number.val := by
  constructor
  · intro h
    have lt : b.toNat < EventClass.all.length := (List.getElem?_eq_some_iff.1 h).1
    have codes : ∀ k : Fin 16, EventClass.all[k.val]?.map (fun c => BitVec.ofNat 8 c.number.val) =
        some (BitVec.ofNat 8 k.val) := by decide
    have := codes ⟨b.toNat, lt⟩
    unfold readClass at h
    rw [h] at this
    exact ((Option.some.inj this).trans (by simp)).symm
  · rintro rfl; cases x <;> rfl

theorem readRange_eq_some (lo hi n m : Nat) : readRange lo hi n = some m ↔ m = n ∧ lo ≤ n ∧ n ≤ hi := by
  unfold readRange
  split <;> rename_i h
  · exact ⟨fun e => ⟨(Option.some.inj e).symm, h⟩, fun e => congrArg some e.1.symm⟩
  · exact ⟨nofun, fun e => absurd e.2 h⟩

end Sys2Proof.Machine
end

