-- ==== Sys2Proof/Laws/Frames.lean ====
section
/-! SUPPORT. The store of received frames: a held frame reads back as it came, and release takes nothing that
an entry or a transmission refers to. -/

namespace Sys2Proof.Machine

/-- A frame just held reads back byte for byte. -/
@[simp] theorem holdFrame_frameBytes_new (s : State) (p : Port) (b : List Byte) :
    (s.holdFrame p b).frameBytes s.nextFrame = b := by
  simp [State.frameBytes]

/-- Holding a frame changes no other frame. -/
theorem holdFrame_frameBytes_old (s : State) (p : Port) (b : List Byte) {ref : Nat}
    (h : ref ≠ s.nextFrame) : (s.holdFrame p b).frameBytes ref = s.frameBytes ref := by
  have e : (s.nextFrame == ref) = false := by simpa using fun k => h k.symm
  simp [State.frameBytes, e]

theorem port_mem_all (p : Port) : p ∈ Port.all := by cases p <;> decide

theorem find_filter_of_imp {α : Type} {f g : α → Bool} (h : ∀ x, g x = true → f x = true) (l : List α) :
    (l.filter f).find? g = l.find? g := by
  induction l with
  | nil => rfl
  | cons a l ih =>
    by_cases hf : f a = true
    · rw [List.filter_cons_of_pos hf, List.find?_cons, List.find?_cons, ih]
    · have hg : g a = false := by
        cases hga : g a with
        | false => rfl
        | true => exact absurd (h a hga) hf
      rw [List.filter_cons_of_neg hf, ih, List.find?_cons, hg]

/-- A frame that a port refers to is kept by the release. -/
theorem releaseFrames_frameBytes (s : State) (p : Port) {ref : Nat}
    (h : (s.egress.get p).refersTo ref = true) : s.releaseFrames.frameBytes ref = s.frameBytes ref := by
  unfold State.releaseFrames State.frameBytes
  rw [setFrames_frames, find_filter_of_imp]
  intro f e
  rw [beq_iff_eq] at e
  exact List.any_eq_true.mpr ⟨p, port_mem_all p, by rw [e]; exact h⟩

end Sys2Proof.Machine
end

