-- ==== Sys2Proof/Laws/Quench.lean ====
section
/-! SUPPORT. What each shared operation of the quench unit does to the quench record, in one equation each. -/

namespace Sys2Proof.Machine

@[simp] theorem causeSet_has_put (x : CauseSet) (c : Cause) (b : Bool) : (x.put c b).has c = b := by
  cases c <;> rfl

theorem causeSet_put_self {x : CauseSet} {c : Cause} {b : Bool} (h : x.has c = b) : x.put c b = x := by
  subst h; cases c <;> rfl

theorem causeSet_not_empty {x : CauseSet} {c : Cause} (h : x.has c = true) : x.isEmpty = false := by
  cases c <;> simp_all [CauseSet.has, CauseSet.isEmpty]

@[simp] theorem causeSet_put_not_empty (x : CauseSet) (c : Cause) : (x.put c true).isEmpty = false :=
  causeSet_not_empty (c := c) (by simp)

/-- A removal takes the causes of its list and leaves the others (R92, R96). -/
theorem removeAll_eq (x : CauseSet) (cs : List Cause) :
    x.removeAll cs =
      { line := x.line && decide (Cause.line ∉ cs), command := x.command && decide (Cause.command ∉ cs)
        stream := x.stream && decide (Cause.stream ∉ cs), mark := x.mark && decide (Cause.mark ∉ cs)
        startup := x.startup && decide (Cause.startup ∉ cs)
        restart := x.restart && decide (Cause.restart ∉ cs) } := by
  unfold CauseSet.removeAll
  induction cs generalizing x with
  | nil => simp
  | cons c cs ih => rw [List.foldl_cons, ih]; cases c <;> simp [CauseSet.put]

theorem removeAll_has (x : CauseSet) (cs : List Cause) (c : Cause) :
    (x.removeAll cs).has c = (x.has c && decide (c ∉ cs)) := by
  rw [removeAll_eq]
  cases c <;> rfl

theorem causeSet_isEmpty_iff (x : CauseSet) :
    x.isEmpty = true ↔ x = ⟨false, false, false, false, false, false⟩ := by
  rcases x with ⟨_ | _, _ | _, _ | _, _ | _, _ | _, _ | _⟩ <;> decide

/-- While a cause is left nothing but the set changes. -/
theorem removeCauses_left {s : State} {cs : List Cause}
    (h : (s.quench.causes.removeAll cs).isEmpty = false) :
    s.removeCauses cs = s.setQuench { s.quench with causes := s.quench.causes.removeAll cs } := by
  unfold State.removeCauses
  simp [h]

/-- A removal from the empty set does nothing. -/
theorem removeCauses_empty {s : State} (cs : List Cause) (h : s.quench.causes.isEmpty = true) :
    s.removeCauses cs = s := by
  have he : s.quench.causes.removeAll cs = s.quench.causes := by
    rw [removeAll_eq, (causeSet_isEmpty_iff _).mp h]
    rfl
  unfold State.removeCauses
  simp [h, he]
  rfl

/-- The quench record after a cause is added (R92, R97). -/
theorem addCause_quench (s : State) (c : Cause) :
    (s.addCause c).quench =
      if s.quench.causes.has c then s.quench
      else if s.quench.causes.isEmpty then s.quench.withCause c
      else { s.quench with causes := s.quench.causes.put c true } := by
  unfold State.addCause
  split
  · rfl
  · split
    · split <;> simp
    · rfl

/-- Under the quench law an addition leaves QF and QS set, QUENCHED, no wait (R92, R97). -/
theorem addCause_quench_of_law {s : State} (c : Cause) (h : QuenchLaw s.quench) :
    (s.addCause c).quench = s.quench.withCause c := by
  obtain ⟨h1, h2, h3, h4, h5⟩ := h
  have set : ∀ hq : s.quench.causes.isEmpty = false,
      s.quench.qf = true ∧ s.quench.qs = true ∧ s.quench.unit = .quenched ∧ s.quench.wait = none := by
    intro hq
    have a : s.quench.qf = true := by rw [h1, hq]; rfl
    have b := h4.mpr a
    refine ⟨a, h2 a, b, ?_⟩
    cases hw : s.quench.wait with
    | none => rfl
    | some w =>
      have := h5.mp (by rw [hw]; rfl)
      rw [b] at this
      cases this
  rw [addCause_quench]
  split
  · next hc =>
    obtain ⟨a, b, c', d⟩ := set (causeSet_not_empty hc)
    unfold Quench.withCause
    rw [causeSet_put_self hc]
    revert a b c' d
    cases s.quench
    rintro rfl rfl rfl rfl
    rfl
  · split
    · rfl
    · next he =>
      obtain ⟨a, b, c', d⟩ := set (by simpa using he)
      unfold Quench.withCause
      revert a b c' d
      cases s.quench
      rintro rfl rfl rfl rfl
      rfl

/-- The quench record after a fall of QS (R102). -/
@[simp] theorem quenchFalls_quench (s : State) (code : Half) :
    (s.quenchFalls code).quench = { s.quench with qs := false, unit := .normal, wait := none } := by
  unfold State.quenchFalls
  simp

/-- The quench record after QF has become clear (R98). -/
theorem release_quench (s : State) :
    s.release.quench =
      match s.releaseRow with
      | .inl w => { s.quench with qf := false, unit := .releasing, wait := some w }
      | .inr _ => { s.quench with qf := false, qs := false, unit := .normal, wait := none } := by
  unfold State.release
  cases s.releaseRow with
  | inl w => rfl
  | inr code => exact quenchFalls_quench _ _

/-- The quench record after causes are removed (R92). -/
theorem removeCauses_quench (s : State) (cs : List Cause) :
    (s.removeCauses cs).quench =
      if !s.quench.causes.isEmpty && (s.quench.causes.removeAll cs).isEmpty then
        (s.setQuench { s.quench with causes := s.quench.causes.removeAll cs }).release.quench
      else { s.quench with causes := s.quench.causes.removeAll cs } := by
  unfold State.removeCauses
  dsimp only
  split <;> rfl

/-- The causes after a removal, whatever follows from it. -/
@[simp] theorem removeCauses_causes (s : State) (cs : List Cause) :
    (s.removeCauses cs).quench.causes = s.quench.causes.removeAll cs := by
  rw [removeCauses_quench]
  split
  · rw [release_quench]; split <;> rfl
  · rfl

@[simp] theorem addCause_causes (s : State) (c : Cause) :
    (s.addCause c).quench.causes = s.quench.causes.put c true := by
  rw [addCause_quench]
  split
  · next h => exact (causeSet_put_self h).symm
  · split <;> rfl

@[simp] theorem addCause_modes (s : State) (c : Cause) :
    (s.addCause c).quench.lineEnable = s.quench.lineEnable ∧
    (s.addCause c).quench.lineMode = s.quench.lineMode ∧
    (s.addCause c).quench.releaseMode = s.quench.releaseMode ∧
    (s.addCause c).quench.level = s.quench.level := by
  rw [addCause_quench]
  split
  · exact ⟨rfl, rfl, rfl, rfl⟩
  · split <;> exact ⟨rfl, rfl, rfl, rfl⟩

@[simp] theorem removeCauses_modes (s : State) (cs : List Cause) :
    (s.removeCauses cs).quench.lineEnable = s.quench.lineEnable ∧
    (s.removeCauses cs).quench.lineMode = s.quench.lineMode ∧
    (s.removeCauses cs).quench.releaseMode = s.quench.releaseMode ∧
    (s.removeCauses cs).quench.level = s.quench.level := by
  rw [removeCauses_quench]
  split
  · rw [release_quench]; split <;> exact ⟨rfl, rfl, rfl, rfl⟩
  · exact ⟨rfl, rfl, rfl, rfl⟩

/-- Nothing on the pin has stood two ticks untaken, so nothing is taken (R93). -/
theorem settleLine_idle {s : State} (h : s.quench.pinTicks < 2 ∨ s.quench.pin = s.quench.level) :
    s.settleLine = s := by
  refine if_neg ?_
  rcases h with h | h
  · simp [Quench.lineDue, Nat.not_le.mpr h]
  · simp [Quench.lineDue, h]

/-- A level that has stood two ticks untaken is taken (R93). -/
theorem settleLine_takes {s : State} (h : 2 ≤ s.quench.pinTicks) (hp : s.quench.pin ≠ s.quench.level) :
    s.settleLine = (s.setQuench { s.quench with level := s.quench.pin }).judgeLine := by
  unfold State.settleLine State.takeLine
  rw [if_pos (by simp [Quench.lineDue, h, hp]), if_neg (Ne.symm hp)]

/-- LINE judged leaves the line itself as it is. -/
theorem judgeLine_line (s : State) :
    s.judgeLine.quench.level = s.quench.level ∧ s.judgeLine.quench.pin = s.quench.pin ∧
    s.judgeLine.quench.pinTicks = s.quench.pinTicks := by
  unfold State.judgeLine
  split
  · rw [addCause_quench]
    split
    · exact ⟨rfl, rfl, rfl⟩
    · split <;> exact ⟨rfl, rfl, rfl⟩
  · split
    · rw [removeCauses_quench]
      split
      · rw [release_quench]; split <;> exact ⟨rfl, rfl, rfl⟩
      · exact ⟨rfl, rfl, rfl⟩
    · exact ⟨rfl, rfl, rfl⟩

/-- An added cause sets no flag but QUENCH-ON's. -/
theorem addCause_flag (s : State) (c : Cause) (n : Nat) (h : s.events.flags.getLsbD n = true) :
    (s.addCause c).events.flags.getLsbD n = true := by
  unfold State.addCause
  split
  · exact h
  · split
    · split
      · exact h
      · rw [raise_flags]; simp [h]
    · exact h

end Sys2Proof.Machine
end

