-- ==== Sys2Proof/Laws/Marks.lean ====
section
/-! SUPPORT. What a cause, a mark fault and the close of an attribution interval leave of the egress units,
the flags and a port whose link is DOWN. -/

namespace Sys2Proof.Machine

theorem SameButMgmt.trans {a b c : Egress} (h : SameButMgmt a b) (k : SameButMgmt b c) : SameButMgmt a c :=
  ⟨k.1.trans h.1, k.2.trans h.2, k.3.trans h.3⟩

theorem addCause_egress (s : State) (c : Cause) (q : Port) :
    SameButMgmt (s.egress.get q) ((s.addCause c).egress.get q) := by
  unfold State.addCause
  split
  · exact .refl _
  · split
    · split
      · exact .refl _
      · exact raise_egress (s.setQuench (s.quench.withCause c)) _ q
    · exact .refl _

theorem markFault_egress (s : State) (c : Half) (q : Port) :
    SameButMgmt (s.egress.get q) ((s.markFault c).egress.get q) := by
  have first := raise_egress (s.setTimer { s.timer with faultCount := satInc s.timer.faultCount })
    (occMarkFault s.markPort c) q
  unfold State.markFault
  dsimp only
  split
  · exact (first.trans (raise_egress _ _ q)).trans (addCause_egress _ _ q)
  · exact first

theorem raise_keeps_flag (s : State) (o : Occurrence) (n : Nat) (h : s.events.flags.getLsbD n = true) :
    (s.raise o).events.flags.getLsbD n = true := by
  rw [raise_flags, BitVec.getLsbD_or, h, Bool.true_or]

theorem markFault_keeps_flag (s : State) (c : Half) (n : Nat) (h : s.events.flags.getLsbD n = true) :
    (s.markFault c).events.flags.getLsbD n = true := by
  have first := raise_keeps_flag (s.setTimer { s.timer with faultCount := satInc s.timer.faultCount })
    (occMarkFault s.markPort c) n h
  unfold State.markFault
  dsimp only
  split
  · exact addCause_flag _ _ n (raise_keeps_flag _ _ n first)
  · exact first

theorem closeInterval_egress (s : State) (q : Port) :
    SameButMgmt (s.egress.get q) (s.closeInterval.egress.get q) := by
  unfold State.closeInterval
  split
  · next a _ =>
    dsimp only
    split
    · exact .refl _
    · exact markFault_egress (s.setTimer { s.timer with attribution := some { a with isOpen := false } }) _ q
  · exact .refl _

theorem closeInterval_keeps_flag (s : State) (n : Nat) (h : s.events.flags.getLsbD n = true) :
    s.closeInterval.events.flags.getLsbD n = true := by
  unfold State.closeInterval
  split
  · next a _ =>
    dsimp only
    split
    · exact h
    · exact markFault_keeps_flag
        (s.setTimer { s.timer with attribution := some { a with isOpen := false } }) _ n h
  · exact h

theorem closeIntervalIfOver_egress (s : State) (q : Port) :
    SameButMgmt (s.egress.get q) (s.closeIntervalIfOver.egress.get q) := by
  unfold State.closeIntervalIfOver
  split
  · exact closeInterval_egress s q
  · exact .refl _

theorem closeIntervalIfOver_keeps_flag (s : State) (n : Nat) (h : s.events.flags.getLsbD n = true) :
    s.closeIntervalIfOver.events.flags.getLsbD n = true := by
  unfold State.closeIntervalIfOver
  split
  · exact closeInterval_keeps_flag s n h
  · exact h

/-- Where the frame that leaves reception holds no interval, nothing closes (R63, R75). -/
theorem endHolds_none {before : State} {p : Port} {r : Option Reception} (after : State)
    (earlier : after.closeHeldInterval r = after) (current : before.heldCurrent p r = false) :
    before.endHolds after p r = after := by
  unfold State.endHolds
  rw [current]
  exact earlier

/-- A frame on another port than the mark port holds no interval of the current start. -/
theorem heldCurrent_other {s : State} {p : Port} (h : p ≠ s.markPort) (r : Option Reception) :
    s.heldCurrent p r = false := by
  cases r with
  | none => rfl
  | some r => simp only [State.heldCurrent, decide_eq_false h, Bool.false_and]

/-! ### A port whose link is DOWN takes no entry (R143) -/

theorem offerNotifications_down (s : State) (p q : Port) (h : s.link q = .down) :
    (s.offerNotifications p).egress.get q = s.egress.get q := by
  unfold State.offerNotifications
  split
  · next ho =>
    simp only [updateEgress_egress, setEvents_egress, perPort_get_set]
    split
    · subst q; simp [State.offerDue, State.mgmtRoom, State.hasRoom, h] at ho
    · rfl
  · rfl

theorem generate_down (s : State) (l : ListenerIx) (o : Occurrence) (q : Port) (h : s.link q = .down) :
    (s.generate l o).egress.get q = s.egress.get q := by
  unfold State.generate
  split
  · split
    · exact offerNotifications_down (s.withRecord l o) _ q h
    · rfl
  · rfl

theorem raise_down (s : State) (o : Occurrence) (q : Port) (h : s.link q = .down) :
    (s.raise o).egress.get q = s.egress.get q := by
  unfold State.raise
  split
  · exact generate_down (s.setFlag o.cls) _ o q h
  · rfl

theorem addCause_down (s : State) (c : Cause) (q : Port) (h : s.link q = .down) :
    (s.addCause c).egress.get q = s.egress.get q := by
  unfold State.addCause
  split
  · rfl
  · split
    · split
      · rfl
      · exact raise_down (s.setQuench (s.quench.withCause c)) _ q h
    · rfl

theorem markFault_down (s : State) (c : Half) (q : Port) (h : s.link q = .down) :
    (s.markFault c).egress.get q = s.egress.get q := by
  have first := raise_down (s.setTimer { s.timer with faultCount := satInc s.timer.faultCount })
    (occMarkFault s.markPort c) q h
  unfold State.markFault
  dsimp only
  split
  · rw [addCause_down _ _ q (by simpa using h), raise_down _ _ q (by simpa using h)]
    exact first
  · exact first

theorem closeInterval_down (s : State) (q : Port) (h : s.link q = .down) :
    s.closeInterval.egress.get q = s.egress.get q := by
  unfold State.closeInterval
  split
  · next a _ =>
    dsimp only
    split
    · rfl
    · exact markFault_down (s.setTimer { s.timer with attribution := some { a with isOpen := false } }) _ q h
  · rfl

theorem closeIntervalIfOver_down (s : State) (q : Port) (h : s.link q = .down) :
    s.closeIntervalIfOver.egress.get q = s.egress.get q := by
  unfold State.closeIntervalIfOver
  split
  · exact closeInterval_down s q h
  · rfl

end Sys2Proof.Machine
end

