-- ==== Sys2Proof/Laws/Offers.lean ====
section
/-! SUPPORT. Offers of records record by record, selections round by round, the first element that a test
takes. -/

namespace Sys2Proof.Machine

/-- Records at the front that are not to be offered to a port, or meet a full queue, stay as they are. -/
theorem offerRecords_skip (s : State) (p : Port) (l m : List NotifRecord) (q : List MgmtEntry)
    (h : ∀ x ∈ l,
      ¬ (x.isDue = true ∧ s.events.listeners[x.listener].port = p) ∨ 4 ≤ q.length) :
    offerRecords s p (l ++ m) q = (l ++ (offerRecords s p m q).1, (offerRecords s p m q).2) := by
  induction l with
  | nil => rfl
  | cons a l ih =>
    show offerRecords s p (a :: (l ++ m)) q = _
    conv => lhs; unfold offerRecords
    rw [if_neg, ih (fun x hx => h x (List.mem_cons_of_mem _ hx))]
    · rfl
    · simp only [Bool.and_eq_true, decide_eq_true_eq]
      rintro ⟨⟨due, port⟩, room⟩
      rcases h a List.mem_cons_self with k | k
      · exact k ⟨due, port⟩
      · omega

/-- A record that is to be offered to a port with room is offered, and the rest follows it. -/
theorem offerRecords_take (s : State) (p : Port) (r : NotifRecord) (rest : List NotifRecord)
    (q : List MgmtEntry) (due : r.isDue = true) (port : s.events.listeners[r.listener].port = p)
    (room : q.length < 4) :
    offerRecords s p (r :: rest) q =
      (s.offered r ::
        (offerRecords s p rest (q ++ [.notification (s.notificationFrame (s.offered r))])).1,
       (offerRecords s p rest (q ++ [.notification (s.notificationFrame (s.offered r))])).2) := by
  conv => lhs; unfold offerRecords
  rw [if_pos]
  rw [due, decide_eq_true port, decide_eq_true room]
  rfl

theorem offerRecords_length (s : State) (p : Port) (l : List NotifRecord) (q : List MgmtEntry) :
    (offerRecords s p l q).1.length = l.length := by
  induction l generalizing q with
  | nil => rfl
  | cons a l ih => unfold offerRecords; split <;> simp [ih]

/-- One round of a selection (R146). -/
theorem selectRounds_succ (p : Port) (n : Nat) (s : State) :
    State.selectRounds p (n + 1) s =
      match (s.egress.get p).cyclic with
      | c :: rest =>
        let out := (s.updateEgress p (fun e => { e with cyclic := rest })).startCyclic p c
        if out.2 then out.1 else State.selectRounds p n out.1
      | [] =>
        match s.selectMgmt p with
        | some t => t
        | none =>
          match s.fittingBackground p with
          | some (ref, rest) =>
            let out := (s.updateEgress p (fun e => { e with background := rest })).startBackground p ref
            if out.2 then out.1 else State.selectRounds p n out.1
          | none => s.rest p := rfl

/-- What fits depends on no egress unit. -/
theorem updateEgress_fits (s : State) (p q : Port) (f : Egress → Egress) (w : Nat) :
    (s.updateEgress p f).fits q w = s.fits q w := rfl

theorem updateEgress_updateEgress (s : State) (p : Port) (f g : Egress → Egress) :
    (s.updateEgress p f).updateEgress p g = s.updateEgress p (fun e => g (f e)) := by
  cases p <;> rfl

/-- Behind elements that fail the test, the first that passes it is changed. -/
theorem updateFirst_append {α : Type} {test : α → Bool} (f : α → α) {before : List α}
    (h : ∀ x ∈ before, test x = false) {x : α} (hx : test x = true) (after : List α) :
    updateFirst test f (before ++ x :: after) = before ++ f x :: after := by
  induction before with
  | nil => show (if test x then _ else _) = _; rw [if_pos hx]; rfl
  | cons a l ih =>
    show (if test a then _ else _) = _
    rw [h a List.mem_cons_self, if_neg Bool.false_ne_true]
    exact congrArg (a :: ·) (ih (fun y hy => h y (List.mem_cons_of_mem _ hy)))

@[simp] theorem updateFirst_length {α : Type} (test : α → Bool) (f : α → α) (l : List α) :
    (updateFirst test f l).length = l.length := by
  induction l with
  | nil => rfl
  | cons a l ih => unfold updateFirst; split <;> simp [ih]

end Sys2Proof.Machine
end

