-- ==== Sys2Proof/Laws/Orders.lean ====
section
/-! SUPPORT. Lists in an order: an arrangement is a permutation, the windows that an advance passes come in
ascending order of close offset, the least number of a list, and the GUARD windows of a port. -/

namespace Sys2Proof.Machine

/-! ### Arrangements (log 14) -/

theorem perm_eraseIdx {α : Type} : ∀ {l : List α} {n : Nat} {x : α}, l[n]? = some x →
    (x :: l.eraseIdx n).Perm l
  | [], n, x, h => by simp at h
  | a :: l, 0, x, h => by
    simp only [List.getElem?_cons_zero, Option.some.injEq] at h
    subst h
    exact .refl _
  | a :: l, n + 1, x, h => by
    simp only [List.getElem?_cons_succ] at h
    simp only [List.eraseIdx_cons_succ]
    exact (List.Perm.swap a x _).trans (.cons a (perm_eraseIdx h))

theorem arrangeFuel_perm {α : Type} (fuel k : Nat) (l : List α) : (arrangeFuel fuel k l).Perm l := by
  induction fuel generalizing k l with
  | zero => exact .refl _
  | succ n ih =>
    unfold arrangeFuel
    split
    · exact .refl _
    · next x h => exact (List.Perm.cons x (ih _ _)).trans (perm_eraseIdx h)

/-- Every arrangement of a list holds what the list holds. -/
theorem arrange_perm {α : Type} (k : Nat) (l : List α) : (arrange k l).Perm l := arrangeFuel_perm _ _ _

/-! ### Windows in ascending order of close offset (R73) -/

/-- One window closes no later than another. -/
def closesNoLater (b : Bank) (v w : WindowIx) : Prop := b.windows[v].closeOff ≤ b.windows[w].closeOff

theorem insertByClose_perm (b : Bank) (w : WindowIx) (l : List WindowIx) :
    (insertByClose b w l).Perm (w :: l) := by
  induction l with
  | nil => exact .refl _
  | cons v vs ih =>
    unfold insertByClose
    split
    · exact .refl _
    · exact (List.Perm.cons v ih).trans (.swap w v vs)

theorem insertByClose_sorted (b : Bank) (w : WindowIx) {l : List WindowIx}
    (h : l.Pairwise (closesNoLater b)) : (insertByClose b w l).Pairwise (closesNoLater b) := by
  induction l with
  | nil => exact List.pairwise_singleton _ _
  | cons v vs ih =>
    obtain ⟨first, rest⟩ := List.pairwise_cons.mp h
    unfold insertByClose
    split
    · next lt =>
      refine List.pairwise_cons.mpr ⟨fun u hu => ?_, h⟩
      rcases List.mem_cons.mp hu with rfl | hu
      · exact Nat.le_of_lt lt
      · exact Nat.le_trans (Nat.le_of_lt lt) (first u hu)
    · next ge =>
      refine List.pairwise_cons.mpr ⟨fun u hu => ?_, ih rest⟩
      rcases List.mem_cons.mp ((insertByClose_perm b w vs).mem_iff.mp hu) with rfl | hu
      · exact Nat.le_of_not_lt ge
      · exact first u hu

theorem sortByClose_fold (b : Bank) (ws acc : List WindowIx) (h : acc.Pairwise (closesNoLater b)) :
    (ws.foldl (fun l w => insertByClose b w l) acc).Perm (ws ++ acc) ∧
      (ws.foldl (fun l w => insertByClose b w l) acc).Pairwise (closesNoLater b) := by
  induction ws generalizing acc with
  | nil => exact ⟨.refl _, h⟩
  | cons w ws ih =>
    obtain ⟨perm, sorted⟩ := ih (insertByClose b w acc) (insertByClose_sorted b w h)
    refine ⟨perm.trans ?_, sorted⟩
    exact ((insertByClose_perm b w acc).append_left ws).trans List.perm_middle

/-- The sorted windows are the windows given. -/
theorem sortByClose_perm (b : Bank) (ws : List WindowIx) : (sortByClose b ws).Perm ws := by
  have h := (sortByClose_fold b ws [] List.Pairwise.nil).1
  rwa [List.append_nil] at h

/-- The sorted windows stand in ascending order of close offset. -/
theorem sortByClose_sorted (b : Bank) (ws : List WindowIx) :
    (sortByClose b ws).Pairwise (closesNoLater b) :=
  (sortByClose_fold b ws [] List.Pairwise.nil).2

/-! ### The least number of a list -/

theorem leastOf_none {l : List Nat} : leastOf l = none ↔ l = [] := by
  cases l with
  | nil => simp [leastOf]
  | cons x xs => simp only [leastOf]; split <;> simp

theorem leastOf_some {l : List Nat} {x : Nat} (h : leastOf l = some x) : x ∈ l ∧ ∀ y ∈ l, x ≤ y := by
  induction l generalizing x with
  | nil => simp [leastOf] at h
  | cons a l ih =>
    simp only [leastOf] at h
    split at h
    · next e =>
      simp only [Option.some.injEq] at h
      subst h
      rw [leastOf_none.mp e]
      simp
    · next y e =>
      simp only [Option.some.injEq] at h
      obtain ⟨mem, le⟩ := ih e
      subst h
      refine ⟨?_, fun z hz => ?_⟩
      · rcases Nat.le_total a y with c | c
        · rw [Nat.min_eq_left c]; exact List.mem_cons_self
        · rw [Nat.min_eq_right c]; exact List.mem_cons_of_mem _ mem
      · rcases List.mem_cons.mp hz with rfl | hz
        · exact Nat.min_le_left _ _
        · exact Nat.le_trans (Nat.min_le_right _ _) (le z hz)

/-- A number of the list that no other is below is the least. -/
theorem leastOf_eq {l : List Nat} {x : Nat} (mem : x ∈ l) (le : ∀ y ∈ l, x ≤ y) : leastOf l = some x := by
  cases h : leastOf l with
  | none => rw [leastOf_none.mp h] at mem; simp at mem
  | some y =>
    obtain ⟨my, ly⟩ := leastOf_some h
    rw [Nat.le_antisymm (le y my) (ly x mem)]

/-! ### The GUARD windows of a port (R60) -/

theorem mem_guardWindows {b : Bank} {p : Port} {w : WindowRec} :
    w ∈ guardWindows b p ↔
      ∃ v : WindowIx, b.windows[v] = w ∧ w.valid = true ∧ w.kind = .guard ∧ w.port = p := by
  unfold guardWindows tableList
  simp only [List.mem_filter, Bool.and_eq_true, decide_eq_true_eq]
  constructor
  · rintro ⟨mem, ⟨valid, kind⟩, port⟩
    have mem' : w ∈ b.windows := Vector.mem_toArray_iff _ _ |>.mp (Array.mem_def.mpr mem)
    obtain ⟨i, hi, e⟩ := Vector.mem_iff_getElem.mp mem'
    exact ⟨⟨i, hi⟩, e, valid, kind, port⟩
  · rintro ⟨v, rfl, valid, kind, port⟩
    exact ⟨Array.mem_def.mp ((Vector.mem_toArray_iff _ _).mpr (Vector.getElem_mem v.isLt)), ⟨valid, kind⟩, port⟩

end Sys2Proof.Machine
end

