-- ==== Sys2Proof/Laws/Restart.lean ====
section
/-! SUPPORT. The warm restart: every block at its restart values, then at most two occurrences. -/

namespace Sys2Proof.Machine

/-- Every block as the warm restart leaves it, before the occurrences that the restart raises. -/
def State.restartBase (s : State) : State := (s.restartBlocks.beginRestage .restart).releaseFrames

/-- The warm restart raises nothing where QS is set and no commit is pending; otherwise it raises COMMIT,
QUENCH-ON, or both in either order, over the restarted blocks. -/
theorem warmRestart_form (s : State) :
    s.warmRestart = s.restartBase ∧ s.quench.qs = true ∧ s.staging.commit.isSome = false ∨
    (s.quench.qs = false ∨ s.staging.commit.isSome = true) ∧ ∃ n,
      s.warmRestart = (s.restartBase.draw n).restartCommit ∨
      s.warmRestart = (s.restartBase.draw n).restartQuenchOn ∨
      s.warmRestart = (s.restartBase.draw n).restartCommit.restartQuenchOn ∨
      s.warmRestart = (s.restartBase.draw n).restartQuenchOn.restartCommit := by
  unfold State.warmRestart State.restartBase
  cases s.staging.commit.isSome <;> cases s.quench.qs
  · exact .inr ⟨.inl rfl, 0, .inr (.inl rfl)⟩
  · exact .inl ⟨rfl, rfl, rfl⟩
  · refine .inr ⟨.inl rfl, 1, ?_⟩
    unfold inEitherOrder
    dsimp only
    rw [if_pos rfl]
    split
    · exact .inr (.inr (.inl rfl))
    · exact .inr (.inr (.inr rfl))
  · exact .inr ⟨.inr rfl, 0, .inl rfl⟩

/-- What no occurrence changes stands after a warm restart as the restarted blocks have it. -/
theorem warmRestart_keeps {α : Type} (g : State → α) (raised : ∀ t o, g (State.raise t o) = g t)
    (drawn : ∀ t n, g (State.draw t n) = g t) (s : State) : g s.warmRestart = g s.restartBase := by
  rcases warmRestart_form s with ⟨h, _⟩ | ⟨_, n, h | h | h | h⟩ <;> rw [h] <;>
    simp only [State.restartCommit, State.restartQuenchOn, raised, drawn]

theorem restartBase_egress (s : State) : s.restartBase.egress = s.egress.map Egress.restarted :=
  (beginRestage_within s.restartBlocks .restart).egress rfl

theorem restartBase_events (s : State) : s.restartBase.events = s.events.restarted :=
  (beginRestage_within s.restartBlocks .restart).events rfl

theorem restartBase_ports (s : State) : s.restartBase.ports = s.ports.map PortUnit.restarted :=
  (beginRestage_within s.restartBlocks .restart).ports rfl

theorem restartBase_streams (s : State) :
    s.restartBase.streams = mapTable s.active.streams StreamRun.restarted :=
  (beginRestage_within s.restartBlocks .restart).streams rfl

theorem restartBase_quench (s : State) : s.restartBase.quench = s.quench.restarted :=
  (beginRestage_within s.restartBlocks .restart).quench rfl

theorem restartBase_timer (s : State) : s.restartBase.timer = s.timer.restarted :=
  (beginRestage_within s.restartBlocks .restart).timer rfl

theorem restartBase_agent (s : State) : s.restartBase.agent = s.agent.restarted :=
  (beginRestage_within s.restartBlocks .restart).agent rfl

/-- A restart wait that is not over stays. -/
theorem settleRestart_waits (s : State)
    (h : ∀ w, s.agent.restartWait = some w → w.failed = true → s.base < w.deadline) :
    s.settleRestart = s := by
  unfold State.settleRestart
  split
  · next w hw =>
    rw [if_neg]
    simp only [Bool.and_eq_true, decide_eq_true_eq, not_and, Nat.not_le]
    exact h w hw
  · rfl

end Sys2Proof.Machine
end

