-- ==== Sys2Proof/Laws/Starts.lean ====
section
/-! SUPPORT. What a cycle start hands on and what an advance of the counter does to the timer's record. -/

namespace Sys2Proof.Machine

/-- A change that leaves banks and staging controller leaves the active set. -/
theorem Within.active {f : Footprint} {s t : State} (h : Within f s t) (banks : f.banks = false)
    (staging : f.staging = false) : t.active = s.active := by
  unfold State.active State.bank
  rw [h.staging staging, (h.banks banks).1, (h.banks banks).2]

/-! ### The advance of the counter (R73) -/

/-- Closes taken one after the other join those taken before, and nothing else of the timer changes. -/
theorem takeCloses_timer (ws : List WindowIx) (s : State) :
    ∃ taken : List Nat, (∀ n, n ∈ taken ↔ n ∈ s.timer.closesTaken ∨ ∃ w ∈ ws, w.val = n) ∧
      (ws.foldl State.takeClose s).timer = { s.timer with closesTaken := taken } := by
  induction ws generalizing s with
  | nil => exact ⟨s.timer.closesTaken, by simp, rfl⟩
  | cons w ws ih =>
    have first : (s.takeClose w).timer =
        { s.timer with closesTaken := w.val :: s.timer.closesTaken } := by
      unfold State.takeClose
      split
      · exact (examineWindow_within _ _).timer rfl
      · rfl
    obtain ⟨taken, h, ht⟩ := ih (s.takeClose w)
    rw [first] at h ht
    refine ⟨taken, ?_, ht⟩
    intro n
    rw [h]
    simp
    tauto

/-- The timer after an advance: the counter, and the closes that it passes. -/
theorem advanceCounter_timer (s : State) (x : Nat) :
    ∃ taken : List Nat,
      (∀ n, n ∈ taken ↔ n ∈ s.timer.closesTaken ∨ ∃ w : WindowIx, w.val = n ∧
        s.active.windows[w].valid = true ∧ s.timer.counter < s.active.windows[w].closeOff ∧
        s.active.windows[w].closeOff ≤ x) ∧
      (s.advanceCounter x).timer = { s.timer with counter := x, closesTaken := taken } := by
  unfold State.advanceCounter
  dsimp only
  rw [callSelections_timer, (cutOffs_within _).timer rfl]
  obtain ⟨taken, h, ht⟩ := takeCloses_timer (sortByClose s.active (allWindows.filter (fun w =>
    s.active.windows[w].valid && decide (s.timer.counter < s.active.windows[w].closeOff) &&
      decide (s.active.windows[w].closeOff ≤ x) && !s.timer.closesTaken.contains w.val)))
    (s.setTimer { s.timer with counter := x })
  refine ⟨taken, ?_, ht⟩
  intro n
  have every : ∀ w : WindowIx, w ∈ allWindows := List.mem_finRange
  rw [h]
  simp only [(sortByClose_perm _ _).mem_iff, List.mem_filter, every, true_and, Bool.and_eq_true,
    decide_eq_true_eq, Bool.not_eq_true', setTimer_timer]
  constructor
  · rintro (old | ⟨w, ⟨⟨⟨valid, above⟩, below⟩, -⟩, e⟩)
    · exact .inl old
    · exact .inr ⟨w, e, valid, above, below⟩
  · rintro (old | ⟨w, e, valid, above, below⟩)
    · exact .inl old
    · by_cases old : n ∈ s.timer.closesTaken
      · exact .inl old
      · refine .inr ⟨w, ⟨⟨⟨valid, above⟩, below⟩, ?_⟩, e⟩
        rw [e]
        simpa using old

/-! ### The cycle start (R64, R119) -/

/-- A cut-off is due as timer, active set and transmitter say. -/
theorem cutDue_congr {s t : State} (p : Port) (timer : t.timer = s.timer) (active : t.active = s.active)
    (transmitter : (t.egress.get p).transmitter = (s.egress.get p).transmitter) :
    t.cutDue p = s.cutDue p := by
  unfold State.cutDue State.openGuard State.running
  rw [timer, active, transmitter]

theorem quenchCycleStart_transmitter (s : State) (p : Port) :
    (s.quenchCycleStart.egress.get p).transmitter = (s.egress.get p).transmitter := by
  have falls (code : Half) : ((s.quenchFalls code).egress.get p).transmitter = (s.egress.get p).transmitter :=
    (raise_egress (s.setQuench _) _ p).transmitter
  unfold State.quenchCycleStart
  split
  · exact falls _
  · split
    · rfl
    · exact falls _
  · rfl

theorem cutOffs_none {s : State} (h : ∀ p : Port, s.cutDue p = false) : s.cutOffs = s := by
  have none : Port.all.filter s.cutDue = [] := by simp [h]
  unfold State.cutOffs
  simp [none]

/-- The staging controller applies a pending commit whose target is met, and else does nothing (R119). -/
theorem stagingCycleStart_eq (s : State) :
    (∀ c, s.staging.state = .pending → s.staging.commit = some c →
      (c.target = .nextStart ∨ c.target = .atCycle s.timer.cycleCount) →
      s.stagingCycleStart = s.applyCommit) ∧
    (s.staging.state ≠ .pending ∨ s.staging.commit = none ∨
      (∃ c n, s.staging.commit = some c ∧ c.target = .atCycle n ∧ n ≠ s.timer.cycleCount) →
      s.stagingCycleStart = s) := by
  unfold State.stagingCycleStart State.targetMet
  constructor
  · intro c pending commit target
    rw [pending, commit]
    rcases target with h | h <;> simp [h]
  · rintro (h | h | ⟨c, n, commit, target, other⟩)
    · simp [h]
    · simp [h]
    · simp [commit, target, Ne.symm other]

/-- Quench unit and cut-offs at a cycle start: either alone where the other has nothing to do, and in one of
the two orders where both have (log 14). -/
theorem neighbours_cases (s : State) :
    let t := inEitherOrder s.quenchAndCut State.quenchCycleStart State.cutOffs s
    (s.quench.wait = none → t = s.cutOffs) ∧
    ((∀ p : Port, s.cutDue p = false) → t = s.quenchCycleStart) ∧
    (s.quench.wait ≠ none → (∃ p : Port, s.cutDue p = true) →
      t = (s.draw 1).quenchCycleStart.cutOffs ∨ t = (s.draw 1).cutOffs.quenchCycleStart) := by
  refine ⟨?_, ?_, ?_⟩
  · intro h
    have idle : s.quenchCycleStart = s := by unfold State.quenchCycleStart; rw [h]
    simp [inEitherOrder, State.quenchAndCut, h, idle]
  · intro h
    have one : s.quenchAndCut = false := by simp [State.quenchAndCut, h]
    simp only [inEitherOrder, one, Bool.false_eq_true, if_false]
    refine cutOffs_none (fun p => ?_)
    have unit := quenchCycleStart_within s
    rw [cutDue_congr p (unit.timer rfl) (unit.active rfl rfl) (quenchCycleStart_transmitter s p)]
    exact h p
  · rintro h ⟨p, hp⟩
    have cut : Port.all.any s.cutDue = true := List.any_eq_true.mpr ⟨p, by cases p <;> decide, hp⟩
    have wait : s.quench.wait.isSome = true := Option.isSome_iff_ne_none.mpr h
    have both : s.quenchAndCut = true := by simp [State.quenchAndCut, cut, wait]
    simp only [inEitherOrder, both, if_true]
    split
    · exact .inl rfl
    · exact .inr rfl

/-- They leave the timer's record and the active set. -/
theorem neighbours_keep (s : State) :
    let t := inEitherOrder s.quenchAndCut State.quenchCycleStart State.cutOffs s
    t.timer = s.timer ∧ t.active = s.active := by
  have timer₁ (u : State) := (quenchCycleStart_within u).timer rfl
  have timer₂ (u : State) := (cutOffs_within u).timer rfl
  have active₁ (u : State) := (quenchCycleStart_within u).active rfl rfl
  have active₂ (u : State) := (cutOffs_within u).active rfl rfl
  have drawn : (s.draw 1).active = s.active := rfl
  unfold inEitherOrder
  dsimp only
  repeat' split
  all_goals simp only [timer₁, timer₂, active₁, active₂, drawn, draw_timer, and_self]

end Sys2Proof.Machine
end

