-- ==== Sys2Proof/Laws/Validation.lean ====
section
/-! SUPPORT. What validation reports (R115, R116, Table 7-5): one lemma for each of its four passes that
says when the pass finds nothing, and one for the first failure of a pass. -/

namespace Sys2Proof.Machine

theorem mem_allWindows (w : WindowIx) : w ∈ allWindows := List.mem_finRange w

theorem mem_allStreams (i : StreamIx) : i ∈ allStreams := List.mem_finRange i

/-- The first index at which a pass over a table finds something. -/
theorem findSome_first {α : Type} {n : Nat} {f : Fin n → Option α} {w : Fin n} {x : α} (hw : f w = some x)
    (before : ∀ v : Fin n, v.val < w.val → f v = none) : (List.finRange n).findSome? f = some x := by
  have split : List.finRange n = (List.finRange n).take w.val ++ (List.finRange n).drop w.val :=
    (List.take_append_drop _ _).symm
  have lt : w.val < (List.finRange n).length := by rw [List.length_finRange]; exact w.isLt
  rw [split, List.findSome?_append]
  have none : ((List.finRange n).take w.val).findSome? f = none := by
    rw [List.findSome?_eq_none_iff]
    intro v hv
    obtain ⟨k, hk, rfl⟩ := List.mem_take_iff_getElem.1 hv
    exact before _ (by simp only [List.getElem_finRange, Fin.val_cast]; omega)
  rw [none, List.drop_eq_getElem_cons lt, List.findSome?_cons]
  have : (List.finRange n)[w.val] = w := by simp
  rw [this, hw]
  rfl

/-- A pass over a table finds nothing exactly when it finds nothing at any index. -/
theorem findSome_none {α : Type} {n : Nat} {f : Fin n → Option α} :
    (List.finRange n).findSome? f = none ↔ ∀ w, f w = none := by
  rw [List.findSome?_eq_none_iff]
  exact ⟨fun h w => h w (List.mem_finRange w), fun h w _ => h w⟩

theorem checkSettings_none (b : Bank) : checkSettings b.settings = none ↔ b.settingsPass := by
  unfold checkSettings Bank.settingsPass
  constructor
  · intro h n
    split_ifs at h
    unfold Settings.meets
    split <;> first | trivial | omega
  · intro h
    have h1 := h 1
    have h2 := h 2
    simp only [Settings.meets] at h1 h2
    rw [if_neg (by omega), if_neg (by omega)]

theorem checkWindow_none (b : Bank) (w : WindowIx) : checkWindow b w = none ↔ b.windowPasses w := by
  unfold checkWindow Bank.windowPasses
  simp only [Bank.windowMeets]
  cases hv : b.windows[w].valid
  · simp
  · simp only [Bool.not_true, Bool.false_eq_true, if_false, forall_const]
    constructor
    · intro h
      split_ifs at h
      omega
    · intro h
      rw [if_neg (by omega), if_neg (by omega)]

theorem checkOverlap_none (b : Bank) (w : WindowIx) : checkOverlap b w = none ↔ b.lanePasses w := by
  unfold checkOverlap Bank.lanePasses
  simp only [Bank.windowMeets]
  rw [ite_eq_right_iff]
  simp only [reduceCtorEq, imp_false, List.any_eq_true, not_exists, not_and, sameLane, overlap,
    Bool.and_eq_true, decide_eq_true_eq]
  constructor
  · intro h hv v hlt hvv hk hp
    have := h v (mem_allWindows v)
    by_contra hc
    push Not at hc
    exact this ⟨hlt, ⟨⟨hvv, hv⟩, hk⟩, hp⟩ (by omega) (by omega)
  · intro h v _ ⟨hlt, ⟨⟨⟨_, hv⟩, hk⟩, hp⟩⟩ h1 h2
    have := h hv v hlt (by assumption) hk hp
    omega

/-- The pairs of a ring in the order in which check 10 looks at them. -/
theorem ringPairs_eq (r : StreamRec) (h : 1 ≤ r.ringLength) :
    ringPairs r.ringLength = (List.range r.ringLength).map (fun k => (k, nextPosition r k)) := by
  obtain ⟨n, hn⟩ : ∃ n, r.ringLength = n + 1 := ⟨r.ringLength - 1, by omega⟩
  unfold ringPairs
  rw [hn, Nat.add_sub_cancel, List.range_succ, List.map_append]
  congr 1
  · apply List.map_congr_left
    intro k hk
    have : k < n := List.mem_range.1 hk
    simp [nextPosition, hn, this]
  · simp [nextPosition, hn]

theorem adjacentFault_none (b : Bank) (r : StreamRec) (h : 1 ≤ r.ringLength) :
    adjacentFault b r = none ↔ ∀ k, k < r.ringLength → b.differsAt r k := by
  unfold adjacentFault Bank.differsAt
  rw [Option.map_eq_none_iff, ringPairs_eq r h, List.find?_eq_none]
  simp

/-- Check 10 reports the second step of the first pair with equal codes (R116). -/
theorem adjacentFault_first (b : Bank) (r : StreamRec) {k : Nat} (hk : k < r.ringLength)
    (same : ¬ b.differsAt r k) (before : ∀ m, m < k → b.differsAt r m) :
    adjacentFault b r = some (r.ringBase.val + nextPosition r k) := by
  unfold adjacentFault
  rw [ringPairs_eq r (by omega), List.find?_map]
  have : (List.range r.ringLength).find? ((fun q : Nat × Nat =>
      (b.ringStep r q.1).phase == (b.ringStep r q.2).phase) ∘ fun k => (k, nextPosition r k)) = some k := by
    rw [List.find?_range_eq_some]
    refine ⟨?_, List.mem_range.2 hk, ?_⟩
    · simpa [Bank.differsAt] using same
    · intro m hm
      simpa [Bank.differsAt] using before m hm
  rw [this]
  rfl

/-- Check 6 as checkStream makes it. -/
theorem check6_iff (b : Bank) (i : StreamIx) :
    (!b.windows[b.streams[i].window].valid || decide (b.windows[b.streams[i].window].kind = .guard)) =
      false ↔ b.streamMeets i 6 := by
  show _ ↔ b.windows[b.streams[i].window].valid = true ∧ b.windows[b.streams[i].window].kind = .admitting
  generalize b.windows[b.streams[i].window] = x
  cases x.valid <;> cases x.kind <;> decide

/-- Check 12 as checkStream makes it. -/
theorem check12_iff (b : Bank) (i : StreamIx) :
    (match b.streams[i].template with | some t => b.templates[t].isNone | none => false) = false ↔
      b.streamMeets i 12 := by
  show _ ↔ ∀ t, b.streams[i].template = some t → b.templates[t] ≠ none
  cases b.streams[i].template with
  | none => simp
  | some t =>
    show b.templates[t].isNone = false ↔ _
    cases h : b.templates[t] with
    | none => exact ⟨fun hc => absurd hc (by decide), fun hc => absurd h (hc t rfl)⟩
    | some x =>
      refine ⟨fun _ u hu => ?_, fun _ => rfl⟩
      cases hu
      rw [h]
      exact Option.some_ne_none x

/-- Check 13 as checkStream makes it. -/
theorem check13_iff (b : Bank) (i : StreamIx) :
    allStreams.any (fun k => decide (k.val < i.val) && b.streams[k].enabled &&
      b.streams[k].tag == b.streams[i].tag) = false ↔ b.streamMeets i 13 := by
  show _ ↔ ∀ j : StreamIx, j.val < i.val → b.streams[j].enabled = true → b.streams[j].tag ≠ b.streams[i].tag
  rw [List.any_eq_false]
  constructor
  · intro h j hj he ht
    exact h j (mem_allStreams j) (by rw [ht, he]; simpa using hj)
  · intro h j _ hc
    simp only [Bool.and_eq_true, decide_eq_true_eq, beq_iff_eq] at hc
    exact h j hc.1.1 hc.1.2 hc.2

/-- The first check that an enabled stream fails is the one reported (R115, R116). -/
theorem checkStream_fails (b : Bank) (i : StreamIx) (he : b.streams[i].enabled = true) :
    (∀ n ∈ [6, 7, 8, 9, 11, 12, 13], (∀ m, m < n → b.streamMeets i m) → ¬ b.streamMeets i n →
      checkStream b i = some { part := .stream, index := some i.val, stream := none, check := n }) ∧
    (∀ k, (∀ m, m < 10 → b.streamMeets i m) → k < b.streams[i].ringLength →
      (∀ m, m < k → b.differsAt b.streams[i] m) → ¬ b.differsAt b.streams[i] k →
      checkStream b i = some
        { part := .step, check := 10, stream := some i.val
          index := some (b.streams[i].ringBase.val + nextPosition b.streams[i] k) }) ∧
    ((∀ n, b.streamMeets i n) → checkStream b i = none) := by
  have m7 : b.streamMeets i 7 ↔ ¬ 1024 < b.streams[i].ringBase.val + b.streams[i].ringLength := by
    simp only [Bank.streamMeets]; omega
  have m8 : b.streamMeets i 8 ↔ ¬ (b.streams[i].ringLength < 2 ∨ 16 < b.streams[i].ringLength) := by
    simp only [Bank.streamMeets]; omega
  have m9 : b.streamMeets i 9 ↔ ¬ b.streams[i].ringLength ≤ b.streams[i].entryStep := by
    simp only [Bank.streamMeets]; omega
  have m10 : b.streamMeets i 8 → (adjacentFault b b.streams[i] = none ↔ b.streamMeets i 10) := by
    intro h
    exact adjacentFault_none _ _ (by have := h.1; omega)
  have m11 : b.streamMeets i 11 ↔
      ¬ (b.streams[i].framesPerCycle < 1 ∨ 4 < b.streams[i].framesPerCycle) := by
    simp only [Bank.streamMeets]; omega
  have m6 := check6_iff b i
  have m12 := check12_iff b i
  have m13 := check13_iff b i
  refine ⟨?_, ?_, ?_⟩
  · intro n hn before fails
    simp only [List.mem_cons, List.not_mem_nil, or_false] at hn
    unfold checkStream
    simp only [he, Bool.not_true, Bool.false_eq_true, if_false]
    rcases hn with rfl | rfl | rfl | rfl | rfl | rfl | rfl
    · rw [if_pos (Bool.eq_true_of_not_eq_false (mt m6.1 fails))]
    · rw [m6.2 (before 6 (by omega)), if_neg Bool.false_ne_true, if_pos (by by_contra h; exact fails (m7.2 h))]
    · rw [m6.2 (before 6 (by omega)), if_neg Bool.false_ne_true, if_neg (m7.1 (before 7 (by omega))),
        if_pos (by by_contra h; exact fails (m8.2 h))]
    · rw [m6.2 (before 6 (by omega)), if_neg Bool.false_ne_true, if_neg (m7.1 (before 7 (by omega))),
        if_neg (m8.1 (before 8 (by omega))), if_pos (by by_contra h; exact fails (m9.2 h))]
    · rw [m6.2 (before 6 (by omega)), if_neg Bool.false_ne_true, if_neg (m7.1 (before 7 (by omega))),
        if_neg (m8.1 (before 8 (by omega))), if_neg (m9.1 (before 9 (by omega))),
        (m10 (before 8 (by omega))).2 (before 10 (by omega))]
      simp only
      rw [if_pos (by by_contra h; exact fails (m11.2 h))]
    · rw [m6.2 (before 6 (by omega)), if_neg Bool.false_ne_true, if_neg (m7.1 (before 7 (by omega))),
        if_neg (m8.1 (before 8 (by omega))), if_neg (m9.1 (before 9 (by omega))),
        (m10 (before 8 (by omega))).2 (before 10 (by omega))]
      simp only
      rw [if_neg (m11.1 (before 11 (by omega)))]
      exact if_pos (Bool.eq_true_of_not_eq_false (mt m12.1 fails))
    · rw [m6.2 (before 6 (by omega)), if_neg Bool.false_ne_true, if_neg (m7.1 (before 7 (by omega))),
        if_neg (m8.1 (before 8 (by omega))), if_neg (m9.1 (before 9 (by omega))),
        (m10 (before 8 (by omega))).2 (before 10 (by omega))]
      simp only
      rw [if_neg (m11.1 (before 11 (by omega)))]
      exact (if_neg (Bool.eq_false_iff.1 (m12.2 (before 12 (by omega))))).trans
        (if_pos (Bool.eq_true_of_not_eq_false (mt m13.1 fails)))
  · intro k before hk differs same
    unfold checkStream
    simp only [he, Bool.not_true, Bool.false_eq_true, if_false]
    rw [m6.2 (before 6 (by omega)), if_neg Bool.false_ne_true, if_neg (m7.1 (before 7 (by omega))),
      if_neg (m8.1 (before 8 (by omega))), if_neg (m9.1 (before 9 (by omega))),
      adjacentFault_first b _ hk same differs]
  · intro all
    unfold checkStream
    simp only [he, Bool.not_true, Bool.false_eq_true, if_false]
    rw [m6.2 (all 6), if_neg Bool.false_ne_true, if_neg (m7.1 (all 7)), if_neg (m8.1 (all 8)),
      if_neg (m9.1 (all 9)), (m10 (all 8)).2 (all 10)]
    simp only
    rw [if_neg (m11.1 (all 11))]
    exact (if_neg (Bool.eq_false_iff.1 (m12.2 (all 12)))).trans
      (if_neg (Bool.eq_false_iff.1 (m13.2 (all 13))))
theorem checkStream_none (b : Bank) (i : StreamIx) : checkStream b i = none ↔ b.streamPasses i := by
  cases he : b.streams[i].enabled
  · refine ⟨fun _ h => absurd (he.symm.trans h) Bool.false_ne_true, fun _ => ?_⟩
    unfold checkStream
    simp only [he, Bool.not_false, if_true]
  · have fails := checkStream_fails b i he
    refine ⟨fun h _ => ?_, fun h => fails.2.2 (h he)⟩
    have upTo : ∀ m, m < 14 → b.streamMeets i m := by
      intro m
      induction m using Nat.strong_induction_on with
      | _ m ih =>
        intro hm
        have before : ∀ k, k < m → b.streamMeets i k := fun k hk => ih k hk (by omega)
        by_contra hc
        by_cases h10 : m = 10
        · subst h10
          have : ∃ k, k < b.streams[i].ringLength ∧ ¬ b.differsAt b.streams[i] k := by
            by_contra hn
            push Not at hn
            exact hc hn
          classical
          have first := Nat.find_spec this
          have := fails.2.1 _ before first.1
            (fun k hk => by
              by_contra hd
              exact Nat.find_min this hk ⟨by omega, hd⟩) first.2
          rw [h] at this
          cases this
        · by_cases hl : m ∈ [6, 7, 8, 9, 11, 12, 13]
          · have := fails.1 m hl before hc
            rw [h] at this
            cases this
          · apply hc
            simp only [List.mem_cons, List.not_mem_nil, or_false, not_or] at hl
            obtain ⟨h6, h7, h8, h9, h11, h12, h13⟩ := hl
            unfold Bank.streamMeets
            split <;> trivial
    intro n
    by_cases hn : n < 14
    · exact upTo n hn
    · unfold Bank.streamMeets
      split <;> trivial

/-- A set is valid exactly when it meets every check (R115). -/
theorem validate_none (b : Bank) : validate b = none ↔ b.settingsPass ∧ (∀ w, b.windowPasses w) ∧
    (∀ w, b.lanePasses w) ∧ ∀ i, b.streamPasses i := by
  simp only [← checkSettings_none, ← checkWindow_none, ← checkOverlap_none, ← checkStream_none,
    ← findSome_none]
  unfold validate allWindows allStreams
  cases checkSettings b.settings with
  | some f => simp
  | none =>
    cases (List.finRange 64).findSome? (checkWindow b) with
    | some f => simp
    | none =>
      cases (List.finRange 64).findSome? (checkOverlap b) with
      | some f => simp
      | none => simp

/-- A failure of the settings, of a window, of a pair of windows or of a stream is what validation reports
when the passes before it find nothing (R115). -/
theorem validate_some (b : Bank) {f : FaultRecord} :
    (checkSettings b.settings = some f → validate b = some f) ∧
    (b.settingsPass → allWindows.findSome? (checkWindow b) = some f → validate b = some f) ∧
    (b.settingsPass → (∀ w, b.windowPasses w) → allWindows.findSome? (checkOverlap b) = some f →
      validate b = some f) ∧
    (b.settingsPass → (∀ w, b.windowPasses w) → (∀ w, b.lanePasses w) →
      allStreams.findSome? (checkStream b) = some f → validate b = some f) := by
  simp only [← checkSettings_none, ← checkWindow_none, ← checkOverlap_none, ← findSome_none]
  unfold validate allWindows
  refine ⟨fun h => ?_, fun h1 h => ?_, fun h1 h2 h => ?_, fun h1 h2 h3 h => ?_⟩
  · rw [h]
  · rw [h1, h]
  · rw [h1, h2, h]
  · rw [h1, h2, h3, h]

end Sys2Proof.Machine
end

