-- ==== Sys2Proof/WellFormed.lean ====
section
/-! DEFINITION. The checks on a command's operands. A command that fails one names nothing the gate
has; the machine still answers it (nothing happens), see log 2. -/

namespace Sys2Proof

/-- An index of the window table, 0 to 63 (R47). -/
def windowIndexOk (w : Nat) : Bool := decide (w < 64)

/-- A frame on the wire has at least one byte after its preamble (R130). -/
def frameOk (frame : List Byte) : Bool := !frame.isEmpty

/-- The operand checks, command by command. -/
def Instr.wf : Instr → Bool
  | .windowClose w => windowIndexOk w
  | .guardClose w => windowIndexOk w
  | .startOfFrame _ frame => frameOk frame
  | .coldReset _ _ _ => true
  | .quenchLineAsserted => true
  | .quenchLineDeasserted => true
  | .linkUp _ => true
  | .linkDown _ => true
  | .frameArrival _ => true
  | .cycleStart => true
  | .guardOpen _ => true
  | .attributionIntervalClose => true
  | .pendingAdvanceEnd => true
  | .transmitStart _ => true
  | .transmitComplete _ => true
  | .notificationOffer _ => true
  | .retryTimerExpiry _ _ => true
  | .leaseExpiry => true
  | .restageCompletion => true
  | .restartWaitExpiry => true
  | .discover => true
  | .claim => true
  | .yieldOwnership => true
  | .readStatus => true
  | .readSet => true
  | .readStreamState => true
  | .readCounters => true
  | .readCountersClear => true
  | .readFlags => true
  | .readFault => true
  | .writeSettings => true
  | .writeWindows => true
  | .writeStreams => true
  | .writeSteps => true
  | .writeTemplate => true
  | .commitNext => true
  | .commitAt => true
  | .withdraw => true
  | .holdStream => true
  | .releaseStreamResume => true
  | .releaseStreamRearm => true
  | .quench => true
  | .clearQuench => true
  | .setLive => true
  | .setListener => true
  | .setNotify => true
  | .clearFlags => true
  | .raiseFlag => true
  | .timerStartImmediate => true
  | .timerStartOnMark => true
  | .timerStop => true
  | .restart => true
  | .ackNotify => true
  | .unknownRequest => true

end Sys2Proof
end

