-- ==== Sys2Proof/Tests/Slice0.lean ====
section
/-! SUPPORT. Tests: the operand checks refuse ill-formed commands, the frame check sequence has its known
check value, a few results of the spec's own examples, and for every statement with hypotheses a state
and operands that meet them. -/

namespace Sys2Proof.Tests

open Sys2Proof Sys2Proof.Machine

-- One test after the other: side by side, their kernel evaluations would each keep a thread and its stack.
set_option Elab.async false

/-! ### Well-formedness -/

theorem test_wf_window_refused : Instr.wf (.windowClose 64) = false := by decide
theorem test_wf_guard_refused : Instr.wf (.guardClose 64) = false := by decide
theorem test_wf_frame_refused : Instr.wf (.startOfFrame .p3 []) = false := by decide
theorem test_wf_accepted :
    [Instr.windowClose 63, .guardClose 63, .startOfFrame .p0 [0#8], .cycleStart].all Instr.wf = true := by
  decide

/-! ### Formats -/

/-- The check value of the CRC-32 of Ethernet: the text "123456789" gives CB F4 39 26, sent 26 39 F4 CB. -/
theorem test_fcs_check_value :
    fcs [0x31#8, 0x32#8, 0x33#8, 0x34#8, 0x35#8, 0x36#8, 0x37#8, 0x38#8, 0x39#8] =
      [0x26#8, 0x39#8, 0xF4#8, 0xCB#8] := by
  decide +kernel

/-- No row of the table gives bits. -/
theorem test_no_word_decodes : decodeTableWord 16 0 = none ∧ decodeTableWord 0 7 = none := by decide

/-! ### Small states -/

/-- All links UP, straps 0, the line deasserted. -/
def linked : State := State.reset.coldReset 0#4 ⟨.up, .up, .up, .up⟩ .deasserted

/-- The station that sends the test requests. -/
def station : StationAddr := 0x020000000001#48

/-- A request of that station on P0, with tag 1 and token 7. -/
def request (code : Half) (args : List Byte) : Request :=
  { port := .p0, source := station, body := be16 code ++ be16 1#16 ++ be32 7#32 ++ args, overrun := false }

/-- The station holds the gate. -/
def owned (s : State) : State :=
  s.setAgent { s.agent with
    owner := some { holder := station, token := 7#32, leaseLength := 1000, expiry := 25000000 } }

/-- A request stands alone in the intake queue. -/
def asked (r : Request) (s : State) : State := s.setAgent { s.agent with intake := [r] }

/-- The owner's request stands alone in the intake queue. -/
def asking (code : Half) (args : List Byte) (s : State) : State := asked (request code args) (owned s)

/-- The conditions of Takes, as a test. -/
def taken (s : State) (c : Instr) (r : Request) : Bool :=
  s.agent.restartWait.isNone && decide (s.agent.intake = [r]) && decide (r.command = c) &&
    decide (4 ≤ r.body.length) && (s.cacheHit r).isNone

theorem takes_of_taken {s : State} {c : Instr} {r : Request} (h : taken s c r = true) :
    Takes s c r [] := by
  simp only [taken, Bool.and_eq_true, decide_eq_true_eq, Option.isNone_iff_eq_none] at h
  exact ⟨h.1.1.1.1, h.1.1.1.2, h.1.1.2, h.1.2, h.2⟩

/-- The conditions of Carries, as a test. -/
def carries (r : Request) (n : Nat) : Bool := !r.overrun && decide (r.body.length = 8 + n)

theorem carries_of {r : Request} {n : Nat} (h : carries r n = true) : Carries r n := by
  simp only [carries, Bool.and_eq_true, Bool.not_eq_true', decide_eq_true_eq] at h
  exact ⟨h.1, h.2⟩

/-- A request of a code is taken as a command by the owner, and carries n argument bytes. -/
def fine (s : State) (c : Instr) (code : Half) (args : List Byte) (n : Nat) : Bool :=
  taken (asking code args s) c (request code args) && carries (request code args) n &&
    (asking code args s).ownsGate (request code args)

/-- A set with stream 0 (tag 5, window 0, ring 1, 2, 3 from pool record 0, template 0), an ADMIT window on
P0 from 100 to 200, a GUARD window on P1 from 300 to 400. -/
def testBank (mode : FollowMode) : Bank :=
  { Bank.cold with
    settings := { Settings.cold with follow := mode, tolerance := 50 }
    windows := (Bank.cold.windows.set 0 ⟨true, .admitting, .p0, 100, 200⟩).set 63
      ⟨true, .guard, .p1, 300, 400⟩
    streams := Bank.cold.streams.set 0
      { StreamRec.cold with
        enabled := true, tag := 5#16, ringLength := 3, template := some 0, absenceLimit := 255
        stallPolicy := .holdAndQuench, strayPolicy := .holdAndQuench }
    steps := ((Bank.cold.steps.set 0 ⟨1#4, 0b0011#4, false⟩).set 1 ⟨2#4, 0b0010#4, true⟩).set 2
      ⟨3#4, 0#4, false⟩
    templates := Bank.cold.templates.set 0 (some (List.replicate 60 0#8)) }

/-- The active set is the test set, and stream 0 has a runtime record. -/
def rigged (mode : FollowMode) (x : StreamRun) : State :=
  { linked with bankA := testBank mode, streams := linked.streams.set 0 x }

/-- A stream in a state at position 0. -/
def standing (st : StreamState) (held : Option HoldCause) : StreamRun :=
  { StreamRun.cold with state := st, holdCause := held }

/-- The timer runs at a counter value of cycle 9 under the test set. -/
def clocked (mode : FollowMode) (counter : Nat) (s : State) : State :=
  s.setTimer { s.timer with
    state := .running, counter := counter, cycleCount := 9#32
    current := some ⟨25000, 50, mode⟩, ended := some ⟨⟨25000, 50, mode⟩, 25000⟩
    attribution := match mode with | .follow => some ⟨false, true⟩ | .free => none }

/-- A good gate frame of a kind with a tag, 64 bytes. -/
def gateFrame (version kind : Nat) (phase : Byte) (tag : Half) (body : List Byte) : List Byte :=
  withFcs (padded (be48 0x024F53D24000#48 ++ be48 station ++ be16 0x88B5#16 ++
    [BitVec.ofNat 8 (16 * version + kind), phase] ++ be16 tag ++
    be16 (BitVec.ofNat 16 body.length) ++ be16 0#16 ++ body))

/-- A frame in reception on a port for some ticks. -/
def receiving (p : Port) (start : StartRecord) (f : List Byte) (elapsed : Nat) (s : State) : State :=
  s.updatePort p (fun u => { u with reception := some ⟨start, f, elapsed, false, false⟩ })

/-! ### Witnesses: the queue, cold reset, the quench unit -/

theorem witness_queue :
    (State.reset.pending = [] ∧ State.reset.dueNow = []) ∧
    ((asking 0x0010#16 [] linked).pending = [] ∧ (asking 0x0010#16 [] linked).dueNow ≠ []) := by
  decide +kernel

theorem witness_notDue :
    State.reset.cycleStartDue = false ∧ State.reset.intervalOver = false ∧
    State.reset.advanceEndDue = false ∧ State.reset.restageDone = false ∧ State.reset.leaseDue = false ∧
    State.reset.restartDue = false ∧ State.reset.cutDue .p3 = false ∧ State.reset.offerDue .p3 = false ∧
    (State.reset.egress.get .p3).maySelect = false ∧ State.reset.agent.intake = [] := by
  decide +kernel

/-- A quench record with given causes, modes and level, QUENCHED. -/
def quenched (causes : CauseSet) (lm : LineMode) (rm : ReleaseMode) (level : LineLevel) : Quench :=
  { Quench.cold level with causes := causes, lineMode := lm, releaseMode := rm }

/-- A quench record without causes, NORMAL. -/
def calm : Quench :=
  { Quench.cold .deasserted with
    causes := ⟨false, false, false, false, false, false⟩, qf := false, qs := false, unit := .normal }

theorem calm_law : QuenchLaw calm := by constructor <;> decide
theorem cold_law : QuenchLaw (Quench.cold .deasserted) := by constructor <;> decide

/-- The unit with a line record: the level taken, the level on the pin and the ticks for which it is there. -/
def lineOf (enable : Bool) (lm : LineMode) (taken pin : LineLevel) (ticks : Nat) : State :=
  linked.setQuench { quenched ⟨false, false, false, false, true, false⟩ lm .immediate taken with
    lineEnable := enable, pin := pin, pinTicks := ticks }

theorem witness_quenchLine :
    (∀ enable ∈ [true, false], ∀ lm ∈ [LineMode.auto, .latched],
      (∀ s, s = lineOf enable lm .deasserted .asserted 2 → s.quench.pin = .asserted ∧
        2 ≤ s.quench.pinTicks ∧ s.quench.level = .deasserted ∧ s.quench.lineEnable = enable ∧
        s.quench.lineMode = lm) ∧
      (∀ s, s = lineOf enable lm .asserted .deasserted 2 → s.quench.pin = .deasserted ∧
        2 ≤ s.quench.pinTicks ∧ s.quench.level = .asserted ∧ s.quench.lineMode = lm)) ∧
    (lineOf true .auto .deasserted .asserted 1).quench.pinTicks < 2 ∧
    (lineOf true .auto .asserted .asserted 2).quench.level = .asserted ∧
    (lineOf true .auto .deasserted .deasserted 2).quench.level = .deasserted := by
  refine ⟨?_, by decide, by decide, by decide⟩
  intro enable _ lm _
  exact ⟨fun s hs => by subst hs; exact ⟨rfl, Nat.le_refl 2, rfl, rfl, rfl⟩,
    fun s hs => by subst hs; exact ⟨rfl, Nat.le_refl 2, rfl, rfl⟩⟩

/-- A level is taken at the second tick of its hold, and not at the first (R93). -/
theorem test_lineFilter :
    (match exec .quenchLineAsserted linked with
     | .next s => s.dueNow.contains .quenchLineAsserted || s.tick.dueNow.contains .quenchLineAsserted ||
         !s.tick.tick.dueNow.contains .quenchLineAsserted
     | _ => true) = false := by
  decide +kernel

/-- A level that has stood two ticks is taken though the pin leaves it at that moment (R93). -/
theorem test_lineLeavesAtTwoTicks :
    (match exec .quenchLineDeasserted (lineOf true .auto .deasserted .asserted 2) with
     | .next s => decide (s.quench.level = .asserted ∧ s.quench.pin = .deasserted ∧
         s.quench.pinTicks = 0 ∧ s.quench.causes.line = true)
     | _ => false) = true := by
  decide +kernel

theorem witness_addingACause :
    (QuenchLaw calm ∧ calm.qs = false) ∧
    (QuenchLaw (Quench.cold .deasserted) ∧ (Quench.cold .deasserted).qs = true ∧
      (Quench.cold .deasserted).causes.has .startup = true) :=
  ⟨⟨calm_law, by decide⟩, cold_law, by decide, by decide⟩

theorem witness_lastCauseGone :
    (∀ rm ∈ [ReleaseMode.immediate, .cycle, .mark],
      (quenched ⟨false, false, false, false, true, false⟩ .auto rm .deasserted).releaseMode = rm ∧
      (quenched ⟨false, false, false, false, true, false⟩ .auto rm .deasserted).unit = .quenched ∧
      (quenched ⟨false, false, false, false, true, false⟩ .auto rm .deasserted).qs = true ∧
      (quenched ⟨false, false, false, false, true, false⟩ .auto rm .deasserted).causes.isEmpty = false ∧
      ((quenched ⟨false, false, false, false, true, false⟩ .auto rm .deasserted).causes.removeAll
        [.startup]).isEmpty = true) ∧
      linked.timer.state ≠ .running ∧
      (clocked .follow 0 linked).timer.state = .running ∧
      (clocked .follow 0 linked).timer.current = some ⟨25000, 50, .follow⟩ ∧
      (clocked .free 0 linked).timer.current = some ⟨25000, 50, .free⟩ := by
  decide +kernel

/-- A unit in RELEASING with a wait. -/
def releasing (w : ReleaseWait) (s : State) : State :=
  s.setQuench { calm with qs := true, unit := .releasing, wait := some w }

/-- Every close of the test set's windows has been taken in the cycle, and no interval is open. -/
def closed (s : State) : State :=
  s.setTimer { s.timer with closesTaken := [0, 63], attribution := none }

theorem witness_releaseWaits :
    linked.quench.wait = none ∧
    (∀ w ∈ [ReleaseWait.cycle, .mark], ∀ m ∈ [FollowMode.free, .follow],
      ∀ s, s = releasing w (closed (clocked m 25000 (rigged m (standing .armed none)))) →
        s.cycleStartDue = true ∧ s.quench.wait = some w ∧ s.timer.state = .running ∧
        s.timer.current = some ⟨25000, 50, m⟩ ∧ s.agent.restartWait = none ∧
        s.active.settings.follow = m ∧ s.timer.attribution = none) := by
  refine ⟨by decide, ?_⟩
  intro w hw m hm s hs
  subst hs
  refine ⟨?_, rfl, rfl, rfl, rfl, rfl, rfl⟩
  revert w m
  decide +kernel

/-! ### Witnesses: ports and reception -/

theorem witness_links :
    State.reset.link .p3 = .down ∧ linked.link .p3 = .up ∧ linked.agent.restartWait = none := by decide

theorem witness_startOfFrame :
    (linked.link .p0 = .up ∧ (linked.ports.get .p0).reception = none) ∧ State.reset.link .p0 = .down ∧
    (∀ t ∈ [(167 : Nat), 168], ((receiving .p0 ⟨0, 0#32, false⟩ (List.replicate 64 0#8) t linked).ports.get
      .p0).reception = some ⟨⟨0, 0#32, false⟩, List.replicate 64 0#8, t, false, false⟩) ∧
    (64 + 20) * 2 = 168 := by
  refine ⟨by decide, by decide, ?_, rfl⟩
  intro t _; rfl

/-- A frame of n zero bytes. -/
def zeros (n : Nat) : List Byte := List.replicate n 0#8

/-- n zero bytes with the complement of their FCS behind them. -/
def spoiled (n : Nat) : List Byte := zeros n ++ (fcs (zeros n)).map (fun b => ~~~ b)

theorem spoiled_no_match (n : Nat) : fcsMatches (spoiled n) = false := by
  unfold spoiled
  rw [fcsMatches_append _ _ rfl]
  have byte : ∀ b : Byte, (~~~ b == b) = false := by decide +kernel
  show (~~~ _ == _ && _) = false
  rw [byte]
  rfl

theorem witness_frameArrival (f : List Byte) (t : Nat) :
    ((receiving .p2 ⟨0, 0#32, false⟩ f t linked).ports.get .p2).reception =
      some ⟨⟨0, 0#32, false⟩, f, t, false, false⟩ ∧
    (receiving .p2 ⟨0, 0#32, false⟩ f t linked).timer.state ≠ .running ∧
    (receiving .p2 ⟨0, 0#32, false⟩ f t linked).agent.restartWait = none := by
  refine ⟨rfl, ?_, rfl⟩
  show TimerState.stopped ≠ .running
  decide

theorem witness_frameArrival_kinds :
    (zeros 63).length < 64 ∧ 1522 < (zeros 1523).length ∧
    ((spoiled 60).length = 64 ∧ fcsMatches (spoiled 60) = false) ∧
    ((withFcs (zeros 60)).length = 64 ∧ fcsMatches (withFcs (zeros 60)) = true) ∧
    ((withFcs (zeros 1518)).length = 1522 ∧ fcsMatches (withFcs (zeros 1518)) = true) := by
  have len : ∀ n, (zeros n).length = n := fun n => List.length_replicate
  refine ⟨by rw [len]; omega, by rw [len]; omega, ⟨?_, spoiled_no_match 60⟩,
    ⟨?_, fcsMatches_withFcs _⟩, ?_, fcsMatches_withFcs _⟩
  · rw [spoiled, List.length_append, List.length_map, len, fcs_length]
  · rw [withFcs_length, len]
  · rw [withFcs_length, len]

/-- A runt has left reception while a restart wait is held whose response met another outcome. -/
theorem witness_frameArrival_restart :
    ∀ deadline ∈ [(0 : Nat), 1], ∀ s,
      s = (receiving .p2 ⟨0, 0#32, false⟩ (zeros 63) 166 linked).setAgent { linked.agent with
        restartWait := some ⟨deadline, true⟩ } →
      (∃ r, (s.ports.get .p2).reception = some r ∧ (r.frame.length + 20) * 2 ≤ r.elapsed) ∧
      (((s.updatePort .p2 (fun u => { u with reception := none })).receiveFrame .p2 ⟨0, 0#32, false⟩
        (zeros 63)).agent.restartWait = some ⟨deadline, true⟩) ∧ s.base = 0 := by
  intro deadline hd s hs
  subst hs
  refine ⟨⟨_, rfl, by decide⟩, ?_, rfl⟩
  revert deadline
  decide +kernel

theorem witness_malformed :
    ∀ f ∈ [gateFrame 2 0 0#8 0#16 [], gateFrame 1 5 0#8 0#16 []],
      (64 ≤ f.length ∧ f.length ≤ 1522 ∧ halfAt f 12 = 0x88B5#16 ∧
        (frameVersion f ≠ 1 ∨ 4 < frameKind f)) ∧ fcsMatches f = true := by
  have matching : ∀ v k, fcsMatches (gateFrame v k 0#8 0#16 []) = true := fun v k => fcsMatches_withFcs _
  intro f hf
  simp only [List.mem_cons, List.not_mem_nil, or_false] at hf
  rcases hf with rfl | rfl
  · exact ⟨by decide +kernel, matching 2 0⟩
  · exact ⟨by decide +kernel, matching 1 5⟩

/-- An intake queue of n requests. -/
def waiting (n : Nat) (ports : PortSet) : State :=
  linked.setAgent { linked.agent with
    intake := List.replicate n (request 0x0010#16 []), mgmtPorts := ports }

theorem witness_requestsAndUnknownTags :
    (∀ f, f = gateFrame 1 2 0#8 0#16 (be16 0x0010#16 ++ be16 1#16 ++ be32 7#32) →
      halfAt f 12 = 0x88B5#16 ∧ frameVersion f = 1 ∧ frameKind f = 2 ∧ frameDest f = linked.stationAddr) ∧
    ((waiting 3 0b0001#4).agent.mgmtPorts.getLsbD 0 = true ∧ (waiting 3 0b0001#4).agent.intake.length < 4) ∧
    ((waiting 4 0b0001#4).agent.mgmtPorts.getLsbD 0 = true ∧ 4 ≤ (waiting 4 0b0001#4).agent.intake.length) ∧
    (waiting 0 0b1110#4).agent.mgmtPorts.getLsbD 0 = false ∧
    (∀ f, f = gateFrame 1 0 0#8 6#16 [] → frameKind f = 0 ∧ frameVersion f = 1 ∧
      ∀ i : StreamIx, ((rigged .free (standing .armed none)).streamRec i).enabled = true →
        ((rigged .free (standing .armed none)).streamRec i).tag ≠ halfAt f 16) := by
  refine ⟨?_, by decide, by decide, by decide, ?_⟩
  · intro f hf; subst hf; decide +kernel
  · intro f hf; subst hf; decide +kernel

/-- A broadcast DISCOVER, a cycle mark, a response, a notification and a request to another station, with
the two bytes at 12 and the destination given. -/
def frameTo (dest : StationAddr) (ethertype : Half) (kind : Nat) (body : List Byte) : List Byte :=
  withFcs (padded (be48 dest ++ be48 station ++ be16 ethertype ++ [BitVec.ofNat 8 (16 + kind), 0#8] ++
    be16 0#16 ++ be16 (BitVec.ofNat 16 body.length) ++ be16 0#16 ++ body))

/-- A background queue of n frames on P1. -/
def backlog (n : Nat) : State :=
  linked.updateEgress .p1 (fun e => { e with background := List.replicate n 0 })

theorem witness_broadcastAndBackground :
    (∀ f, f = frameTo 0xFFFFFFFFFFFF#48 0x88B5#16 2 (be16 0x0001#16 ++ be16 1#16 ++ be32 7#32) →
      halfAt f 12 = 0x88B5#16 ∧ frameVersion f = 1 ∧ frameKind f = 2 ∧
      frameDest f = 0xFFFFFFFFFFFF#48 ∧ 2 ≤ (requestBody f).length ∧
      natAt (requestBody f) 0 2 = 0x0001) ∧
    halfAt (frameTo station 0x0800#16 0 []) 12 ≠ 0x88B5#16 ∧
    (∀ k ∈ [(1 : Nat), 3, 4], halfAt (frameTo station 0x88B5#16 k []) 12 = 0x88B5#16 ∧
      frameVersion (frameTo station 0x88B5#16 k []) = 1 ∧
      frameKind (frameTo station 0x88B5#16 k []) = k) ∧
    Port.p1 ≠ linked.active.settings.markPort ∧
    (frameKind (frameTo station 0x88B5#16 2 []) = 2 ∧
      frameDest (frameTo station 0x88B5#16 2 []) ≠ linked.stationAddr ∧
      frameDest (frameTo station 0x88B5#16 2 []) ≠ 0xFFFFFFFFFFFF#48) ∧
    (PortSet.portsWithout 0b0001#4 .p0 = [] ∧ PortSet.portsWithout 0b1111#4 .p0 ≠ []) ∧
    ((backlog 15).link .p1 = .up ∧ ((backlog 15).egress.get .p1).background.length < 16) ∧
    16 ≤ ((backlog 16).egress.get .p1).background.length := by
  refine ⟨?_, by decide +kernel, by decide +kernel, by decide, by decide +kernel, by decide, by decide,
    by decide⟩
  intro f hf; subst hf; decide +kernel

theorem witness_admission :
    (∀ s, s = clocked .free 100 (rigged .free (standing .armed none)) →
      s.admission 0 .p0 ⟨100, 9#32, true⟩ = .admitted ∧ s.admission 0 .p0 ⟨199, 9#32, true⟩ = .admitted ∧
      s.admission 0 .p0 ⟨100, 9#32, false⟩ = .misplaced 1#16 ∧
      s.admission 0 .p0 ⟨100, 8#32, true⟩ = .misplaced 2#16 ∧
      s.admission 0 .p1 ⟨100, 9#32, true⟩ = .misplaced 3#16 ∧
      s.admission 0 .p0 ⟨99, 9#32, true⟩ = .misplaced 4#16 ∧
      s.admission 0 .p0 ⟨200, 9#32, true⟩ = .misplaced 4#16) ∧
    (clocked .free 100 (rigged .free { standing .armed none with admittedCount := 1 })).admission 0 .p0
      ⟨100, 9#32, true⟩ = .surplus ∧
    (∀ j : StreamIx, j ≠ 0 → ((rigged .free (standing .armed none)).streamRec j).enabled = false) ∧
    ((rigged .free (standing .armed none)).streamRec 0).tag = halfAt (gateFrame 1 0 1#8 5#16 []) 16 := by
  refine ⟨?_, by decide +kernel, by decide +kernel, by decide +kernel⟩
  intro s hs; subst hs; decide +kernel

/-! ### Witnesses: the stream table -/

theorem witness_armed :
    (rigged .free (standing .armed none)).streams[(0 : StreamIx)].state = .armed ∧
    (1#4 : Phase) = ((rigged .free (standing .armed none)).currentStep 0).phase ∧
    (2#4 : Phase) ≠ ((rigged .free (standing .armed none)).currentStep 0).phase := by
  decide +kernel

theorem witness_running :
    ∀ s, s = clocked .free 100 (rigged .free { standing .running none with lastAdvance := some 9#32 }) →
      s.streams[(0 : StreamIx)].state = .running ∧ (1#4 : Phase) = (s.currentStep 0).phase ∧
      (2#4 : Phase) ≠ (s.currentStep 0).phase ∧ (2#4 : Phase) = (s.nextStep 0).phase ∧
      (3#4 : Phase) ≠ (s.currentStep 0).phase ∧ (3#4 : Phase) ≠ (s.nextStep 0).phase ∧
      s.streams[(0 : StreamIx)].lastAdvance = some s.timer.cycleCount ∧
      (s.streamRec 0).repeatPolicy = .forward ∧ (s.streamRec 0).strayPolicy = .holdAndQuench := by
  intro s hs; subst hs; decide +kernel

/-- The wrap of a ring of 3: position 2 goes on to position 0. -/
theorem witness_running_wrap :
    ∀ s, s = rigged .free { standing .running none with position := 2 } →
      (1#4 : Phase) ≠ (s.currentStep 0).phase ∧ (1#4 : Phase) = (s.nextStep 0).phase := by
  intro s hs; subst hs; decide +kernel

theorem witness_held :
    (rigged .free (standing .held (some .manual))).streams[(0 : StreamIx)].state = .held ∧
    ((rigged .free (standing .held (some .manual))).streamRec 0).template = some 0 ∧
    ((rigged .free (standing .held (some .manual))).streamRec 127).template = none := by
  decide +kernel

theorem witness_windowClose :
    (∀ s, s = clocked .free 200 (rigged .free { standing .running none with absenceRun := 254 }) →
      s.timer.state = .running ∧ s.active.windows[(0 : WindowIx)].valid = true ∧
      s.active.windows[(0 : WindowIx)].kind = .admitting ∧
      s.active.windows[(0 : WindowIx)].closeOff ≤ s.timer.counter ∧
      s.timer.closesTaken.contains 0 = false ∧ (s.streamRec 0).window = 0 ∧
      s.streams[(0 : StreamIx)].state = .running ∧ s.streams[(0 : StreamIx)].admittedCount = 0 ∧
      (s.streamRec 0).absenceLimit = s.streams[(0 : StreamIx)].absenceRun + 1) ∧
    (∀ s, s = clocked .free 200 (rigged .free { standing .running none with absenceRun := 253 }) →
      (s.streamRec 0).absenceLimit ≠ s.streams[(0 : StreamIx)].absenceRun + 1) ∧
    1 ≤ (rigged .free { standing .held (some .stall) with admittedCount := 1 }).streams[(0 : StreamIx)].admittedCount := by
  refine ⟨?_, ?_, by decide +kernel⟩ <;> intro s hs <;> subst hs <;> decide +kernel

/-- The same set with the fill of stream 0 on. -/
def filling (s : State) : State :=
  { s with bankA := { s.bankA with
      streams := s.bankA.streams.set 0 { s.bankA.streams[0] with fill := true } } }

theorem witness_fillAndHeld :
    (∀ run ∈ [(0 : Nat), 254, 255], ∀ x ∈ [standing .running none, standing .held (some .stall)],
      ∀ s, s = clocked .free 200 (filling (rigged .free { x with absenceRun := run })) →
        (s.streamRec 0).window = 0 ∧ (s.streamRec 0).fill = true ∧ (s.streamRec 0).template = some 0 ∧
        (s.streamRec 0).absenceLimit = 255 ∧ s.streams[(0 : StreamIx)].absenceRun = run ∧
        s.streams[(0 : StreamIx)].state = x.state ∧ s.streams[(0 : StreamIx)].admittedCount = 0) ∧
    ((rigged .free (standing .armed none)).streamRec 0).fill = false := by
  refine ⟨?_, by decide +kernel⟩
  intro run hr x hx s hs
  subst hs
  revert run x
  decide +kernel

/-! ### Witnesses: the cycle timer -/

/-- A pending commit with a target. -/
def pendingTo (target : CommitTarget) (s : State) : State :=
  s.setStaging { s.staging with state := .pending, commit := some ⟨target, some station, 0#32⟩ }

theorem witness_cycleStart :
    ∀ target ∈ [CommitTarget.nextStart, .atCycle 10#32, .atCycle 11#32],
    ∀ s, s = pendingTo target (clocked .free 25000 linked) →
      s.cycleStartDue = true ∧ s.agent.restartWait = none ∧ s.staging.state = .pending ∧
      s.staging.commit = some ⟨target, some station, 0#32⟩ ∧ s.timer.cycleCount + 1#32 = 10#32 := by
  intro target ht s hs
  subst hs
  revert target
  decide +kernel

theorem witness_marks :
    (∀ s, s = clocked .follow 300 (rigged .follow (standing .armed none)) →
      s.timer.state = .running ∧ s.timer.current = some ⟨25000, 50, .follow⟩ ∧
      s.timer.attribution = some ⟨false, true⟩ ∧ s.timer.cycleCount = 9#32 ∧
      s.timer.ended = some ⟨⟨25000, 50, .follow⟩, 25000⟩) ∧
    (∀ o ∈ [(0 : Nat), 50], o ≤ 50) ∧ (∀ o ∈ [(51 : Nat), 24949], 50 < o ∧ o < 25000 - 50) ∧
    (∀ o ∈ [(24950 : Nat), 24999], 25000 - 50 ≤ o ∧ 50 < o) ∧ (8#32 + 1#32 : Word) = 9#32 ∧
    linked.timer.state = .stopped ∧
    (linked.setTimer { linked.timer with state := .armed }).timer.state = .armed := by
  refine ⟨?_, by decide, by decide, by decide, by decide, by decide, by decide⟩
  intro s hs; subst hs; decide +kernel

theorem witness_intervalAndAdvance :
    (∀ s, s = clocked .follow 51 (rigged .follow (standing .armed none)) →
      s.timer.state = .running ∧ s.timer.current = some ⟨25000, 50, .follow⟩ ∧
      s.timer.attribution = some ⟨false, true⟩ ∧ 50 + 1 ≤ s.timer.counter ∧
      (s.ports.get s.active.settings.markPort).reception = none) ∧
    (∀ r, r = (⟨⟨24950, 9#32, true⟩, zeros 200, 274, false, false⟩ : Reception) →
      (receiving .p0 r.start r.frame r.elapsed
        (clocked .follow 24990 (rigged .follow (standing .armed none)))).candidateStart = some r ∧
      128 < r.received ∧ r.advanceEnded = false) := by
  constructor
  · intro s hs; subst hs; decide +kernel
  · intro r hr; subst hr; decide +kernel

/-- A timer whose current start has its on-time mark, or whose cycle just ended ran in FREE mode. -/
def marked (onTime : Bool) (before : FollowMode) : State :=
  let s := clocked .follow 300 (rigged .follow (standing .armed none))
  s.setTimer { s.timer with
    attribution := some ⟨onTime, !onTime⟩, ended := some ⟨⟨25000, 50, before⟩, 25000⟩ }

theorem witness_marksNotTaken :
    (∀ onTime ∈ [true, false], ∀ before ∈ [FollowMode.free, .follow], ∀ s, s = marked onTime before →
      s.timer.state = .running ∧ s.timer.current = some ⟨25000, 50, .follow⟩ ∧
      s.timer.ended = some ⟨⟨25000, 50, before⟩, 25000⟩ ∧ s.timer.cycleCount = 9#32 ∧
      s.timer.attribution = some ⟨onTime, !onTime⟩) ∧
    (clocked .free 300 (rigged .free (standing .armed none))).timer.current = some ⟨25000, 50, .free⟩ ∧
    (∀ f, f = frameTo 0x010000000000#48 0x88B5#16 1 [] →
      halfAt f 12 = 0x88B5#16 ∧ frameVersion f = 1 ∧ frameKind f = 1) ∧
    Port.p0 = linked.active.settings.markPort := by
  refine ⟨?_, by decide, ?_, by decide⟩
  · intro onTime _ before _ s hs; subst hs; exact ⟨rfl, rfl, rfl, rfl, rfl⟩
  · intro f hf; subst hf; decide +kernel

/-- The shortest cycle ends with a frame in reception on the mark port that started with it. -/
def outlasted (f : List Byte) : State :=
  let s := closed (clocked .follow 2500 (rigged .follow (standing .armed none)))
  receiving .p0 ⟨50, 9#32, true⟩ f 2450 (s.setTimer { s.timer with
    current := some ⟨2500, 50, .follow⟩, cycleLength := 2500, attribution := some ⟨false, true⟩ })

theorem witness_heldInterval :
    ∀ s, s = outlasted (zeros 1522) →
      (∀ r, r = (⟨⟨50, 9#32, true⟩, zeros 1522, 2450, false, false⟩ : Reception) →
        (s.ports.get s.active.settings.markPort).reception = some r ∧ s.holdsInterval r = true) ∧
      s.cycleStartDue = true ∧ s.agent.restartWait = none ∧
      s.timer.attribution = some ⟨false, true⟩ ∧ s.timer.state = .running := by
  intro s hs
  subst hs
  refine ⟨?_, ?_, rfl, rfl, rfl⟩
  · intro r hr; subst hr; exact ⟨rfl, rfl⟩
  · decide +kernel

/-- The missing mark of a start whose interval outlasts the cycle is counted when the frame has left
reception, and not before (R75, log 15). -/
theorem test_carriedInterval :
    (match exec .cycleStart (outlasted (zeros 63)) with
     | .next s => decide (s.timer.faultCount = 0) &&
         (match exec (.frameArrival .p0) s with
          | .next t => decide (t.timer.faultCount = 1)
          | _ => false)
     | _ => false) = true := by
  decide +kernel

theorem witness_fitRule :
    linked.timer.state ≠ .running ∧
    (clocked .free 300 (rigged .free (standing .armed none))).timer.state = .running ∧
    ((clocked .free 300 (rigged .free (standing .armed none))).openGuard .p1).isSome = true ∧
    ((clocked .free 299 (rigged .free (standing .armed none))).openGuard .p1 = none ∧
      (clocked .free 299 (rigged .free (standing .armed none))).nextGuard .p1 = some 1) ∧
    ((clocked .free 400 (rigged .free (standing .armed none))).openGuard .p1 = none ∧
      (clocked .free 400 (rigged .free (standing .armed none))).nextGuard .p2 = none) := by
  decide +kernel

/-- A frame of 128 bytes that started late in the cycle at hand, or in the one before it, under FOLLOW. -/
def lateFrame (cycle : Word) (counter : Nat) : State :=
  receiving .p0 ⟨24950, cycle, true⟩ (zeros 128) 272
    (clocked .follow counter (rigged .follow (standing .armed none)))

theorem witness_guardReadings :
    (∀ s, s = clocked .free 299 (rigged .free (standing .armed none)) →
      s.active.windows[(63 : WindowIx)].valid = true ∧
      s.active.windows[(63 : WindowIx)].kind = .guard ∧
      s.active.windows[(63 : WindowIx)].port = .p1 ∧
      s.timer.counter < s.active.windows[(63 : WindowIx)].openOff ∧
      (∀ u : WindowIx, s.active.windows[u].kind = .guard → u = 63)) ∧
    (∀ m ∈ [FollowMode.free, .follow], ∀ target ∈ [CommitTarget.nextStart, .atCycle 10#32, .atCycle 11#32],
      ∀ s, s = pendingTo target (clocked m 400 (rigged m (standing .armed none))) →
        (∀ u : WindowIx, s.active.windows[u].kind = .guard → s.active.windows[u].openOff ≤ 400) ∧
        (∀ u : WindowIx, s.staged.windows[u].valid = false) ∧
        s.timer.state = .running ∧ s.timer.current = some ⟨25000, 50, m⟩ ∧
        s.staging.commit = some ⟨target, some station, 0#32⟩) := by
  refine ⟨?_, ?_⟩
  · intro s hs; subst hs; decide +kernel
  · intro m hm target ht s hs
    subst hs
    refine ⟨?_, ?_, rfl, rfl, rfl⟩ <;> revert m target <;> decide +kernel

theorem witness_pendingAdvance :
    ∀ x ∈ [(9#32, (24990 : Nat)), (8#32, 10)], ∀ s, s = lateFrame x.1 x.2 →
      ∀ r, r = (⟨⟨24950, x.1, true⟩, zeros 128, 272, false, false⟩ : Reception) →
      (s.ports.get s.active.settings.markPort).reception = some r ∧ s.timer.state = .running ∧
      r.received ≤ 128 ∧ s.timer.current = some ⟨25000, 50, .follow⟩ ∧
      s.timer.ended = some ⟨⟨25000, 50, .follow⟩, 25000⟩ ∧ 25000 - 50 ≤ r.start.offset ∧
      s.timer.attribution = some ⟨false, true⟩ := by
  intro x _ s hs r hr
  subst hs
  subst hr
  exact ⟨rfl, rfl, Nat.le_trans (Nat.min_le_right _ _) (show 272 / 2 - 8 ≤ 128 by decide), rfl, rfl, Nat.le_refl _, rfl⟩

/-- The two cases of the pending advance: 40 ticks into the end of the cycle, and 50 ticks of it left. -/
theorem test_pendingAdvance :
    (lateFrame 9#32 24990).pendingAdvance = 40 ∧ (lateFrame 8#32 10).pendingAdvance = 50 := by
  decide +kernel

/-- Something on a port's wire. -/
def sending (p : Port) (x : Transmission) (s : State) : State :=
  s.updateEgress p (fun e => { e with transmitter := .sending x })

theorem witness_guards :
    (∀ s, s = sending .p1 ⟨.notification, zeros 64, 5, some true⟩
        (clocked .free 399 (rigged .free (standing .armed none))) →
      s.agent.restartWait = none ∧ (s.openGuard .p1).isSome = true ∧
      (s.egress.get .p1).transmitter = .sending ⟨.notification, zeros 64, 5, some true⟩) ∧
    (∀ s, s = clocked .free 400 (rigged .free (standing .armed none)) →
      s.timer.state = .running ∧ s.active.windows[(63 : WindowIx)].valid = true ∧
      s.active.windows[(63 : WindowIx)].kind = .guard ∧
      s.active.windows[(63 : WindowIx)].closeOff ≤ s.timer.counter ∧
      s.timer.closesTaken.contains 63 = false) := by
  constructor <;> intro s hs <;> subst hs <;> decide +kernel

/-- A RESTART response is on the wire of P1 as its guard opens, the restart wait at a deadline. -/
def restartCut (deadline : Nat) : State :=
  (sending .p1 ⟨.response true, zeros 64, 5, some true⟩
    (clocked .free 300 (rigged .free (standing .armed none)))).setAgent { linked.agent with
      restartWait := some ⟨deadline, false⟩ }

theorem witness_cutOffs :
    ∀ deadline ∈ [(0 : Nat), 1], ∀ s, s = restartCut deadline →
      (s.openGuard .p1).isSome = true ∧
      (s.egress.get .p1).transmitter = .sending ⟨.response true, zeros 64, 5, some true⟩ ∧
      s.agent.restartWait = some ⟨deadline, false⟩ ∧ s.base = 0 ∧
      s.active.windows[(0 : WindowIx)].kind = .admitting ∧
      s.active.windows[(63 : WindowIx)].kind = .guard := by
  intro deadline hd s hs
  subst hs
  refine ⟨?_, rfl, rfl, rfl, ?_, ?_⟩ <;> revert deadline <;> decide +kernel

/-! ### Witnesses: egress -/

/-- A cyclic queue of n mark entries on P1. -/
def queued (n : Nat) : State :=
  linked.updateEgress .p1 (fun e => { e with cyclic := List.replicate n (.mark 0), selectDue := true })

theorem witness_cyclicOffer :
    ((queued 7).link .p1 = .up ∧ ((queued 7).egress.get .p1).cyclic.length < 8) ∧
    ((queued 8).link .p1 = .up ∧ 8 ≤ ((queued 8).egress.get .p1).cyclic.length) ∧
    State.reset.link .p1 = .down ∧
    (Port.p3 ∈ PortSet.portsWithout 0b1001#4 .p0 ∧ Port.p0 ∉ PortSet.portsWithout 0b1001#4 .p0) := by
  decide

theorem witness_offersAndFrames :
    ([Port.p1, .p2].filter (fun p =>
      !decide ((queued 8).link p = .up ∧ ((queued 8).egress.get p).cyclic.length < 8))).length < 2 ∧
    2 ≤ ([Port.p1, .p2].filter (fun p =>
      !decide (State.reset.link p = .up ∧ (State.reset.egress.get p).cyclic.length < 8))).length ∧
    ((queued 1).egress.get .p1).refersTo 0 = true ∧ (1 : Nat) ≠ State.reset.nextFrame := by
  decide

/-- A held frame stays while an entry refers to it and is released after that. -/
theorem test_frameReleased :
    (((queued 1).holdFrame .p0 [7#8]).releaseFrames.frameBytes 0 = [7#8]) ∧
    ((linked.holdFrame .p0 [7#8]).releaseFrames.frames = []) := by
  decide

/-- A REAL entry of stream 0 at the head of P1's cyclic queue, QS set or clear. -/
def realAtHead (q : Quench) : State :=
  { (rigged .free (standing .running none)).updateEgress .p1 (fun e => { e with
      cyclic := [.real 0 1#4 0], selectDue := true }) with quench := q }

theorem witness_transmitStart :
    (∀ q ∈ [calm, Quench.cold .deasserted],
      ((realAtHead q).egress.get .p1).selectDue = true ∧
      ((realAtHead q).egress.get .p1).transmitter = .idle ∧
      ((realAtHead q).egress.get .p1).cyclic = [.real 0 1#4 0]) ∧
    (realAtHead calm).quench.qs = false ∧
    ((realAtHead (Quench.cold .deasserted)).quench.qs = true ∧
      (realAtHead (Quench.cold .deasserted)).active.settings.quenchEgress.getLsbD 1 = true ∧
      ((realAtHead (Quench.cold .deasserted)).streamRec 0).template = some 0 ∧
      (realAtHead (Quench.cold .deasserted)).active.templates[(0 : TemplateIx)] =
        some (List.replicate 60 0#8)) := by
  decide +kernel

/-- P1 with a head in each queue, its arbiter called. -/
def heads (cyclic : List CyclicEntry) (mgmt : List MgmtEntry) (background : List Nat) (s : State) : State :=
  s.updateEgress .p1 (fun e => { e with
    cyclic := cyclic, mgmt := mgmt, background := background, selectDue := true })

theorem witness_selections :
    (∀ s, s = heads [.mark 0] [] [] (realAtHead calm) ∨ s = heads [.substitute 0 1#4] [] [] (realAtHead calm) ∨
        s = heads [] [.notification (zeros 64)] [0] (realAtHead calm) ∨ s = heads [] [] [0] (realAtHead calm) →
      (s.egress.get .p1).selectDue = true ∧ (s.egress.get .p1).transmitter = .idle ∧
      s.quench.qs = false) ∧
    (∀ s, s = heads [] [.notification (zeros 64)] [0] (clocked .free 299 (realAtHead calm)) →
      s.fits .p1 ((64 + 20) * 2) = false ∧ s.fits .p1 (((s.frameBytes 0).length + 20) * 2) = false) ∧
    (heads [] [.notification (zeros 64)] [0] (realAtHead calm)).fits .p1 ((64 + 20) * 2) = true ∧
    (∃ f, (realAtHead calm).substituteFrame 0 1#4 = some f) ∧
    (realAtHead calm).substituteFrame 127 1#4 = none ∧ ((realAtHead calm).streamRec 127).template = none ∧
    22 ≤ (zeros 60).length := by
  refine ⟨?_, ?_, by decide +kernel, ⟨_, rfl⟩, by decide +kernel, by decide +kernel, by decide⟩
  · rintro s (rfl | rfl | rfl | rfl) <;> exact ⟨rfl, rfl, rfl⟩
  · intro s hs; subst hs; decide +kernel

theorem witness_noRealStarts :
    ∃ t x, exec (.transmitStart .p1) (queued 1) = .next t ∧ (t.egress.get .p1).transmitter = .sending x ∧
      (queued 1).quench.qs = true ∧ (queued 1).active.settings.quenchEgress.getLsbD 1 = true ∧
      ((queued 1).egress.get .p1).isSending = false :=
  ⟨_, _, rfl, rfl, rfl, rfl, rfl⟩

theorem witness_transmitComplete :
    ∀ x ∈ [(⟨.substitute 127, [], 0, none⟩ : Transmission), ⟨.real 0, [], 0, none⟩,
        ⟨.response true, [], 0, some false⟩, ⟨.response false, [], 0, some true⟩,
        ⟨.notification, [], 1, some true⟩],
      ((sending .p3 x linked).egress.get .p3).transmitter = .sending x := by
  decide

/-! ### Witnesses: events -/

/-- LINK enabled for listener 3, which is enabled or not, on P0, with records in the queue. -/
def listening (on : Bool) (records : List NotifRecord) : State :=
  linked.setEvents { linked.events with
    classes := linked.events.classes.set 13 { enabled := true, listener := 3 }
    listeners := linked.events.listeners.set 3 { Listener.cold with enabled := on, addr := station }
    queue := records }

/-- A record of listener 3 in a state after some sends. -/
def recordIn (st : NotifState) (sends : Nat) : NotifRecord :=
  { listener := 3, seq := 0#16, cls := .link, test := false, cycleCount := 0#32, offset := 0
    stream := none, port := some .p1, detail := 1#16, missed := none, sendCount := sends, state := st }

theorem witness_occurrences :
    linked.events.classes[(EventClass.link.number : Fin 16)].enabled = false ∧
    (∀ on ∈ [true, false],
      (listening on []).events.classes[(EventClass.link.number : Fin 16)] = ⟨true, 3⟩ ∧
      (listening on []).events.listeners[(3 : ListenerIx)].enabled = on) ∧
    (listening true (List.replicate 31 (recordIn .unsent 0))).events.queue.length < 32 ∧
    32 ≤ (listening true (List.replicate 32 (recordIn .unsent 0))).events.queue.length := by
  decide

theorem witness_notifications :
    (∀ st ∈ [NotifState.unsent, .resendDue],
      (listening true [recordIn st 1]).events.queue = [recordIn st 1] ∧
      (listening true [recordIn st 1]).events.listeners[(3 : ListenerIx)].port = .p0 ∧
      (listening true [recordIn st 1]).link .p0 = .up ∧
      ((listening true [recordIn st 1]).egress.get .p0).mgmt.length < 4) ∧
    ((listening true [recordIn (.awaiting 0) 3]).events.queue = [recordIn (.awaiting 0) 3] ∧
      0 ≤ (listening true []).base ∧
      (3 : Nat) ≤ (listening true []).events.listeners[(3 : ListenerIx)].retryLimit ∧
      (listening true []).events.listeners[(3 : ListenerIx)].retryLimit < 4) := by
  decide

/-- A due record behind an AWAITING one and before another due one, and an expired one between two others. -/
theorem witness_manyRecords :
    (∀ s, s = listening true
        ([recordIn (.awaiting 9) 1] ++ recordIn .unsent 0 :: [recordIn .resendDue 2]) →
      s.events.listeners[(3 : ListenerIx)].port = .p0 ∧ s.link .p0 = .up ∧
      (s.egress.get .p0).mgmt.length < 4 ∧
      (∀ x ∈ [recordIn (.awaiting 9) 1], ¬ (x.state = .unsent ∨ x.state = .resendDue))) ∧
    (∀ sends ∈ [(3 : Nat), 4], ∀ s, s = listening true
        ([{ recordIn .unsent 0 with seq := 1#16 }, recordIn (.awaiting 9) 1] ++ recordIn (.awaiting 0) sends ::
          [recordIn (.awaiting 0) 1]) →
      (∀ x ∈ [{ recordIn .unsent 0 with seq := 1#16 }, recordIn (.awaiting 9) 1],
        x.listener = 3 → x.seq = 0#16 → ∀ t, x.state = .awaiting t → s.base < t) ∧ 0 ≤ s.base ∧
      s.events.listeners[(3 : ListenerIx)].retryLimit = 3) ∧
    State.reset.link .p0 = .down ∧
    4 ≤ ((linked.updateEgress .p0 (fun e => { e with
      mgmt := List.replicate 4 (.notification []) })).egress.get .p0).mgmt.length := by
  refine ⟨?_, ?_, by decide, by decide⟩
  · intro s hs; subst hs; decide
  · intro sends _ s hs
    subst hs
    refine ⟨?_, Nat.zero_le _, rfl⟩
    intro x hx _ _ t ht
    fin_cases hx
    · cases ht
    · cases ht; exact Nat.zero_lt_succ 8

/-- Two expired records of one number: the first expiry takes the older one alone (log 46). -/
theorem test_oldestExpiredFirst :
    (match exec (.retryTimerExpiry 3 0#16) (listening true
        [recordIn (.awaiting 0) 4, recordIn (.awaiting 0) 4]) with
      | .next t => decide (t.events.queue = [recordIn (.awaiting 0) 4] ∧
          t.events.listeners[(3 : ListenerIx)].lapse = 1 ∧ t.retriesDue = [.retryTimerExpiry 3 0#16])
      | _ => false) = true := by
  decide

/-! ### Witnesses: lease, restage, restart -/

/-- The gate's owner at the end of the lease, with the staging controller in a state. -/
def expiring (g : Staging) : State :=
  { (linked.setStaging g) with
    agent := { linked.agent with
      owner := some { holder := station, token := 7#32, leaseLength := 100, expiry := 0 } } }

theorem witness_leaseExpiry :
    ∀ g ∈ [Staging.cold, { Staging.cold with state := .pending, commit := some ⟨.nextStart, some station, 0#32⟩ },
        { Staging.cold with state := .pending, commit := some ⟨.nextStart, none, 0#32⟩ },
        { Staging.cold with state := .restaging }],
      (expiring g).agent.owner = some ⟨station, 7#32, 100, 0⟩ ∧ 0 ≤ (expiring g).base ∧
      (expiring g).staging = g := by
  intro g _
  exact ⟨rfl, Nat.zero_le _, rfl⟩

theorem witness_restage :
    (∀ g, g = { Staging.cold with
        state := .restaging, restageEnd := some 0, reason := some .apply } →
      (expiring g).staging.state = .restaging ∧ (expiring g).staging.restageEnd = some 0 ∧
      0 ≤ (expiring g).base ∧ (expiring g).staging.reason = some .apply) ∧
    (expiring .cold).staging.state ≠ .restaging := by
  refine ⟨?_, by decide⟩
  intro g hg; subst hg; exact ⟨rfl, rfl, Nat.zero_le _, rfl⟩

theorem witness_restart :
    fine linked .restart 0x0062#16 [] 0 = true ∧
    (∀ q ∈ [calm, Quench.cold .deasserted],
      ∀ g ∈ [Staging.cold, { Staging.cold with state := .pending, commit := some ⟨.nextStart, none, 0#32⟩ }],
      ∀ s ∈ [{ linked with
          quench := q, staging := g, agent := { linked.agent with restartWait := some ⟨0, true⟩ } }],
        s.agent.restartWait = some ⟨0, true⟩ ∧ 0 ≤ s.base ∧ s.quench.qs = q.qs ∧
        s.staging.commit = g.commit) := by
  decide +kernel

/-- A RESTART response still queued on P2, the wait at a deadline. -/
def restartQueued (deadline : Nat) (queue : List MgmtEntry) : State :=
  (linked.updateEgress .p2 (fun e => { e with mgmt := queue })).setAgent { linked.agent with
    restartWait := some ⟨deadline, false⟩ }

theorem witness_restartWait :
    (∀ s, s = restartQueued 0 [.response [] true] →
      s.agent.restartWait = some ⟨0, false⟩ ∧ 0 ≤ s.base ∧
      .response [] true ∈ (s.egress.get .p2).mgmt) ∧
    (restartQueued 1 [.response [] true]).base < 1 ∧
    (∀ (p : Port) (f : List Byte), .response f true ∉ ((restartQueued 0 []).egress.get p).mgmt) := by
  refine ⟨?_, by decide, ?_⟩
  · intro s hs; subst hs; decide
  · intro p f; cases p <;> exact List.not_mem_nil

/-! ### Witnesses: the agent -/

theorem witness_answer :
    (∀ n ∈ [(3 : Nat), 4],
      ((linked.updateEgress .p0 (fun e => { e with
        mgmt := List.replicate n (.notification []) })).egress.get .p0).mgmt.length = n) ∧
    linked.link .p0 = .up ∧ State.reset.link .p0 = .down := by
  decide

/-- A request whose answer stands in the reply cache. -/
def answered : State :=
  (asking 0x0061#16 [] linked).setAgent { (asking 0x0061#16 [] linked).agent with
    cache := [⟨station, 1#16, [1#8]⟩] }

/-- A body of 3 bytes. -/
def unreadable : Request := { port := .p0, source := station, body := [0#8, 1#8, 0#8], overrun := false }

theorem witness_cachedAndUnknown :
    (answered.agent.restartWait = none ∧ answered.agent.intake = [request 0x0061#16 []] ∧
      (request 0x0061#16 []).command = .timerStop ∧ 4 ≤ (request 0x0061#16 []).body.length ∧
      answered.agent.cache.find? (fun x => decide (x.addr = station) && decide (x.tag = 1#16)) =
        some ⟨station, 1#16, [1#8]⟩) ∧
    ((asked unreadable linked).agent.intake = [unreadable] ∧ unreadable.body.length < 4) ∧
    taken (asked (request 0x7777#16 []) linked) .unknownRequest (request 0x7777#16 []) = true := by
  decide +kernel

/-- One request for every command marked "owner", in the form of its code. -/
def ownerForms : List (Instr × Half × List Byte × Nat) :=
  [(.yieldOwnership, 0x0003#16, [], 0), (.withdraw, 0x0031#16, [], 0), (.quench, 0x0042#16, [], 0),
   (.timerStop, 0x0061#16, [], 0), (.restart, 0x0062#16, [], 0), (.holdStream, 0x0040#16, [127#8], 1),
   (.raiseFlag, 0x0054#16, [15#8], 1), (.timerStartImmediate, 0x0060#16, [0#8], 1),
   (.timerStartOnMark, 0x0060#16, [1#8], 1), (.releaseStreamResume, 0x0041#16, [127#8, 0#8], 2),
   (.releaseStreamRearm, 0x0041#16, [127#8, 1#8], 2), (.readCountersClear, 0x0013#16, [0#8, 127#8, 1#8], 3),
   (.setLive, 0x0050#16, [1#8, 0#8, 0#8, 1#8], 4), (.commitNext, 0x0030#16, zeros 5, 5),
   (.commitAt, 0x0030#16, 1#8 :: zeros 4, 5), (.setListener, 0x0051#16, 3#8 :: zeros 8 ++ [1#8, 0#8], 11),
   (.writeSettings, 0x0020#16, settingsBytes .cold, 14), (.writeWindows, 0x0021#16, [63#8, 1#8] ++ zeros 7, 9),
   (.writeStreams, 0x0022#16, [127#8, 1#8] ++ streamBytes .cold, 17),
   (.writeSteps, 0x0023#16, [3#8, 0xFF#8, 1#8] ++ zeros 2, 5),
   (.writeTemplate, 0x0024#16, [31#8, 1#8, 60#8] ++ zeros 60, 63),
   (.setNotify, 0x0052#16, [1#8, 3#8, 1#8, 15#8], 4), (.clearQuench, 0x0043#16, [1#8, 0#8], 2),
   (.clearFlags, 0x0053#16, [1#8, 15#8], 2)]

/-- One request for every command that needs no ownership, in the form of its code. -/
def openForms : List (Instr × Half × List Byte × Nat) :=
  [(.discover, 0x0001#16, [], 0), (.claim, 0x0002#16, [0#8, 100#8], 2), (.readStatus, 0x0010#16, [], 0),
   (.readSet, 0x0011#16, [0#8, 4#8, 0#8, 31#8, 0#8, 1#8], 6), (.readStreamState, 0x0012#16, [41#8, 87#8], 2),
   (.readCounters, 0x0013#16, [1#8, 3#8, 0#8], 3), (.readFlags, 0x0014#16, [], 0),
   (.readFault, 0x0015#16, [], 0), (.ackNotify, 0x0070#16, [3#8, 0#8, 0#8], 3)]

/-- The owner's requests reach their commands with their argument bytes. -/
theorem witness_forms :
    (ownerForms ++ openForms).all (fun x => fine linked x.1 x.2.1 x.2.2.1 x.2.2.2) = true := by
  decide +kernel

/-- With nobody holding the gate, the same requests of a station are not the owner's. -/
theorem witness_notOwner :
    ownerForms.all (fun x =>
      taken (asked (request x.2.1 x.2.2.1) linked) x.1 (request x.2.1 x.2.2.1) &&
        !(asked (request x.2.1 x.2.2.1) linked).ownsGate (request x.2.1 x.2.2.1)) = true := by
  decide +kernel

/-- Each of these requests with one byte too many. -/
theorem witness_malformedBodies :
    (ownerForms ++ openForms).all (fun x =>
      taken (asking x.2.1 (x.2.2.1 ++ [0#8]) linked) x.1 (request x.2.1 (x.2.2.1 ++ [0#8])) &&
        decide ((request x.2.1 (x.2.2.1 ++ [0#8])).body.length = 9 + x.2.2.2)) = true := by
  decide +kernel

/-- A request reaches its command with a body of the right length and is answered RANGE. -/
def outOfRange (x : Instr × Half × List Byte) : Bool :=
  fine linked x.1 x.2.1 x.2.2 x.2.2.length &&
    match exec x.1 (asking x.2.1 x.2.2 linked) with
    | .next t => decide (t.agent.cache.map (fun e => byteAt e.response 26) = [statusByte .range])
    | _ => false

/-- Requests with a value just past its range. -/
theorem witness_range :
    [(Instr.holdStream, 0x0040#16, [128#8]), (.releaseStreamRearm, 0x0041#16, [0#8, 2#8]),
      (.releaseStreamResume, 0x0041#16, [128#8, 0#8]), (.readStreamState, 0x0012#16, [41#8, 88#8]),
      (.readStreamState, 0x0012#16, [42#8, 87#8]), (.readStreamState, 0x0012#16, [0#8, 0#8]),
      (.readCounters, 0x0013#16, [1#8, 4#8, 0#8]), (.readCounters, 0x0013#16, [2#8, 0#8, 0#8]),
      (.readCountersClear, 0x0013#16, [0#8, 128#8, 1#8]), (.ackNotify, 0x0070#16, [4#8, 0#8, 0#8]),
      (.raiseFlag, 0x0054#16, [16#8]), (.commitAt, 0x0030#16, 2#8 :: zeros 4),
      (.timerStartOnMark, 0x0060#16, [2#8]), (.claim, 0x0002#16, [0#8, 99#8]),
      (.claim, 0x0002#16, be16 60001#16)].all outOfRange = true ∧
    [(Instr.readSet, 0x0011#16, [0#8, 5#8, 0#8, 0#8, 0#8, 1#8]),
      (.readSet, 0x0011#16, [2#8, 0#8, 0#8, 0#8, 0#8, 1#8]),
      (.readSet, 0x0011#16, [0#8, 0#8, 0#8, 1#8, 0#8, 1#8]),
      (.readSet, 0x0011#16, [0#8, 1#8, 0#8, 64#8, 0#8, 1#8]),
      (.readSet, 0x0011#16, [0#8, 2#8, 0#8, 0#8, 0#8, 93#8]),
      (.readSet, 0x0011#16, [0#8, 3#8, 0#8, 0#8, 2#8, 0xBA#8]),
      (.readSet, 0x0011#16, [0#8, 4#8, 0#8, 32#8, 0#8, 1#8]),
      (.readSet, 0x0011#16, [0#8, 1#8, 0#8, 0#8, 0#8, 0#8])].all outOfRange = true := by
  decide +kernel

/-- Owner's writes with a value just past its range. -/
theorem witness_writeRange :
    [(Instr.writeSettings, 0x0020#16, zeros 14), (.writeWindows, 0x0021#16, [64#8, 1#8] ++ zeros 7),
      (.writeWindows, 0x0021#16, [0#8, 0#8]), (.writeWindows, 0x0021#16, [0#8, 1#8, 0x04#8] ++ zeros 6),
      (.writeStreams, 0x0022#16, [128#8, 1#8] ++ streamBytes .cold),
      (.writeStreams, 0x0022#16, [0#8, 1#8] ++ zeros 15),
      (.writeSteps, 0x0023#16, [4#8, 0#8, 1#8] ++ zeros 2),
      (.writeSteps, 0x0023#16, [0#8, 0#8, 1#8, 0x10#8, 0#8]),
      (.writeTemplate, 0x0024#16, [32#8, 0#8, 0#8]), (.writeTemplate, 0x0024#16, [0#8, 2#8, 0#8]),
      (.writeTemplate, 0x0024#16, [0#8, 0#8, 1#8, 0#8]),
      (.writeTemplate, 0x0024#16, [0#8, 1#8, 59#8] ++ zeros 59)].all outOfRange = true ∧
    [(Instr.setLive, 0x0050#16, [2#8, 0#8, 0#8, 1#8]), (.setLive, 0x0050#16, [1#8, 2#8, 0#8, 1#8]),
      (.setLive, 0x0050#16, [1#8, 0#8, 3#8, 1#8]), (.setLive, 0x0050#16, [1#8, 0#8, 0#8, 17#8]),
      (.setLive, 0x0050#16, [1#8, 0#8, 0#8, 14#8]),
      (.setListener, 0x0051#16, 4#8 :: zeros 8 ++ [1#8, 0#8]),
      (.setListener, 0x0051#16, [0#8, 2#8] ++ zeros 7 ++ [1#8, 0#8]),
      (.setListener, 0x0051#16, [0#8, 0#8, 1#8] ++ zeros 6 ++ [1#8, 0#8]),
      (.setListener, 0x0051#16, zeros 8 ++ [4#8, 1#8, 0#8]),
      (.setListener, 0x0051#16, zeros 11), (.setListener, 0x0051#16, zeros 9 ++ [1#8, 8#8]),
      (.setNotify, 0x0052#16, [2#8, 0#8, 0#8]), (.setNotify, 0x0052#16, [0#8, 4#8, 0#8]),
      (.setNotify, 0x0052#16, [0#8, 0#8, 1#8, 16#8]), (.clearFlags, 0x0053#16, [1#8, 16#8]),
      (.clearQuench, 0x0043#16, [1#8, 6#8])].all outOfRange = true := by
  decide +kernel

/-! ### Witnesses: what the requests carry -/

theorem witness_reads :
    (asking 0x0001#16 [] linked).agent.owner = some ⟨station, 7#32, 1000, 25000000⟩ ∧
    linked.agent.owner = none ∧ linked.staging.fault = none ∧
    (∀ k ∈ [(0 : Nat), 1, 2, 3, 4],
      ∀ r, r = request 0x0011#16 [1#8, BitVec.ofNat 8 k, 0#8, 0#8, 0#8, 1#8] →
        r.arg 0 = 1 ∧ r.arg 1 = k ∧ natAt r.args 2 2 = 0 ∧ natAt r.args 4 2 = 1) ∧
    (∀ r, r = request 0x0012#16 [41#8, 87#8] → r.arg 0 + r.arg 1 = 128) := by
  refine ⟨by decide, by decide, by decide, ?_, ?_⟩
  · intro k hk r hr
    subst hr
    revert k
    decide +kernel
  · intro r hr; subst hr; decide

/-- A commit that nobody owns any more, and a fault record. -/
def faulted : State :=
  linked.setStaging { linked.staging with
    state := .pending, commit := some ⟨.nextStart, none, 0#32⟩
    fault := some ⟨.step, some 1023, some 127, 10⟩ }

theorem witness_statusAndFault :
    (∀ target ∈ [CommitTarget.nextStart, .atCycle 10#32],
      ∀ s, s = asked (request 0x0010#16 []) (pendingTo target linked) →
        taken s .readStatus (request 0x0010#16 []) = true ∧
        s.staging.commit = some ⟨target, some station, 0#32⟩) ∧
    (∀ s, s = asked (request 0x0015#16 []) faulted →
      taken s .readFault (request 0x0015#16 []) = true ∧ s.staging.fault.isSome = true ∧
      s.staging.commit = some ⟨.nextStart, none, 0#32⟩) := by
  refine ⟨?_, ?_⟩
  · intro target ht s hs
    subst hs
    fin_cases ht <;> decide +kernel
  · intro s hs
    subst hs
    decide +kernel

theorem witness_claim :
    (∀ lease ∈ [(100 : Nat), 60000, 99, 60001],
      natAt (request 0x0002#16 (be16 (BitVec.ofNat 16 lease))).args 0 2 = lease) ∧
    (asking 0x0002#16 [0#8, 100#8] linked).ownsGate (request 0x0002#16 [0#8, 100#8]) = true ∧
    (∀ o, o = (⟨0#48, 0#32, 100, 0⟩ : Owner) → o.holder ≠ station) := by
  refine ⟨by decide, by decide, ?_⟩
  intro o ho; subst ho; decide

theorem witness_stagedWrites :
    linked.staging.state = .ready ∧
    readSettings (request 0x0020#16 (settingsBytes .cold)).args = some .cold ∧
    carriedWindows (request 0x0021#16 ([63#8, 1#8] ++ zeros 7)) = some [.cold] ∧
    carriedStreams (request 0x0022#16 ([127#8, 1#8] ++ streamBytes .cold)) = some [.cold] ∧
    carriedSteps (request 0x0023#16 ([3#8, 0xFF#8, 1#8] ++ zeros 2)) = some [.cold] := by
  decide +kernel

theorem witness_commit :
    validate linked.staged = none ∧ linked.timer.state ≠ .running ∧
    (clocked .free 0 linked).timer.state = .running ∧ (clocked .free 0 linked).timer.cycleCount = 9#32 ∧
    (∀ x ∈ [(10#32, (1 : Nat)), (0x80000009#32, 2147483648), (9#32, 0), (0x8000000A#32, 2147483649)],
      (wordAt (request 0x0030#16 (1#8 :: be32 x.1)).args 1 - 9#32).toNat = x.2) ∧
    (∃ f, validate { Bank.cold with settings := { Settings.cold with tolerance := 65 } } = some f) ∧
    validate (testBank .follow) = none := by
  refine ⟨by decide +kernel, by decide, by decide, by decide, by decide, ⟨_, rfl⟩, by decide +kernel⟩

/-- The test set with a second ADMIT window on P0 that opens as the first closes. -/
theorem witness_validSets :
    ∀ b, b = { testBank .follow with
        windows := (testBank .follow).windows.set 1 ⟨true, .admitting, .p0, 200, 24950⟩ } →
      validate b = none ∧ b.windows[(0 : WindowIx)].valid = true ∧
      b.windows[(1 : WindowIx)].valid = true ∧
      b.windows[(0 : WindowIx)].kind = b.windows[(1 : WindowIx)].kind ∧
      b.windows[(0 : WindowIx)].port = b.windows[(1 : WindowIx)].port ∧
      b.streams[(0 : StreamIx)].enabled = true ∧ b.streams[(0 : StreamIx)].template = some 0 := by
  intro b hb; subst hb; decide +kernel

/-- RELEASING units under each mode of the cycle in progress, or with the timer stopped. -/
theorem witness_rejudgedWaits :
    (∀ m ∈ [FollowMode.free, .follow], ∀ s, s = releasing .cycle (clocked m 0 linked) →
      s.timer.state = .running ∧ s.timer.current = some ⟨25000, 50, m⟩ ∧ s.quench.unit = .releasing ∧
      s.quench.level = .deasserted ∧ s.quench.releaseMode = .immediate) ∧
    (releasing .cycle linked).timer.state ≠ .running ∧
    ReleaseMode.immediate ≠ .mark ∧ ReleaseMode.immediate ≠ .cycle := by
  refine ⟨?_, by decide, by decide, by decide⟩
  intro m _ s hs; subst hs; exact ⟨rfl, rfl, rfl, rfl, rfl⟩

theorem witness_quenchRequests :
    namedCauses (request 0x0043#16 [1#8, 0#8]) = some [.line] ∧
    (quenched ⟨true, false, false, false, false, false⟩ .auto .immediate .asserted).lineEnable = true ∧
    (∀ e ∈ [0#8, 1#8], ∀ ports ∈ [1#8, 14#8],
      (carriedLive (request 0x0050#16 [e, 1#8, 2#8, ports])).isSome = true) := by
  decide +kernel

theorem witness_eventRequests :
    (carriedListener (request 0x0051#16 (3#8 :: zeros 8 ++ [1#8, 0#8]))).isSome = true ∧
    namedClasses (request 0x0052#16 [1#8, 3#8, 1#8, 15#8]) 3 1 = some [.step] ∧
    namedClasses (request 0x0053#16 [1#8, 15#8]) 1 1 = some [.step] ∧
    EventClass.step.number.val = 15 ∧
    (listening true []).events.listeners[(3 : ListenerIx)].addr = station ∧
    linked.events.listeners[(3 : ListenerIx)].addr ≠ station := by
  decide +kernel

theorem witness_records :
    2500 ≤ Settings.cold.period ∧ Settings.cold.period ≤ 1048575 ∧ Settings.cold.tolerance ≤ 64 ∧
    1 ≤ Settings.cold.faultLimit ∧ Settings.cold.faultLimit ≤ 15 ∧
    readStream (streamBytes { StreamRec.cold with template := some 31, ringBase := 1023 }) =
      some { StreamRec.cold with template := some 31, ringBase := 1023 } ∧
    readWindow (windowBytes ⟨true, .guard, .p3, 1048575, 1048575⟩) =
      some ⟨true, .guard, .p3, 1048575, 1048575⟩ := by
  decide +kernel

/-! ### Witnesses: the laws -/

theorem witness_quenchLaw : QuenchLaw State.reset.quench ∧ step State.reset = .next State.reset.tick :=
  ⟨cold_law, rfl⟩

theorem witness_linkLaw : LinkLaw State.reset := by
  constructor <;> intro p <;> cases p <;> decide

theorem witness_capacityLaw : CapacityLaw State.reset := by
  constructor <;> first | (intro p; cases p <;> decide) | decide

theorem witness_validSetLaw : ValidSetLaw State.reset :=
  ⟨⟨by decide, by decide⟩, by decide +kernel, by decide⟩

/-- The laws of the ports hold after reset; a cut-off is due in a state that keeps the guard law. -/
theorem witness_portLaws :
    ReferenceLaw State.reset ∧ GuardLaw State.reset ∧ (restartCut 0).cutDue .p1 = true ∧
    (restartCut 0).active.windows[(63 : WindowIx)].openOff = (restartCut 0).timer.counter := by
  refine ⟨⟨?_, by decide, ?_⟩, ?_, by decide +kernel, by decide +kernel⟩
  · intro x hx; cases hx
  · intro p ref h; cases p <;> cases h
  · intro p h; cases p <;> exact absurd h (by decide +kernel)

theorem witness_streamLaw : StreamLaw State.reset := by
  refine ⟨witness_validSetLaw, ?_, ?_, ?_, ?_, ?_, ?_⟩ <;> decide +kernel

/-! ### Witnesses: what does not take place, link down, the set checks -/

theorem witness_closesNotDue :
    linked.timer.state ≠ .running ∧
    (clocked .free 300 (rigged .free (standing .armed none))).active.windows[(5 : WindowIx)].valid = false ∧
    (∀ s, s = clocked .free 199 (rigged .free (standing .armed none)) →
      s.timer.counter < s.active.windows[(0 : WindowIx)].closeOff ∧
      s.active.windows[(63 : WindowIx)].kind = .guard ∧
      s.active.windows[(0 : WindowIx)].kind = .admitting) ∧
    (closed linked).timer.closesTaken.contains 63 = true ∧
    (∀ s, s = listening true [recordIn .unsent 0, recordIn (.awaiting 5) 1] →
      ∀ r ∈ s.events.queue, r.listener = 3 → r.seq = 0#16 → ∀ t, r.state = .awaiting t → s.base < t) := by
  refine ⟨by decide, by decide +kernel, ?_, by decide, ?_⟩
  · intro s hs; subst hs; decide +kernel
  · intro s hs r hr _ _ t ht
    subst hs
    have hr : r ∈ [recordIn .unsent 0, recordIn (.awaiting 5) 1] := hr
    fin_cases hr
    · cases ht
    · cases ht; decide

/-- P2 goes down with a RESTART response queued there: the wait reads it failed, before 1 ms and at 1 ms. -/
theorem witness_linkDownRestart :
    ∀ deadline ∈ [(0 : Nat), 1], ∀ s, s = restartQueued deadline [.response [] true] →
      s.link .p2 = .up ∧ (s.egress.get .p2).queuesRestart = true ∧ s.base = 0 ∧
      ((((s.setLink .p2 .down).abortReception .p2).flushDown .p2).raise
        (occLink .p2 .down)).agent.restartWait = some ⟨deadline, true⟩ := by
  intro deadline hd s hs
  subst hs
  revert deadline
  decide +kernel

theorem witness_restartSent :
    (restartCut 0).link .p1 = .up ∧ ((restartCut 0).egress.get .p1).sendsRestart = true := by
  decide

/-- A frame that starts at the moment at which one arrives: the arrival is taken first (R130). -/
theorem test_startAtArrival :
    (match exec (.startOfFrame .p2 [1#8]) (receiving .p2 ⟨0, 0#32, false⟩ (zeros 63) 166 linked) with
     | .next s => decide ((s.ports.get .p2).counters.runts = 1#32 ∧
         (s.ports.get .p2).reception.map (fun r => r.frame) = some [1#8])
     | _ => false) = true := by
  decide +kernel

/-- A TIMER-START refused RANGE carries no result (R181), one refused STATE the nine bytes of R66 (log 39). -/
theorem test_timerStartRefusals :
    (match exec .timerStartOnMark (asking 0x0060#16 [2#8] (clocked .free 300 linked)) with
     | .next s => decide (s.agent.cache.map (fun e => (e.response.drop 26).take 3) =
         [[statusByte .range, 0#8, 0#8]])
     | _ => false) = true ∧
    (match exec .timerStartOnMark (asking 0x0060#16 [1#8] (clocked .free 300 linked)) with
     | .next s => decide (s.agent.cache.map (fun e => (e.response.drop 26).take 12) =
         [[statusByte .state, 0#8, 9#8, 2#8, 0#8, 0#8, 1#8, 44#8, 0#8, 0#8, 0#8, 9#8]])
     | _ => false) = true := by
  decide +kernel

/-- A link down on P1, with an interval over on the mark port P0 at that moment, leaves the timer's record
(R63), and so does the arrival of a runt on P1; the close is a command of its own. -/
theorem test_intervalOnOtherPorts :
    (∀ s, s = receiving .p1 ⟨0, 9#32, true⟩ (zeros 63) 166
        (clocked .follow 51 (rigged .follow (standing .armed none))) →
      s.intervalOver = true ∧
      (match exec (.linkDown .p1) s with | .next t => decide (t.timer = s.timer) | _ => false) = true ∧
      (match exec (.frameArrival .p1) s with | .next t => decide (t.timer = s.timer) | _ => false) = true ∧
      (match exec .attributionIntervalClose s with
        | .next t => decide (t.timer.faultCount = 1) | _ => false) = true) := by
  intro s hs; subst hs; decide +kernel

/-- A link down that discards the frame which holds the interval closes it with a missing mark (R75). -/
theorem test_intervalAtLinkDown :
    (match exec (.linkDown .p0) (receiving .p0 ⟨50, 9#32, true⟩ (zeros 200) 250
        (clocked .follow 300 (rigged .follow (standing .armed none)))) with
      | .next t => decide (t.timer.faultCount = 1 ∧ t.timer.attribution = some ⟨false, false⟩)
      | _ => false) = true := by
  decide +kernel

/-- A link down on the mark port with a frame in reception that holds no interval. -/
theorem witness_linkDownHoldsNothing :
    ∀ s, s = receiving .p0 ⟨300, 9#32, true⟩ (zeros 200) 50
        (clocked .follow 350 (rigged .follow (standing .armed none))) →
      s.link .p0 = .up ∧ s.agent.restartWait = none ∧
      (s.ports.get .p0).reception = some ⟨⟨300, 9#32, true⟩, zeros 200, 50, false, false⟩ ∧
      s.holdsInterval ⟨⟨300, 9#32, true⟩, zeros 200, 50, false, false⟩ = false := by
  intro s hs; subst hs; exact ⟨rfl, rfl, rfl, rfl⟩

/-- The interval of the start before at a cycle start: with its mark, without it, and closed. -/
theorem witness_carriedIntervals :
    ∀ a ∈ [(⟨true, true⟩ : Attribution), ⟨false, true⟩, ⟨false, false⟩],
      ∃ s : State, s.timer.attribution = some a ∧
        (s.ports.get s.active.settings.markPort).reception = none ∧ s.cycleStartDue = true := by
  intro a ha
  refine ⟨(closed (clocked .follow 25000 linked)).setTimer
    { (closed (clocked .follow 25000 linked)).timer with attribution := some a }, rfl, rfl, ?_⟩
  revert a
  decide +kernel

/-- A pending commit under an edited stream, at a cycle start of a running timer and at a TIMER-STOP. -/
theorem witness_pendingEnds :
    (∀ s, s = (fun x : State => x.setStaging { x.staging with dirty := x.staging.dirty.set 0 true })
        (pendingTo .nextStart (clocked .free 25000 linked)) →
      s.cycleStartDue = true ∧ s.staging.state = .pending ∧ s.staging.dirty[(0 : StreamIx)] = true ∧
      s.staging.dirty[(127 : StreamIx)] = false) ∧
    (∀ target ∈ [CommitTarget.nextStart, .atCycle 10#32], ∀ wait ∈ [none, some ReleaseWait.mark],
      ∀ s, s = asking 0x0061#16 [] ((pendingTo target (clocked .free 300 linked)).setQuench
          { calm with qs := true, unit := .releasing, wait := wait }) →
        taken s .timerStop (request 0x0061#16 []) = true ∧ s.ownsGate (request 0x0061#16 []) = true ∧
        s.timer.state = .running ∧ s.staging.state = .pending ∧ s.quench.wait = wait ∧
        s.staging.commit = some ⟨target, some station, 0#32⟩) ∧
    (∀ s, s = asking 0x0061#16 [] (linked.setTimer { linked.timer with state := .armed }) →
      taken s .timerStop (request 0x0061#16 []) = true ∧ s.timer.state = .armed) := by
  refine ⟨?_, ?_, ?_⟩
  · intro s hs; subst hs; decide +kernel
  · intro target ht wait hw s hs
    subst hs
    fin_cases ht <;> fin_cases hw <;> decide +kernel
  · intro s hs; subst hs; decide +kernel

/-- The lists whose elements are the values that the bytes carry. -/
theorem witness_carriedLists :
    carries (request 0x0043#16 [1#8, 0#8]) (1 + (request 0x0043#16 [1#8, 0#8]).arg 0) = true ∧
    carries (request 0x0050#16 [1#8, 1#8, 2#8, 14#8]) 4 = true ∧
    carries (request 0x0051#16 (3#8 :: zeros 8 ++ [1#8, 0#8])) 11 = true ∧
    carries (request 0x0052#16 [1#8, 3#8, 1#8, 15#8]) (3 + 1) = true ∧
    carries (request 0x0053#16 [1#8, 15#8]) (1 + 1) = true := by
  decide

/-! ### Due occurrences, starts in a restart wait, kept causes -/

/-- At an ADMIT close with a guard close behind it: what is due and what is not (log 5). -/
theorem test_dueAtACloses :
    (clocked .free 200 (rigged .free (standing .armed none))).dueNow = [.windowClose 0] ∧
    (clocked .free 400 (rigged .free (standing .armed none))).windowsDue = [.windowClose 0, .guardClose 63] ∧
    (closed (clocked .free 25000 (rigged .free (standing .armed none)))).dueNow = [.cycleStart] := by
  decide +kernel

/-- A cycle start is due while a restart waits. -/
def waitingStart (w : RestartWait) : State :=
  (clocked .free 25000 linked).setAgent { linked.agent with restartWait := some w }

/-- The cycle start of a restart wait: the restart follows it once the response has failed and 1 ms is over. -/
theorem test_cycleStartInRestartWait :
    (∀ w ∈ [(⟨0, false⟩ : RestartWait), ⟨1, true⟩, ⟨0, true⟩], (waitingStart w).cycleStartDue = true) ∧
    ([(⟨0, false⟩ : RestartWait), ⟨1, true⟩, ⟨0, true⟩].map (fun w =>
      match exec .cycleStart (waitingStart w) with
      | .next t => decide (t.timer.cycleCount = 10#32 ∧ t.agent.restartWait = some w)
      | _ => false) = [true, true, false]) := by
  decide +kernel

/-- The timer is ARMED, with a pending commit or without. -/
def armedWith (commit : Option CommitTarget) (mode : FollowMode) : State :=
  let s := rigged mode (standing .armed none)
  let t := s.setTimer { s.timer with state := .armed, faultCount := 3 }
  match commit with
  | some target => pendingTo target t
  | none => t

theorem witness_armedStart :
    ∀ mode ∈ [FollowMode.free, .follow],
    ∀ commit ∈ [none, some CommitTarget.nextStart, some (.atCycle 0#32), some (.atCycle 1#32)],
      (armedWith commit mode).timer.state = .armed ∧ (armedWith commit mode).active = testBank mode ∧
      (armedWith commit mode).staging.commit = commit.map (fun x => ⟨x, some station, 0#32⟩) := by
  intro mode _ commit hc
  fin_cases hc <;> exact ⟨rfl, rfl, rfl⟩

/-- A mark whose wire time reaches the first close takes it and not the second, from ARMED and as an early
mark (R67, R73). -/
theorem test_closesPassedByAMark :
    (∀ mode ∈ [FollowMode.free, .follow],
      let t := ((armedWith none mode).timerTakesMark ⟨0, 0#32, false⟩ 80).timer
      t.counter = 200 ∧ t.closesTaken.contains 0 = true ∧ t.closesTaken.contains 63 = false ∧
      t.faultCount = (match mode with | .free => 3 | .follow => 0)) ∧
    (fun t : Timer => t.counter = 200 ∧ t.closesTaken = [0] ∧
        t.ended = some ⟨⟨25000, 50, .follow⟩, 24960⟩)
      ((clocked .follow 199 (rigged .follow (standing .armed none))).judgeMark ⟨24960, 8#32, true⟩ 80).timer := by
  decide +kernel

/-- CLEAR-QUENCH of COMMAND leaves STARTUP, and LINE where it is named while the line is asserted. -/
theorem test_causesThatStay :
    ∀ x ∈ [(([1#8, 1#8] : List Byte), false), ([2#8, 0#8, 1#8], true)],
      (match exec .clearQuench (asking 0x0043#16 x.1 (linked.setQuench
          (quenched ⟨x.2, true, false, false, true, false⟩ .auto .immediate .asserted))) with
        | .next t => decide (t.quench =
            quenched ⟨x.2, false, false, false, true, false⟩ .auto .immediate .asserted)
        | _ => false) = true := by
  decide +kernel

theorem witness_causesThatStay :
    ∀ x ∈ [(([1#8, 1#8] : List Byte), [Cause.command]), ([2#8, 0#8, 1#8], [.line, .command])],
      carries (request 0x0043#16 x.1) (1 + (request 0x0043#16 x.1).arg 0) = true ∧
      namedCauses (request 0x0043#16 x.1) = some x.2 ∧
      taken (asking 0x0043#16 x.1 linked) .clearQuench (request 0x0043#16 x.1) = true ∧
      ((⟨true, true, false, false, true, false⟩ : CauseSet).removeAll x.2).isEmpty = false := by
  decide +kernel

/-- A listener whose port is DOWN, or whose management queue is full, keeps its record UNSENT. -/
theorem witness_recordWithoutOffer :
    ((listening true []).updatePort .p0 (fun u => { u with link := .down })).link .p0 = .down ∧
    (listening true []).events.listeners[(3 : ListenerIx)].port = .p0 ∧
    (((listening true []).updateEgress .p0 (fun e => { e with
      mgmt := List.replicate 4 (.notification []) })).egress.get .p0).mgmt.length = 4 := by
  decide

/-! ### The checks of COMMIT, each failing on its own -/

/-- The test set with its stream 0 changed. -/
def altered (f : StreamRec → StreamRec) : Bank :=
  { testBank .follow with streams := (testBank .follow).streams.set 0 (f (testBank .follow).streams[0]) }

/-- The test set with window 1 valid: ADMIT on P0, between two offsets. -/
def windowed (openOff closeOff : Nat) : Bank :=
  { testBank .follow with windows := (testBank .follow).windows.set 1 ⟨true, .admitting, .p0, openOff, closeOff⟩ }

/-- Check 1 on the settings, 3 to 5 on window 1. -/
theorem test_setAndWindowFaults :
    validate { Bank.cold with settings := { Settings.cold with tolerance := 65 } } =
      some ⟨.settings, none, none, 1⟩ ∧
    validate (windowed 300 300) = some ⟨.window, some 1, none, 3⟩ ∧
    validate (windowed 300 24951) = some ⟨.window, some 1, none, 4⟩ ∧
    validate (windowed 199 24950) = some ⟨.window, some 1, none, 5⟩ := by
  decide +kernel

/-- Checks 6 to 13 on stream 0, and on stream 127 where check 13 compares it with stream 0. -/
theorem test_streamFaults :
    [(fun r : StreamRec => { r with window := 63 }), (fun r => { r with ringBase := 1022 }),
      (fun r => { r with ringLength := 17 }), (fun r => { r with entryStep := 3 }),
      (fun r => { r with framesPerCycle := 5 }), (fun r => { r with template := some 1 })].map
        (fun f => checkStream (altered f) 0) =
      [6, 7, 8, 9, 11, 12].map (fun n => some ⟨.stream, some 0, none, n⟩) ∧
    checkStream (altered (fun r => { r with ringLength := 4 })) 0 = none ∧
    checkStream (altered (fun r => { r with ringBase := 2 })) 0 = some ⟨.step, some 4, some 0, 10⟩ ∧
    checkStream { testBank .follow with
        streams := (testBank .follow).streams.set 127 (testBank .follow).streams[0] } 127 =
      some ⟨.stream, some 127, none, 13⟩ := by
  decide +kernel

end Sys2Proof.Tests
end

section
/-! SUPPORT. What the law of the stream records reads of a state, and the operations that leave it. -/

namespace Sys2Proof.Machine

/-! ### What the law reads -/

/-- What the law of the stream records reads of a state: the runtime records, the staging controller and
both banks. -/
def State.streamPart (s : State) : Vector StreamRun 128 × Staging × Bank × Bank :=
  (s.streams, s.staging, s.bankA, s.bankB)

/-- The changes that touch nothing of what the law of the stream records reads. -/
def Footprint.aside : Footprint :=
  { Footprint.wide with strap := true, streams := false, staging := false, banks := false }

theorem Within.streamPart {s t : State} (w : Within .aside s t) : t.streamPart = s.streamPart := by
  simp only [State.streamPart, w.streams rfl, w.staging rfl, (w.banks rfl).1, (w.banks rfl).2]

/-- A change that leaves banks and staging controller leaves every stream's configuration record. -/
theorem Within.streamRec {f : Footprint} {s t : State} (w : Within f s t) (i : StreamIx)
    (banks : f.banks = false) (staging : f.staging = false) :
    t.streamRec i = s.streamRec i := by
  rw [State.streamRec, w.active banks staging, State.streamRec]

/-! ### The law, stream by stream -/

/-- The clauses of StreamLaw that speak of one runtime record and its configuration record. -/
structure RunLaw (cfg : StreamRec) (r : StreamRun) : Prop where
  holdCause : r.holdCause.isSome = true ↔ r.state = .held
  disabled : r.state = .disabled ↔ cfg.enabled = false
  position : cfg.enabled = true → r.position < cfg.ringLength
  armed : r.state = .armed → r.position = cfg.entryStep
  admitted : cfg.enabled = true → r.admittedCount ≤ cfg.framesPerCycle

/-- The clause of StreamLaw that compares the two sets (R113). -/
def CleanLaw (s : State) : Prop :=
  s.staging.state ≠ .restaging → ∀ i : StreamIx,
    s.staging.dirty[i] = false → s.staged.streams[i] = s.active.streams[i]

theorem streamLaw_iff (s : State) :
    StreamLaw s ↔ ValidSetLaw s ∧ (∀ i, RunLaw (s.streamRec i) s.streams[i]) ∧ CleanLaw s :=
  ⟨fun ⟨sets, cause, disabled, position, armed, admitted, clean⟩ =>
      ⟨sets, fun i => ⟨cause i, disabled i, position i, armed i, admitted i⟩, clean⟩,
    fun ⟨sets, run, clean⟩ => ⟨sets, fun i => (run i).holdCause, fun i => (run i).disabled,
      fun i => (run i).position, fun i => (run i).armed, fun i => (run i).admitted, clean⟩⟩

theorem StreamLaw.run {s : State} (h : StreamLaw s) (i : StreamIx) :
    RunLaw (s.streamRec i) s.streams[i] := by
  obtain ⟨-, run, -⟩ := (streamLaw_iff s).1 h
  exact run i

theorem StreamLaw.of_streamPart {s t : State} (h : StreamLaw s) (e : t.streamPart = s.streamPart) :
    StreamLaw t := by
  cases s
  cases t
  simp only [State.streamPart, Prod.mk.injEq] at e
  obtain ⟨rfl, rfl, rfl, rfl⟩ := e
  exact ⟨⟨h.sets.staging, h.sets.active, h.sets.staged⟩, h.holdCause, h.disabled, h.position, h.armed,
    h.admitted, h.clean⟩

/-- A change aside from streams, staging controller and banks keeps the law. -/
theorem StreamLaw.aside {f : Footprint} {s t : State} (h : StreamLaw s) (w : Within f s t)
    (le : f.le .aside = true) : StreamLaw t :=
  h.of_streamPart (w.mono le).streamPart

/-- A change of one runtime record keeps the law when the new record keeps its clauses. -/
theorem StreamLaw.updateStream {s : State} (h : StreamLaw s) (i : StreamIx) {f : StreamRun → StreamRun}
    (new : RunLaw (s.streamRec i) (f s.streams[i])) : StreamLaw (s.updateStream i f) := by
  refine (streamLaw_iff _).2
    ⟨⟨h.sets.staging, h.sets.active, h.sets.staged⟩, fun j => ?_, h.clean⟩
  by_cases hj : i = j
  · subst hj
    simpa using new
  · rw [updateStream_streams, streams_set_other _ hj, updateStream_streamRec]
    exact h.run j

/-! ### The law of one record through the changes of a record -/

section
variable {cfg : StreamRec} {r r' : StreamRun}

/-- The law of a record reads its state, position, admitted count and hold cause. -/
theorem RunLaw.congr (h : RunLaw cfg r) (state : r'.state = r.state)
    (position : r'.position = r.position)
    (admitted : r'.admittedCount = r.admittedCount)
    (cause : r'.holdCause = r.holdCause) : RunLaw cfg r' := by
  obtain ⟨h1, h2, h3, h4, h5⟩ := h
  constructor <;> simpa only [state, position, admitted, cause]

theorem RunLaw.enabled (h : RunLaw cfg r) (hs : r.state ≠ .disabled) : cfg.enabled = true := by
  simpa using mt h.disabled.2 hs

/-- What is left of the law for a RUNNING stream: it is enabled, inside its ring and not held. -/
theorem RunLaw.of_running (on : cfg.enabled = true) (state : r.state = .running)
    (position : r.position < cfg.ringLength) (admitted : r.admittedCount ≤ cfg.framesPerCycle)
    (cause : r.holdCause = none) : RunLaw cfg r := by
  constructor <;> simp [*]

/-- The hold cause is absent outside HELD. -/
theorem RunLaw.no_cause (h : RunLaw cfg r) (hs : r.state ≠ .held) : r.holdCause = none := by
  simpa using mt h.holdCause.1 hs

theorem RunLaw.locked (h : RunLaw cfg r) (hs : r.state = .armed) (c : Word) :
    RunLaw cfg (r.locked c) := by
  have on := h.enabled (by simp [hs])
  exact .of_running on rfl (h.position on) (h.admitted on) (h.no_cause (by simp [hs]))

theorem RunLaw.advanced (h : RunLaw cfg r) (hs : r.state = .running) (c : Word) :
    RunLaw cfg (r.advanced cfg c) := by
  have on := h.enabled (by simp [hs])
  have inside : nextPosition cfg r.position < cfg.ringLength := by
    have := h.position on
    unfold nextPosition
    split <;> omega
  exact .of_running on hs inside (h.admitted on) (h.no_cause (by simp [hs]))

/-- Entry into HELD of a stream that is not DISABLED (R9). -/
theorem RunLaw.enterHeld (h : RunLaw cfg r) (on : cfg.enabled = true) (c : HoldCause) :
    RunLaw cfg { r with state := .held, holdCause := some c } := by
  constructor <;> simp [on, h.position on, h.admitted on]

/-- An admission below the limit (R56). -/
theorem RunLaw.admit1 (h : RunLaw cfg r) (below : r.admittedCount ≠ cfg.framesPerCycle) :
    RunLaw cfg r.admit1 where
  holdCause := h.holdCause
  disabled := h.disabled
  position := h.position
  armed := h.armed
  admitted on := by
    have := h.admitted on
    show r.admittedCount + 1 ≤ _
    omega

theorem RunLaw.zeroAdmitted (h : RunLaw cfg r) : RunLaw cfg { r with admittedCount := 0 } :=
  ⟨h.holdCause, h.disabled, h.position, h.armed, fun _ => Nat.zero_le _⟩

theorem RunLaw.resumed (h : RunLaw cfg r) (hs : r.state = .held) : RunLaw cfg r.resumed := by
  have on := h.enabled (by simp [hs])
  exact .of_running on rfl (h.position on) (h.admitted on) rfl

/-- The entry step of an enabled stream lies inside its ring (check 9). -/
def EntryInside (cfg : StreamRec) : Prop := cfg.enabled = true → cfg.entryStep < cfg.ringLength

theorem RunLaw.rearmed (h : RunLaw cfg r) (hs : r.state = .held) (entry : EntryInside cfg) :
    RunLaw cfg (r.rearmed cfg) := by
  have on := h.enabled (by simp [hs])
  constructor <;> simp [StreamRun.rearmed, on, entry on, h.admitted on]

theorem RunLaw.seated (r : StreamRun) (entry : EntryInside cfg) : RunLaw cfg (r.seated cfg) := by
  cases on : cfg.enabled with
  | false => constructor <;> simp [StreamRun.seated, on]
  | true => have inside := entry on; constructor <;> simp [StreamRun.seated, on, inside]

theorem RunLaw.restarted (entry : EntryInside cfg) : RunLaw cfg (StreamRun.restarted cfg) := by
  cases on : cfg.enabled with
  | false => constructor <;> simp [StreamRun.restarted, StreamRun.cold, on]
  | true => have inside := entry on; constructor <;> simp [StreamRun.restarted, StreamRun.cold, on, inside]

end

end Sys2Proof.Machine
end

section
/-! SUPPORT. The law of the stream records through the stream table, the staging controller, the timer and
the warm restart. -/

namespace Sys2Proof.Machine

/-! ### The stream table -/

theorem StreamLaw.enabled {s : State} (h : StreamLaw s) {i : StreamIx}
    (hs : s.streams[i].state ≠ .disabled) : (s.streamRec i).enabled = true := (h.run i).enabled hs

/-- A change of one record aside from what its law reads. -/
theorem StreamLaw.updateStream_aside {s : State} (h : StreamLaw s) (i : StreamIx)
    {f : StreamRun → StreamRun} (same : ∀ r : StreamRun, (f r).state = r.state ∧
      (f r).position = r.position ∧ (f r).admittedCount = r.admittedCount ∧ (f r).holdCause = r.holdCause) :
    StreamLaw (s.updateStream i f) := by
  obtain ⟨state, position, admitted, cause⟩ := same s.streams[i]
  exact h.updateStream i ((h.run i).congr state position admitted cause)

theorem StreamLaw.countStream {s : State} (h : StreamLaw s) (i : StreamIx)
    (f : StreamCounters → StreamCounters) : StreamLaw (s.countStream i f) :=
  h.updateStream_aside i (fun _ => ⟨rfl, rfl, rfl, rfl⟩)

theorem StreamLaw.enterHeld {s : State} (h : StreamLaw s) {i : StreamIx} (c : HoldCause)
    (on : (s.streamRec i).enabled = true) : StreamLaw (s.enterHeld i c) :=
  (h.updateStream i ((h.run i).enterHeld on c)).aside (raise_within _ _) rfl

theorem StreamLaw.offerSubstitutes {s : State} (h : StreamLaw s) (i : StreamIx) (p : Port) :
    StreamLaw (s.offerSubstitutes i p) := h.aside (offerSubstitutes_within s i p) rfl

theorem StreamLaw.lock {s : State} (h : StreamLaw s) {i : StreamIx} (hs : s.streams[i].state = .armed)
    (p : Port) (c : Phase) (ref : Nat) : StreamLaw (s.lock i p c ref) :=
  ((h.updateStream i ((h.run i).locked hs s.timer.cycleCount)).aside
    (forwardReal_within _ i p c ref) rfl).aside (raise_within _ _) rfl

theorem StreamLaw.repeated {s : State} (h : StreamLaw s) (i : StreamIx) (p : Port) (c : Phase)
    (ref : Nat) : StreamLaw (s.repeated i p c ref) := by
  have counted := h.countStream i (fun x => { x with repeats := x.repeats + 1#32 })
  unfold State.repeated
  cases (s.streamRec i).repeatPolicy with
  | forward => exact counted.aside (forwardReal_within _ i p c ref) rfl
  | drop => exact counted

theorem StreamLaw.advance {s : State} (h : StreamLaw s) {i : StreamIx}
    (hs : s.streams[i].state = .running) (p : Port) (c : Phase) (ref : Nat) :
    StreamLaw (s.advance i p c ref) := by
  have moved := (h.updateStream i (f := fun r => r.advanced (s.streamRec i) s.timer.cycleCount)
    ((h.run i).advanced hs _)).aside (forwardReal_within _ i p c ref) rfl
  unfold State.advance
  dsimp only
  split
  · exact moved.aside (raise_within _ _) rfl
  · exact moved

theorem StreamLaw.stray {s : State} (h : StreamLaw s) {i : StreamIx}
    (on : (s.streamRec i).enabled = true) (p : Port) (c : Phase) : StreamLaw (s.stray i p c) := by
  have counted : StreamLaw (s.strayed i p c) := (h.countStream i _).aside (raise_within _ _) rfl
  have held : StreamLaw ((s.strayed i p c).enterHeld i .stray) :=
    counted.enterHeld .stray (((strayed_within s i p c).streamRec i rfl rfl).symm ▸ on)
  unfold State.stray
  cases (s.streamRec i).strayPolicy with
  | count => exact counted
  | hold => exact held
  | holdAndQuench => exact held.aside (addCause_within _ _) rfl

/-- The four states of a stream at an admitted frame (R23). -/
theorem StreamLaw.admittedFrame {s : State} (h : StreamLaw s) (i : StreamIx) (p : Port) (c : Phase)
    (ref : Nat) : StreamLaw (s.admittedFrame i p c ref) := by
  unfold State.admittedFrame
  cases hs : s.streams[i].state with
  | disabled => exact h
  | armed =>
    dsimp only
    split
    · exact h.lock hs p c ref
    · exact h.countStream i _
  | running =>
    dsimp only
    split
    · exact h.repeated i p c ref
    · split
      · exact h.advance hs p c ref
      · exact h.stray (h.enabled (by rw [hs]; decide)) p c
  | held => exact h.offerSubstitutes i p

/-! ### The window close -/

theorem StreamLaw.stallStream {s : State} (h : StreamLaw s) {i : StreamIx}
    (on : (s.streamRec i).enabled = true) (p : Port) : StreamLaw (s.stallStream i p) := by
  have raised : StreamLaw (s.raise (occStall i p s.streams[i].absenceRun)) := h.aside (raise_within _ _) rfl
  have held := raised.enterHeld (i := i) .stall (by rwa [raise_streamRec])
  unfold State.stallStream
  cases (s.streamRec i).stallPolicy with
  | hold => exact held
  | holdAndQuench => exact held.aside (addCause_within _ _) rfl

theorem StreamLaw.absentStream {s : State} (h : StreamLaw s) {i : StreamIx}
    (on : (s.streamRec i).enabled = true) (p : Port) : StreamLaw (s.absentStream i p) := by
  have absent : StreamLaw (s.updateStream i StreamRun.absent) :=
    h.updateStream_aside i (fun _ => ⟨rfl, rfl, rfl, rfl⟩)
  unfold State.absentStream
  dsimp only
  generalize hu : (if (s.streamRec i).fill then (s.updateStream i StreamRun.absent).offerSubstitutes i p
    else s.updateStream i StreamRun.absent) = u
  obtain ⟨law, same⟩ : StreamLaw u ∧ u.streamRec i = s.streamRec i := by
    subst hu
    split
    · exact ⟨absent.offerSubstitutes i p, (offerSubstitutes_within _ i p).streamRec i rfl rfl⟩
    · exact ⟨absent, rfl⟩
  split
  · exact law.stallStream (same.symm ▸ on) p
  · exact law

theorem StreamLaw.examineStream {s : State} (h : StreamLaw s) (w : WindowIx) (i : StreamIx) :
    StreamLaw (s.examineStream w i) := by
  unfold State.examineStream
  split
  · next bound =>
    have on := h.enabled (i := i) (by rcases bound.2 with hs | hs <;> rw [hs] <;> decide)
    split
    · exact h.updateStream_aside i (fun _ => ⟨rfl, rfl, rfl, rfl⟩)
    · exact h.absentStream on _
  · exact h

/-- A list of changes, each of which keeps the law. -/
theorem StreamLaw.foldl {α : Type} {change : State → α → State}
    (keeps : ∀ t x, StreamLaw t → StreamLaw (change t x)) (l : List α) {s : State} (h : StreamLaw s) :
    StreamLaw (l.foldl change s) :=
  List.foldlRecOn l change h (fun t ht x _ => keeps t x ht)

theorem StreamLaw.takeClose {s : State} (h : StreamLaw s) (w : WindowIx) : StreamLaw (s.takeClose w) := by
  have noted : StreamLaw (s.noteClose w) := h.aside (noteClose_within s w) rfl
  unfold State.takeClose
  cases s.active.windows[w].kind with
  | admitting => exact noted.foldl (fun t i ht => ht.examineStream w i) allStreams
  | guard => exact noted.aside (callSelection_within _ _) rfl

theorem StreamLaw.zeroAdmitted {s : State} (h : StreamLaw s) : StreamLaw s.zeroAdmitted := by
  refine (streamLaw_iff _).2
    ⟨⟨h.sets.staging, h.sets.active, h.sets.staged⟩, fun i => ?_, h.clean⟩
  simpa [State.zeroAdmitted] using (h.run i).zeroAdmitted

/-! ### The staging controller -/

/-- A valid set has the entry step of every enabled stream inside its ring. -/
theorem entryInside_of_valid {b : Bank} (valid : validate b = none) (i : StreamIx) :
    EntryInside b.streams[i] := by
  intro on
  obtain ⟨-, -, -, streams⟩ := (validate_none b).1 valid
  exact streams i on 9

theorem StreamLaw.entryInside {s : State} (h : StreamLaw s) (i : StreamIx) : EntryInside (s.streamRec i) :=
  entryInside_of_valid h.sets.active i

/-- Outside PENDING there is no pending commit record (R111, R118). -/
theorem StagingLaw.no_commit {g : Staging} (h : StagingLaw g) (hs : g.state ≠ .pending) :
    g.commit = none := by simpa using mt h.commit.1 hs

/-- Outside RESTAGING there is no restage reason (R111). -/
theorem StagingLaw.no_reason {g : Staging} (h : StagingLaw g) (hs : g.state ≠ .restaging) :
    g.reason = none := by simpa using mt h.reason.1 hs

theorem beginRestage_restaging {s : State} (hs : s.staging.state = .restaging) (why : RestageReason) :
    s.beginRestage why = s := by
  simp [State.beginRestage, hs]

theorem beginRestage_starts {s : State} (hs : s.staging.state ≠ .restaging) (why : RestageReason) :
    s.beginRestage why = s.setStaging { s.staging with
      state := .restaging, reason := some why, dirty := Vector.replicate 128 false
      restageEnd := some (s.base + Config.restageTicks) } := by
  unfold State.beginRestage
  cases h : s.staging.state with
  | restaging => exact absurd h hs
  | ready => rfl
  | pending => rfl

/-- A restage begins, or goes on: what is left of the law is that no commit is pending, the active set is
valid and every runtime record agrees with it. -/
theorem streamLaw_beginRestage {s : State} (commit : s.staging.commit = none)
    (reason : s.staging.state = .restaging → s.staging.reason.isSome = true)
    (valid : validate s.active = none) (run : ∀ i, RunLaw (s.streamRec i) s.streams[i])
    (why : RestageReason) : StreamLaw (s.beginRestage why) := by
  by_cases hs : s.staging.state = .restaging
  · rw [beginRestage_restaging hs]
    exact (streamLaw_iff _).2
      ⟨⟨⟨by simp [commit, hs], by simp [reason hs, hs]⟩, valid, by simp [hs]⟩, run, fun hc => absurd hs hc⟩
  · rw [beginRestage_starts hs]
    exact (streamLaw_iff _).2
      ⟨⟨⟨by simp [commit], by simp⟩, valid, by simp⟩, run, fun hc => absurd rfl hc⟩

theorem StreamLaw.beginRestage {s : State} (h : StreamLaw s) (ready : s.staging.state = .ready)
    (why : RestageReason) : StreamLaw (s.beginRestage why) :=
  streamLaw_beginRestage (h.sets.staging.no_commit (by simp [ready])) (by simp [ready]) h.sets.active
    h.run why

/-- The runtime records after the swap and the reseat of R120. -/
theorem reseatDirty_swapBanks (s : State) (i : StreamIx) :
    s.swapBanks.reseatDirty.streams[i] =
      if s.staging.dirty[i] then s.streams[i].seated s.staged.streams[i] else s.streams[i] :=
  tableOf_getElem _ i.val i.isLt

/-- After the swap a dirty stream is seated from the new set, and a clean one has the same record in it. -/
theorem StreamLaw.applyCommit {s : State} (h : StreamLaw s) (hs : s.staging.state ≠ .restaging)
    (valid : validate s.staged = none) : StreamLaw s.applyCommit := by
  unfold State.applyCommit
  refine StreamLaw.aside (streamLaw_beginRestage ?_ ?_ ?_ (fun i => ?_) _) (callSelections_within _) rfl
  · rw [raise_staging]; rfl
  · rw [raise_staging]; exact fun hc => absurd hc hs
  · rw [raise_active]; exact valid
  · rw [raise_streamRec, raise_streams]
    show RunLaw s.staged.streams[i] s.swapBanks.reseatDirty.streams[i]
    rw [reseatDirty_swapBanks]
    cases dirty : s.staging.dirty[i] with
    | true => exact .seated _ (entryInside_of_valid valid i)
    | false => rw [h.clean hs i dirty]; exact h.run i

/-- A change of the staging record that leaves the roles of the banks. -/
theorem StreamLaw.setStaging {s : State} (h : StreamLaw s) {g : Staging} (law : StagingLaw g)
    (staged : g.state = .pending → validate s.staged = none)
    (clean : g.state ≠ .restaging → ∀ i : StreamIx,
      g.dirty[i] = false → s.staged.streams[i] = s.active.streams[i])
    (active : g.active = s.staging.active) :
    StreamLaw (s.setStaging g) := by
  have act : (s.setStaging g).active = s.active := by simp [State.active, State.bank, active]
  have stg : (s.setStaging g).staged = s.staged := by simp [State.staged, State.bank, active]
  refine (streamLaw_iff _).2 ⟨⟨law, by rw [act]; exact h.sets.active, by rw [stg]; exact staged⟩,
    fun i => ?_, fun hs i hd => ?_⟩
  · rw [State.streamRec, act]; exact h.run i
  · rw [act, stg]; exact clean hs i hd

/-- A write into the staged set, outside PENDING. -/
theorem StreamLaw.setStaged {s : State} (h : StreamLaw s) {b : Bank} (hs : s.staging.state ≠ .pending)
    (clean : s.staging.state ≠ .restaging → ∀ i : StreamIx,
      s.staging.dirty[i] = false → b.streams[i] = s.active.streams[i]) : StreamLaw (s.setStaged b) := by
  refine (streamLaw_iff _).2 ⟨⟨?_, ?_, ?_⟩, fun i => ?_, ?_⟩
  · rw [setStaged_staging]; exact h.sets.staging
  · rw [setStaged_active]; exact h.sets.active
  · rw [setStaged_staging]; exact fun hc => absurd hc hs
  · rw [State.streamRec, setStaged_active, setStaged_streams]; exact h.run i
  · rw [CleanLaw, setStaged_staging, setStaged_staged, setStaged_active]; exact clean

theorem StreamLaw.withdrawCommit {s : State} (h : StreamLaw s) (hs : s.staging.state = .pending)
    (code : Half) : StreamLaw (s.withdrawCommit code) := by
  have reason := h.sets.staging.no_reason (by simp [hs])
  have withdrawn : StreamLaw (s.setStaging { s.staging with commit := none, state := .ready }) :=
    h.setStaging ⟨by simp, by simp [reason]⟩ (fun hc => nomatch hc) (fun _ => h.clean (by simp [hs]))
      rfl
  exact (withdrawn.aside (raise_within _ _) rfl).aside (callSelections_within _) rfl

theorem StreamLaw.stagingCycleStart {s : State} (h : StreamLaw s) : StreamLaw s.stagingCycleStart := by
  unfold State.stagingCycleStart
  split
  · next met => exact h.applyCommit (by simp [met.1]) (h.sets.staged met.1)
  · exact h

theorem StreamLaw.stagingTimerStop {s : State} (h : StreamLaw s) : StreamLaw s.stagingTimerStop := by
  unfold State.stagingTimerStop
  cases hs : s.staging.state with
  | ready => exact h
  | restaging => exact h
  | pending =>
    cases s.staging.commit with
    | none => exact h
    | some c =>
      dsimp only
      cases c.target with
      | nextStart => exact h.applyCommit (by simp [hs]) (h.sets.staged hs)
      | atCycle n => exact h.withdrawCommit hs _

theorem StreamLaw.stagingLeaseExpiry {s : State} (h : StreamLaw s) (a : StationAddr) :
    StreamLaw (s.stagingLeaseExpiry a) := by
  unfold State.stagingLeaseExpiry
  cases hs : s.staging.state with
  | restaging => exact h
  | ready => exact h.beginRestage hs _
  | pending =>
    cases s.staging.commit with
    | none => exact h
    | some c =>
      dsimp only
      split
      · refine (h.withdrawCommit hs _).beginRestage ?_ _
        simp [State.withdrawCommit]
      · exact h

theorem StreamLaw.stagingYield {s : State} (h : StreamLaw s) : StreamLaw s.stagingYield := by
  unfold State.stagingYield
  cases hc : s.staging.commit with
  | none => exact h
  | some c =>
    have pending : s.staging.state = .pending := h.sets.staging.commit.1 (by simp [hc])
    exact h.setStaging ⟨by simp [pending], h.sets.staging.reason⟩ h.sets.staged h.clean rfl

/-- A commit is made pending on a valid staged set (R117). -/
theorem StreamLaw.makePending {s : State} (h : StreamLaw s) (ready : s.staging.state = .ready)
    (valid : validate s.staged = none) (t : CommitTarget) : StreamLaw (s.makePending t) := by
  have reason := h.sets.staging.no_reason (by simp [ready])
  have pending : StreamLaw (s.setStaging { s.staging with
      state := .pending
      commit := some { target := t, owner := s.agent.owner.map (fun o => o.holder)
                       requestedAt := s.timer.cycleCount } }) :=
    h.setStaging ⟨by simp, by simp [reason]⟩ (fun _ => valid)
      (fun _ => h.clean (by simp [ready])) rfl
  exact pending.aside (callSelections_within _) rfl

theorem raiseStageReady_within (s : State) : Within .raising s s.raiseStageReady := by
  unfold State.raiseStageReady
  split
  · exact raise_within s _
  · exact .refl _ s

theorem completeRestage_streamPart (s : State) :
    s.completeRestage.streamPart = ((s.setStaged s.active).setStaging
      { s.staging with state := .ready, restageEnd := none, reason := none }).streamPart := by
  have w := raiseStageReady_within ((s.setStaged s.active).setStaging
    { s.staging with state := .ready, restageEnd := none })
  simp [State.completeRestage, State.streamPart, w.streams rfl, w.staging rfl, w.banks rfl]

/-- A restage that completes leaves equal sets (R123). -/
theorem StreamLaw.completeRestage {s : State} (h : StreamLaw s) (hs : s.staging.state = .restaging) :
    StreamLaw s.completeRestage := by
  have commit := h.sets.staging.no_commit (by simp [hs])
  have copied : StreamLaw (s.setStaged s.active) := h.setStaged (by simp [hs]) (fun hc => absurd hs hc)
  refine (copied.setStaging ?_ ?_ ?_ ?_).of_streamPart (completeRestage_streamPart s)
  · exact ⟨by simp [commit], by simp⟩
  · exact fun hc => nomatch hc
  · simp
  · simp

/-! ### The staged writes (R112, R113) -/

/-- Further dirty marks. -/
theorem StreamLaw.markDirty {s : State} (h : StreamLaw s) (test : StreamIx → Bool) :
    StreamLaw (s.markDirty test) := by
  refine h.setStaging ⟨h.sets.staging.commit, h.sets.staging.reason⟩ h.sets.staged (fun hs i hd => ?_) rfl
  rw [Fin.getElem_fin, tableOf_getElem, Bool.or_eq_false_iff] at hd
  exact h.clean hs i hd.1

theorem markDirty_setStaged (s : State) (b : Bank) (test : StreamIx → Bool) :
    (s.setStaged b).markDirty test = (s.markDirty test).setStaged b := by
  cases ha : s.staging.active <;> simp [State.setStaged, State.markDirty, State.setStaging, ha]

/-- A staged write of stream records, which marks every stream whose record it changes. -/
theorem StreamLaw.setStaged_markDirty {s : State} (h : StreamLaw s) (ready : s.staging.state = .ready)
    {b : Bank} {test : StreamIx → Bool}
    (same : ∀ i : StreamIx, test i = false → b.streams[i] = s.staged.streams[i]) :
    StreamLaw ((s.setStaged b).markDirty test) := by
  have marked := h.markDirty test
  rw [markDirty_setStaged]
  refine marked.setStaged (by simp [State.markDirty, ready]) (fun hs i hd => ?_)
  rw [← marked.clean hs i hd]
  refine (same i ?_).trans rfl
  rw [State.markDirty, setStaging_staging, Fin.getElem_fin, tableOf_getElem, Bool.or_eq_false_iff] at hd
  exact hd.2

/-- A staged write of other records. -/
theorem StreamLaw.setStaged_ready {s : State} (h : StreamLaw s) (ready : s.staging.state = .ready)
    {b : Bank} (same : b.streams = s.staged.streams) : StreamLaw (s.setStaged b) :=
  h.setStaged (by simp [ready]) (fun hs i hd => same ▸ h.clean hs i hd)

theorem readMany_length {α : Type} {read : List Byte → Option α} {size n : Nat} {a : List Byte}
    {xs : List α} (h : readMany read size n a = some xs) : xs.length = n := by
  induction n generalizing a xs with
  | zero => cases h; rfl
  | succ n ih =>
    simp only [readMany, Option.bind_eq_bind, Option.bind_eq_some_iff] at h
    obtain ⟨x, -, ys, hys, e⟩ := h
    cases e
    simp [ih hys]

/-- A run of records leaves the records outside it (R112). -/
theorem writeRun_outside {α : Type} {n : Nat} (xs : List α) (v : Vector α n) (first : Nat) (i : Fin n)
    (outside : i.val < first ∨ first + xs.length ≤ i.val) : (writeRun v first xs)[i] = v[i] := by
  induction xs generalizing v first with
  | nil => rfl
  | cons x xs ih =>
    rw [List.length_cons] at outside
    rw [writeRun, ih _ _ (by omega)]
    split
    · simp [show first ≠ i.val by omega]
    · rfl

/-! ### The timer -/

theorem StreamLaw.inEitherOrder {s : State} (h : StreamLaw s) (both : Bool) {f g : State → State}
    (hf : ∀ t, StreamLaw t → StreamLaw (f t)) (hg : ∀ t, StreamLaw t → StreamLaw (g t)) :
    StreamLaw (inEitherOrder both f g s) := by
  have drawn : StreamLaw (s.draw 1) := h.aside (draw_within s 1) rfl
  unfold Machine.inEitherOrder
  split
  · split
    · exact hg _ (hf _ drawn)
    · exact hf _ (hg _ drawn)
  · exact hg _ (hf _ h)

theorem StreamLaw.handCycleStart {s : State} (h : StreamLaw s) (first : Bool) :
    StreamLaw (s.handCycleStart first) := by
  have begun := (h.stagingCycleStart.aside (beginCycle_within _ first) rfl).zeroAdmitted
  exact (begun.inEitherOrder _ (fun t ht => ht.aside (quenchCycleStart_within t) rfl)
    (fun t ht => ht.aside (cutOffs_within t) rfl)).aside (callSelections_within _) rfl

theorem StreamLaw.periodMatch {s : State} (h : StreamLaw s) : StreamLaw s.periodMatch :=
  ((h.aside (carryInterval_within s) rfl).aside (setTimer_within _ _) rfl).handCycleStart false

theorem StreamLaw.advanceCounter {s : State} (h : StreamLaw s) (x : Nat) :
    StreamLaw (s.advanceCounter x) := by
  have closed := StreamLaw.foldl (fun t w ht => ht.takeClose w)
    (sortByClose s.active (allWindows.filter (fun w =>
      s.active.windows[w].valid && decide (s.timer.counter < s.active.windows[w].closeOff) &&
        decide (s.active.windows[w].closeOff ≤ x) && !s.timer.closesTaken.contains w.val)))
    (h.aside (setTimer_within s { s.timer with counter := x }) rfl)
  exact (closed.aside (cutOffs_within _) rfl).aside (callSelections_within _) rfl

theorem StreamLaw.earlyMark {s : State} (h : StreamLaw s) (o w : Nat) : StreamLaw (s.earlyMark o w) :=
  ((h.advanceCounter w).aside (setTimer_within _ _) rfl).aside (onTimeMark_within _) rfl

/-- What judging a mark comes to (R70): nothing, a fault, a late mark, or an early one. -/
theorem judgeMark_cases (s : State) (r : StartRecord) (len : Nat) :
    s.judgeMark r len = s ∨ s.judgeMark r len = s.markFault 1#16 ∨
    (∃ c o, s.judgeMark r len = s.lateMark c o) ∨ ∃ o w, s.judgeMark r len = s.earlyMark o w := by
  unfold State.judgeMark
  repeat' split
  all_goals simp

theorem StreamLaw.judgeMark {s : State} (h : StreamLaw s) (r : StartRecord) (len : Nat) :
    StreamLaw (s.judgeMark r len) := by
  obtain e | e | ⟨c, o, e⟩ | ⟨o, w, e⟩ := judgeMark_cases s r len <;> rw [e]
  · exact h
  · exact h.aside (markFault_within s _) rfl
  · exact h.aside (lateMark_within s c o) rfl
  · exact h.earlyMark o w

theorem StreamLaw.startOnMark {s : State} (h : StreamLaw s) (len : Nat) :
    StreamLaw (s.startOnMark len) := by
  have started := ((h.aside (setTimer_within s { s.timer with
    state := .running, cycleCount := 0#32, counter := wireTime len }) rfl).handCycleStart true)
  unfold State.startOnMark
  dsimp only
  split
  · exact (started.aside (setTimer_within _ _) rfl).aside (onTimeMark_within _) rfl
  · exact started.aside (setTimer_within _ _) rfl

theorem StreamLaw.timerTakesMark {s : State} (h : StreamLaw s) (r : StartRecord) (len : Nat) :
    StreamLaw (s.timerTakesMark r len) := by
  unfold State.timerTakesMark
  cases s.timer.state with
  | stopped => exact h
  | armed =>
    dsimp only
    split
    · exact h.startOnMark len
    · exact h
  | running => exact h.judgeMark r len

theorem StreamLaw.stopTimer {s : State} (h : StreamLaw s) : StreamLaw s.stopTimer := by
  have stopped : StreamLaw (s.setTimer s.timer.stop) := h.aside (setTimer_within s _) rfl
  unfold State.stopTimer
  split
  · exact ((stopped.aside (breakRuns_within _) rfl).aside (callSelections_within _) rfl).inEitherOrder _
      (fun t ht => ht.stagingTimerStop) (fun t ht => ht.aside (quenchTimerStop_within t) rfl)
  · exact stopped

/-! ### The resets -/

theorem StreamLaw.warmRestart {s : State} (h : StreamLaw s) : StreamLaw s.warmRestart := by
  have run (i : StreamIx) : RunLaw (s.restartBlocks.streamRec i) s.restartBlocks.streams[i] := by
    have restarted : s.restartBlocks.streams[i] = StreamRun.restarted (s.streamRec i) :=
      mapTable_getElem _ _ i.val i.isLt
    rw [restarted]
    exact .restarted (h.entryInside i)
  have reason : s.restartBlocks.staging.state = .restaging →
      s.restartBlocks.staging.reason.isSome = true := by
    show s.staging.restarted.state = _ → s.staging.reason.isSome = true
    rw [h.sets.staging.reason]
    cases hs : s.staging.state <;> simp [Staging.restarted, hs]
  have restaged := streamLaw_beginRestage (s := s.restartBlocks) rfl reason h.sets.active run .restart
  have base : StreamLaw s.restartBase := restaged.aside (releaseFrames_within _) rfl
  exact base.of_streamPart (warmRestart_keeps State.streamPart (fun t o => by simp [State.streamPart])
    (fun t n => rfl) s)

theorem StreamLaw.settleRestart {s : State} (h : StreamLaw s) : StreamLaw s.settleRestart := by
  unfold State.settleRestart
  split
  · split
    · exact h.warmRestart
    · exact h
  · exact h

/-- The default set is valid: no window is valid and no stream enabled in it. -/
theorem validate_cold : validate Bank.cold = none := by
  refine (validate_none _).2 ⟨(checkSettings_none _).1 rfl, fun w => ?_, fun w => ?_, fun i => ?_⟩
  · intro hv; simp [Bank.cold, WindowRec.cold] at hv
  · intro hv; simp [Bank.cold, WindowRec.cold] at hv
  · intro on; simp [Bank.cold, StreamRec.cold] at on

theorem streamLaw_coldReset (s : State) (strap : BitVec 4) (links : PerPort LinkState)
    (level : LineLevel) : StreamLaw (s.coldReset strap links level) := by
  refine (streamLaw_iff _).2
    ⟨⟨⟨by simp [State.coldReset, Staging.cold], by simp [State.coldReset, Staging.cold]⟩, validate_cold,
      fun hs => nomatch hs⟩, fun i => ?_, fun _ _ _ => rfl⟩
  have cfg : (s.coldReset strap links level).streamRec i = StreamRec.cold := by
    show Bank.cold.streams[i] = _
    simp [Bank.cold]
  have run : (s.coldReset strap links level).streams[i] = StreamRun.cold := by
    show (Vector.replicate 128 StreamRun.cold)[i] = _
    simp
  rw [cfg, run]
  exact .restarted (cfg := .cold) (fun on => nomatch on)

/-- The state at power-up keeps the law: its stream records, sets and staging record are those of a cold
reset. -/
theorem streamLaw_reset : StreamLaw State.reset :=
  (streamLaw_coldReset State.reset 0#4 ⟨.down, .down, .down, .down⟩ .deasserted).of_streamPart rfl

end Sys2Proof.Machine
end

section
/-! SUPPORT. The law of the stream records through the arbiter, the arrival of a frame and the requests. -/

namespace Sys2Proof.Machine

/-! ### The arbiter -/

theorem StreamLaw.startSubstitute {s : State} (h : StreamLaw s) (p : Port) (i : StreamIx) (c : Phase) :
    StreamLaw (s.startSubstitute p i c).1 := by
  unfold State.startSubstitute
  cases s.substituteFrame i c with
  | some frame => exact h.aside (beginSending_within s _ _ _ _) rfl
  | none => dsimp only; exact h.countStream i _

theorem StreamLaw.startCyclic {s : State} (h : StreamLaw s) (p : Port) (e : CyclicEntry) :
    StreamLaw (s.startCyclic p e).1 := by
  cases e with
  | real i c ref =>
    unfold State.startCyclic
    dsimp only
    split
    · exact h.startSubstitute p i c
    · exact h.aside (beginSending_within s _ _ _ _) rfl
  | substitute i c => exact h.startSubstitute p i c
  | mark ref => exact h.aside (beginSending_within s _ _ _ _) rfl

theorem StreamLaw.startBackground {s : State} (h : StreamLaw s) (p : Port) (ref : Nat) :
    StreamLaw (s.startBackground p ref).1 := by
  unfold State.startBackground
  split <;> dsimp only
  · exact h.aside (countPort_within s _ _) rfl
  · exact h.aside (beginSending_within s _ _ _ _) rfl

theorem StreamLaw.selectMgmt {s t : State} (h : StreamLaw s) {p : Port} (ht : s.selectMgmt p = some t) :
    StreamLaw t := by
  unfold State.selectMgmt at ht
  split at ht
  · split at ht
    · obtain rfl := Option.some.inj ht
      exact (h.aside (updateEgress_within s p _) rfl).aside (beginSending_within _ _ _ _ _) rfl
    · cases ht
  · cases ht

theorem StreamLaw.selectRounds {s : State} (h : StreamLaw s) (p : Port) (n : Nat) :
    StreamLaw (State.selectRounds p n s) := by
  induction n generalizing s with
  | zero => unfold State.selectRounds; exact h.aside (updateEgress_within s p _) rfl
  | succ n ih =>
    unfold State.selectRounds
    cases (s.egress.get p).cyclic with
    | cons e rest =>
      have dequeued := h.aside (updateEgress_within s p (fun x => { x with cyclic := rest })) rfl
      have started := dequeued.startCyclic p e
      dsimp only
      split
      · exact started
      · exact ih started
    | nil =>
      cases hm : s.selectMgmt p with
      | some t => exact h.selectMgmt hm
      | none =>
        cases s.fittingBackground p with
        | none => dsimp only; exact h.aside (updateEgress_within s p _) rfl
        | some entry =>
          have started := (h.aside (updateEgress_within s p
            (fun x => { x with background := entry.2 })) rfl).startBackground p entry.1
          dsimp only
          split
          · exact started
          · exact ih started

theorem StreamLaw.select {s : State} (h : StreamLaw s) (p : Port) : StreamLaw (s.select p) :=
  (h.aside (updateEgress_within s p _) rfl).selectRounds p _

theorem StreamLaw.completeSent {s : State} (h : StreamLaw s) (x : Sent) : StreamLaw (s.completeSent x) := by
  cases x with
  | substitute i => unfold State.completeSent; exact h.countStream i _
  | response isRestart =>
    cases isRestart with
    | true => exact h.warmRestart
    | false => exact h
  | real _ => exact h
  | mark _ => exact h
  | background _ => exact h
  | notification => exact h

theorem StreamLaw.completeTransmission {s : State} (h : StreamLaw s) (p : Port) (t : Transmission) :
    StreamLaw (s.completeTransmission p t) :=
  (((h.aside (countPort_within s p _) rfl).aside (updateEgress_within _ p _) rfl).completeSent t.sent).aside
    (releaseFrames_within _) rfl

/-! ### The arrival of a frame -/

/-- The tag lookup finds an enabled stream (R7). -/
theorem enabled_of_lookupTag {s : State} {tag : Half} {i : StreamIx} (hi : s.lookupTag tag = some i) :
    (s.streamRec i).enabled = true := by
  have found := List.find?_some hi
  simp only [Bool.and_eq_true] at found
  exact found.1

/-- An admitted frame finds its stream below the limit (R55). -/
theorem below_limit_of_admitted {s : State} {i : StreamIx} {p : Port} {r : StartRecord}
    (ha : s.admission i p r = .admitted) : s.streams[i].admittedCount ≠ (s.streamRec i).framesPerCycle := by
  intro full
  unfold State.admission at ha
  split_ifs at ha

theorem StreamLaw.streamFrame {s : State} (h : StreamLaw s) (i : StreamIx) (p : Port) (r : StartRecord)
    (f : List Byte) : StreamLaw (s.streamFrame i p r f) := by
  unfold State.streamFrame
  cases ha : s.admission i p r with
  | misplaced code => exact (h.countStream i _).aside (raise_within _ _) rfl
  | surplus => exact (h.countStream i _).aside (raise_within _ _) rfl
  | admitted =>
    have counted := h.updateStream i ((h.run i).admit1 (below_limit_of_admitted ha))
    exact (counted.aside (holdFrame_within _ p f) rfl).admittedFrame i p _ _

theorem StreamLaw.streamData {s : State} (h : StreamLaw s) (p : Port) (r : StartRecord) (f : List Byte) :
    StreamLaw (s.streamData p r f) := by
  unfold State.streamData
  cases s.lookupTag (frameTag f) with
  | some i => exact h.streamFrame i p r f
  | none => exact (h.aside (countPort_within s p _) rfl).aside (raise_within _ _) rfl

theorem StreamLaw.managementRequest {s : State} (h : StreamLaw s) (p : Port) (f : List Byte) :
    StreamLaw (s.managementRequest p f) := by
  unfold State.managementRequest
  split
  · exact (h.aside (countPort_within s p _) rfl).aside (intakeRequest_within _ _) rfl
  · exact (h.aside (countPort_within s p _) rfl).aside (raise_within _ _) rfl

theorem StreamLaw.cycleMark {s : State} (h : StreamLaw s) (p : Port) (r : StartRecord) (f : List Byte) :
    StreamLaw (s.cycleMark p r f) :=
  (((h.aside (countPort_within s p _) rfl).aside (holdFrame_within _ p f) rfl).aside
    (offerCyclicTo_within _ _ _) rfl).timerTakesMark r f.length

theorem StreamLaw.backgroundFrame {s : State} (h : StreamLaw s) (p : Port) (f : List Byte) :
    StreamLaw (s.backgroundFrame p f) := by
  have counted := h.aside (countPort_within s p (fun c => { c with background := c.background + 1#32 })) rfl
  unfold State.backgroundFrame
  dsimp only
  split
  · exact counted.aside (countPort_within _ p _) rfl
  · exact (counted.aside (holdFrame_within _ p f) rfl).foldl
      (fun t q ht => ht.aside (offerBackground_within t _ q) rfl) _

/-- The paths of a good frame (R134). -/
theorem StreamLaw.goodFrame {s : State} (h : StreamLaw s) (p : Port) (r : StartRecord) (f : List Byte) :
    StreamLaw (s.goodFrame p r f) := by
  unfold State.goodFrame
  cases s.classify p f with
  | malformed => exact h.aside (countPort_within s p _) rfl
  | request => exact h.managementRequest p f
  | mark => exact h.cycleMark p r f
  | streamData => exact h.streamData p r f
  | background => exact h.backgroundFrame p f

theorem StreamLaw.receiveFrame {s : State} (h : StreamLaw s) (p : Port) (r : StartRecord) (f : List Byte) :
    StreamLaw (s.receiveFrame p r f) := by
  unfold State.receiveFrame
  split
  · exact h.aside (countPort_within s p _) rfl
  · split
    · exact h.aside (countPort_within s p _) rfl
    · split
      · exact h.aside (countPort_within s p _) rfl
      · exact (h.aside (countPort_within s p _) rfl).goodFrame p r f

theorem StreamLaw.frameArrives {s : State} (h : StreamLaw s) (p : Port) (r : Reception) :
    StreamLaw (s.frameArrives p r) := by
  have cleared := h.aside (updatePort_within s p (fun u => { u with reception := none })) rfl
  have received := cleared.receiveFrame p r.start r.frame
  exact (((received.aside (endHolds_within s _ p (some r)) rfl).aside
    (noteAdvanceEnd_within s _) rfl).settleRestart).aside (releaseFrames_within _) rfl

theorem abortReception_within (s : State) (p : Port) : Within { ports := true } s (s.abortReception p) := by
  unfold State.abortReception
  split
  · exact (updatePort_within s p _).trans (countPort_within _ p _)
  · exact .refl _ s

theorem StreamLaw.linkDown {s : State} (h : StreamLaw s) (p : Port) : StreamLaw (s.linkDown p) := by
  have aborted := (h.aside (updatePort_within s p (fun u => { u with link := .down })) rfl).aside
    (abortReception_within _ p) rfl
  have lowered := (aborted.aside (flushDown_within _ p) rfl).aside (raise_within _ (occLink p .down)) rfl
  exact (((lowered.aside (endHolds_within s _ p _) rfl).aside
    (noteAdvanceEnd_within s _) rfl).settleRestart).aside (releaseFrames_within _) rfl

/-! ### The requests -/

/-- The requests of a row keep the law when the row's effect does. -/
theorem StreamLaw.agentExecutes {s : State} (h : StreamLaw s) (c : Instr) {k : Request → State → State}
    (keeps : ∀ r t, StreamLaw t → StreamLaw (k r t)) : StreamLaw (s.agentExecutes c k) := by
  unfold State.agentExecutes
  split
  · next r rest _ _ =>
    have taken : StreamLaw (s.tookRequest rest) := h.aside (tookRequest_within s rest) rfl
    split
    · split
      · exact taken.aside (answerUnreadable_within _ _) rfl
      · split
        · exact taken.aside (answerFromCache_within _ _ _) rfl
        · exact keeps _ _ (taken.aside (countExecuted_within _) rfl)
    · exact h
  · exact h
  · exact h

theorem StreamLaw.conclude {s : State} (h : StreamLaw s) (r : Request) (st : Status) (res : List Byte)
    (b : Bool) : StreamLaw (s.conclude r st res b) := h.aside (conclude_within s r st res b) rfl

theorem StreamLaw.execute {s : State} (h : StreamLaw s) {row : RequestRow}
    (keeps : ∀ r t, StreamLaw t → StreamLaw (row.effect r t).after) : StreamLaw (row.execute s) := by
  refine h.agentExecutes _ (fun r t ht => ?_)
  unfold RequestRow.judge
  split
  · exact ht.conclude _ _ _ _
  · split
    · exact ht.conclude _ _ _ _
    · split
      · exact ht.conclude _ _ _ _
      · exact (keeps r t ht).conclude _ _ _ _

theorem StreamLaw.holdByHand {s : State} (h : StreamLaw s) (i : StreamIx) :
    StreamLaw (s.holdByHand i).after := by
  unfold State.holdByHand
  cases hs : s.streams[i].state with
  | running => exact h.enterHeld .manual (h.enabled (by rw [hs]; decide))
  | armed => exact h.enterHeld .manual (h.enabled (by rw [hs]; decide))
  | held => exact h
  | disabled => exact h

theorem StreamLaw.releaseHeld {s : State} (h : StreamLaw s) (i : StreamIx) {f : StreamRun → StreamRun}
    (released : s.streams[i].state = .held → RunLaw (s.streamRec i) (f s.streams[i])) :
    StreamLaw (s.releaseHeld i f).after := by
  unfold State.releaseHeld
  cases hs : s.streams[i].state with
  | held => exact h.updateStream i (released hs)
  | running => exact h
  | armed => exact h
  | disabled => exact h

end Sys2Proof.Machine
end

section
/-! SUPPORT. Every command keeps the law of the stream records. -/

namespace Sys2Proof.Machine

/-! ### The effects of the requests -/

theorem StreamLaw.zeroCounters {s : State} (h : StreamLaw s) (r : Request) :
    StreamLaw (s.zeroCounters r) := by
  unfold State.zeroCounters
  split
  · split
    · exact h.countStream _ _
    · exact h
  · exact h.aside (countPort_within s _ _) rfl

theorem StreamLaw.claimEffect {s : State} (h : StreamLaw s) (r : Request) :
    StreamLaw (claimEffect r s).after := by
  have granted : StreamLaw (s.grant r) := h.aside (setAgent_within s _) rfl
  unfold Machine.claimEffect
  split
  · exact granted
  · split
    · exact granted
    · exact h

theorem StreamLaw.yieldEffect {s : State} (h : StreamLaw s) (r : Request) :
    StreamLaw (yieldEffect r s).after :=
  (h.aside (setAgent_within s { s.agent with owner := none }) rfl).stagingYield

/-- READ-SET changes nothing, whichever set it reads (R114). -/
theorem StreamLaw.readSetEffect {s : State} (h : StreamLaw s) (r : Request) :
    StreamLaw (readSetEffect r s).after := by
  unfold Machine.readSetEffect
  split
  · exact h
  · split <;> exact h

/-- A staged write takes place in READY only (R112). -/
theorem StreamLaw.stagedWrite {s : State} (h : StreamLaw s) {write : State → State}
    (keeps : s.staging.state = .ready → StreamLaw (write s)) : StreamLaw (stagedWrite write s).after := by
  unfold Machine.stagedWrite
  cases hs : s.staging.state with
  | ready => exact keeps hs
  | pending => exact h
  | restaging => exact h

theorem StreamLaw.writeSettings {s : State} (h : StreamLaw s) (ready : s.staging.state = .ready)
    (r : Request) : StreamLaw (s.writeSettings r) := by
  unfold State.writeSettings
  split
  · exact h.setStaged_ready ready rfl
  · exact h

theorem StreamLaw.writeWindows {s : State} (h : StreamLaw s) (ready : s.staging.state = .ready)
    (r : Request) : StreamLaw (s.writeWindows r) := by
  unfold State.writeWindows
  split
  · exact h.setStaged_ready ready rfl
  · exact h

/-- The streams whose marks WRITE-STREAMS leaves are those outside the run that it writes. -/
theorem StreamLaw.writeStreams {s : State} (h : StreamLaw s) (ready : s.staging.state = .ready)
    (r : Request) : StreamLaw (s.writeStreams r) := by
  unfold State.writeStreams
  cases hc : carriedStreams r with
  | none => exact h
  | some xs =>
    have len : xs.length = r.arg 1 := readMany_length hc
    refine h.setStaged_markDirty ready (fun i hi => writeRun_outside xs _ _ i ?_)
    simp only [Bool.and_eq_false_iff, decide_eq_false_iff_not] at hi
    omega

theorem StreamLaw.writeSteps {s : State} (h : StreamLaw s) (ready : s.staging.state = .ready)
    (r : Request) : StreamLaw (s.writeSteps r) := by
  unfold State.writeSteps
  split
  · refine StreamLaw.markDirty ?_ _
    exact h.setStaged_ready ready rfl
  · exact h

theorem StreamLaw.writeTemplate {s : State} (h : StreamLaw s) (ready : s.staging.state = .ready)
    (r : Request) : StreamLaw (s.writeTemplate r) := h.setStaged_ready ready rfl

theorem StreamLaw.commitValid {s : State} (h : StreamLaw s) (ready : s.staging.state = .ready)
    (valid : validate s.staged = none) (t : CommitTarget) : StreamLaw (s.commitValid t).after := by
  unfold State.commitValid
  split
  · cases t with
    | nextStart => exact h.makePending ready valid _
    | atCycle n =>
      dsimp only
      split
      · exact h.makePending ready valid _
      · exact h
  · exact h.applyCommit (by simp [ready]) valid

theorem StreamLaw.commitEffect {s : State} (h : StreamLaw s) (t : CommitTarget) :
    StreamLaw (s.commitEffect t).after := by
  unfold State.commitEffect
  cases ready : s.staging.state with
  | pending => exact h
  | restaging => exact h
  | ready =>
    cases valid : validate s.staged with
    | none => exact h.commitValid ready valid t
    | some f => exact h.setStaging ⟨h.sets.staging.commit, h.sets.staging.reason⟩ h.sets.staged h.clean rfl

theorem StreamLaw.withdrawEffect {s : State} (h : StreamLaw s) (r : Request) :
    StreamLaw (withdrawEffect r s).after := by
  unfold Machine.withdrawEffect
  cases hs : s.staging.state with
  | pending => exact h.withdrawCommit hs _
  | ready => exact h
  | restaging => exact h

theorem StreamLaw.holdEffect {s : State} (h : StreamLaw s) (r : Request) :
    StreamLaw (holdEffect r s).after := by
  unfold Machine.holdEffect
  split
  · exact h.holdByHand _
  · exact h

theorem StreamLaw.resumeEffect {s : State} (h : StreamLaw s) (r : Request) :
    StreamLaw (resumeEffect r s).after := by
  unfold Machine.resumeEffect
  split
  · exact h.releaseHeld _ (h.run _).resumed
  · exact h

theorem StreamLaw.rearmEffect {s : State} (h : StreamLaw s) (r : Request) :
    StreamLaw (rearmEffect r s).after := by
  unfold Machine.rearmEffect
  split
  · exact h.releaseHeld _ (fun hs => (h.run _).rearmed hs (h.entryInside _))
  · exact h

theorem StreamLaw.clearQuenchEffect {s : State} (h : StreamLaw s) (r : Request) :
    StreamLaw (clearQuenchEffect r s).after := by
  unfold Machine.clearQuenchEffect State.clearCauses
  split
  · split <;> exact h.aside (removeCauses_within s _) rfl
  · exact h

theorem StreamLaw.setLiveEffect {s : State} (h : StreamLaw s) (r : Request) :
    StreamLaw (setLiveEffect r s).after := by
  unfold Machine.setLiveEffect
  split
  · exact (h.aside (setAgent_within s _) rfl).aside (applyLive_within _ _ _ _) rfl
  · exact h

theorem StreamLaw.setListenerEffect {s : State} (h : StreamLaw s) (r : Request) :
    StreamLaw (setListenerEffect r s).after := by
  unfold Machine.setListenerEffect
  split
  · exact h.aside (setEvents_within s _) rfl
  · exact h

theorem StreamLaw.setNotifyEffect {s : State} (h : StreamLaw s) (r : Request) :
    StreamLaw (setNotifyEffect r s).after := by
  unfold Machine.setNotifyEffect
  split
  · exact h.aside (setEvents_within s _) rfl
  · exact h
  · exact h

theorem StreamLaw.clearFlagsEffect {s : State} (h : StreamLaw s) (r : Request) :
    StreamLaw (clearFlagsEffect r s).after := by
  unfold Machine.clearFlagsEffect
  split
  · exact h.aside (setEvents_within s _) rfl
  · exact h

theorem StreamLaw.raiseFlagEffect {s : State} (h : StreamLaw s) (r : Request) :
    StreamLaw (raiseFlagEffect r s).after := by
  unfold Machine.raiseFlagEffect
  split
  · exact h.aside (raise_within s _) rfl
  · exact h

theorem StreamLaw.ackNotifyEffect {s : State} (h : StreamLaw s) (r : Request) :
    StreamLaw (ackNotifyEffect r s).after := by
  unfold Machine.ackNotifyEffect
  split
  · split
    · exact h
    · split
      · exact h
      · exact h.aside (setEvents_within s _) rfl
  · exact h

theorem StreamLaw.timerStart {s : State} (h : StreamLaw s) {start : State → State}
    (keeps : StreamLaw (start s)) : StreamLaw (s.timerStart start).after := by
  unfold State.timerStart
  cases s.timer.state with
  | stopped => exact keeps
  | armed => exact h
  | running => exact h

theorem StreamLaw.prepareStart {s : State} (h : StreamLaw s) (st : TimerState) :
    StreamLaw (s.prepareStart st) := h.aside (setTimer_within s _) rfl

theorem StreamLaw.timerStopEffect {s : State} (h : StreamLaw s) (r : Request) :
    StreamLaw (timerStopEffect r s).after := by
  unfold Machine.timerStopEffect
  cases s.timer.state with
  | stopped => exact h
  | armed => exact h.stopTimer
  | running => exact h.stopTimer

/-! ### The expiries of the event unit and of the lease -/

theorem StreamLaw.leaseExpires {s : State} (h : StreamLaw s) (o : Owner) : StreamLaw (s.leaseExpires o) :=
  ((h.aside (setAgent_within s _) rfl).aside (raise_within _ _) rfl).stagingLeaseExpiry o.holder

theorem StreamLaw.retryRecord {s : State} (h : StreamLaw s) (l : ListenerIx) (q : Half) :
    StreamLaw (s.retryRecord l q) :=
  (h.aside (setEvents_within s _) rfl).aside (offerNotifications_within _ _) rfl

theorem StreamLaw.lapseRecord {s : State} (h : StreamLaw s) (l : ListenerIx) (q : Half) :
    StreamLaw (s.lapseRecord l q) := h.aside (setEvents_within s _) rfl

/-! ### Every command -/

/-- A command whose occasion may not hold (log 2). -/
theorem StreamLaw.ite {s t : State} {c : Prop} [Decidable c] (h : StreamLaw s) (taken : c → StreamLaw t) :
    StreamLaw (if c then t else s) := by
  split
  · next hc => exact taken hc
  · exact h

/-- A close of a window index that the gate has, where it is due. -/
theorem StreamLaw.closeIfDue {s : State} (h : StreamLaw s) (k : WindowKind) (w : Nat) :
    StreamLaw (if hw : w < 64 then if s.closeDue k ⟨w, hw⟩ then s.takeClose ⟨w, hw⟩ else s else s) := by
  split
  · exact h.ite (fun _ => h.takeClose _)
  · exact h

theorem StreamLaw.beginReception {s : State} (h : StreamLaw s) (p : Port) (f : List Byte) :
    StreamLaw (s.beginReception p f) := h.aside (updatePort_within s p _) rfl

theorem StreamLaw.execLinkUp {s : State} (h : StreamLaw s) (p : Port) :
    ∃ t, execLinkUp p s = .next t ∧ StreamLaw t := by
  refine ⟨_, rfl, ?_⟩
  split
  · exact h
  · exact ((h.aside (updatePort_within s p _) rfl).aside (updateEgress_within _ p _) rfl).aside
      (raise_within _ _) rfl

theorem StreamLaw.execLinkDown {s : State} (h : StreamLaw s) (p : Port) :
    ∃ t, execLinkDown p s = .next t ∧ StreamLaw t := by
  refine ⟨_, rfl, ?_⟩
  split
  · exact h.linkDown p
  · exact h

theorem StreamLaw.execStartOfFrame {s : State} (h : StreamLaw s) (p : Port) (f : List Byte) :
    ∃ t, execStartOfFrame p f s = .next t ∧ StreamLaw t := by
  refine ⟨_, rfl, ?_⟩
  split
  · exact h.beginReception p f
  · exact h.ite (fun _ => (h.frameArrives p _).beginReception p f)
  · exact h

theorem StreamLaw.execFrameArrival {s : State} (h : StreamLaw s) (p : Port) :
    ∃ t, execFrameArrival p s = .next t ∧ StreamLaw t := by
  refine ⟨_, rfl, ?_⟩
  split
  · exact h.ite (fun _ => h.frameArrives p _)
  · exact h

theorem StreamLaw.execTransmitComplete {s : State} (h : StreamLaw s) (p : Port) :
    ∃ t, execTransmitComplete p s = .next t ∧ StreamLaw t := by
  refine ⟨_, rfl, ?_⟩
  split
  · exact h.ite (fun _ => h.completeTransmission p _)
  · exact h
  · exact h
  · exact h

theorem StreamLaw.execRetryTimerExpiry {s : State} (h : StreamLaw s) (l : ListenerIx) (q : Half) :
    ∃ t, execRetryTimerExpiry l q s = .next t ∧ StreamLaw t := by
  refine ⟨_, rfl, ?_⟩
  split
  · split
    · exact h.retryRecord l q
    · exact h.lapseRecord l q
  · exact h

theorem StreamLaw.execLeaseExpiry {s : State} (h : StreamLaw s) :
    ∃ t, execLeaseExpiry s = .next t ∧ StreamLaw t := by
  refine ⟨_, rfl, ?_⟩
  split
  · exact h.ite (fun _ => h.leaseExpires _)
  · exact h

/-- Every command answers with a next state, and keeps the law in it. -/
theorem StreamLaw.exec {s : State} (h : StreamLaw s) (c : Instr) :
    ∃ t, exec c s = .next t ∧ StreamLaw t := by
  cases c with
  | coldReset strap links level => exact ⟨_, rfl, streamLaw_coldReset s strap links level⟩
  | quenchLineAsserted => exact ⟨_, rfl, h.aside (pinAt_within s .asserted) rfl⟩
  | quenchLineDeasserted => exact ⟨_, rfl, h.aside (pinAt_within s .deasserted) rfl⟩
  | linkUp p => exact h.execLinkUp p
  | linkDown p => exact h.execLinkDown p
  | startOfFrame p f => exact h.execStartOfFrame p f
  | frameArrival p => exact h.execFrameArrival p
  | cycleStart => exact ⟨_, rfl, h.ite (fun _ => h.periodMatch.settleRestart)⟩
  | windowClose w => exact ⟨_, rfl, h.closeIfDue .admitting w⟩
  | guardOpen p => exact ⟨_, rfl, h.ite (fun _ => (h.aside (cutOff_within s p) rfl).settleRestart)⟩
  | guardClose w => exact ⟨_, rfl, h.closeIfDue .guard w⟩
  | attributionIntervalClose => exact ⟨_, rfl, h.aside (closeIntervalIfOver_within s) rfl⟩
  | pendingAdvanceEnd =>
    exact ⟨_, rfl, h.ite (fun _ =>
      (h.aside (updatePort_within s _ _) rfl).aside (callSelections_within _) rfl)⟩
  | transmitStart p => exact ⟨_, rfl, h.ite (fun _ => (h.select p).aside (releaseFrames_within _) rfl)⟩
  | transmitComplete p => exact h.execTransmitComplete p
  | notificationOffer p => exact ⟨_, rfl, h.aside (offerNotifications_within s p) rfl⟩
  | retryTimerExpiry l q => exact h.execRetryTimerExpiry l q
  | leaseExpiry => exact h.execLeaseExpiry
  | restageCompletion =>
    exact ⟨_, rfl, h.ite (fun done => h.completeRestage ((restageDone_iff s).1 done).1)⟩
  | restartWaitExpiry => exact ⟨_, rfl, h.ite (fun _ => h.warmRestart)⟩
  | discover => exact ⟨_, rfl, h.execute (fun _ _ ht => ht)⟩
  | claim => exact ⟨_, rfl, h.execute (fun r _ ht => ht.claimEffect r)⟩
  | yieldOwnership => exact ⟨_, rfl, h.execute (fun r _ ht => ht.yieldEffect r)⟩
  | readStatus => exact ⟨_, rfl, h.execute (fun _ _ ht => ht)⟩
  | readSet => exact ⟨_, rfl, h.execute (fun r _ ht => ht.readSetEffect r)⟩
  | readStreamState => exact ⟨_, rfl, h.execute (fun _ _ ht => ht)⟩
  | readCounters => exact ⟨_, rfl, h.execute (fun _ _ ht => ht)⟩
  | readCountersClear => exact ⟨_, rfl, h.execute (fun r _ ht => ht.zeroCounters r)⟩
  | readFlags => exact ⟨_, rfl, h.execute (fun _ _ ht => ht)⟩
  | readFault => exact ⟨_, rfl, h.execute (fun _ _ ht => ht)⟩
  | writeSettings =>
    exact ⟨_, rfl, h.execute (fun r _ ht => ht.stagedWrite (fun ready => ht.writeSettings ready r))⟩
  | writeWindows =>
    exact ⟨_, rfl, h.execute (fun r _ ht => ht.stagedWrite (fun ready => ht.writeWindows ready r))⟩
  | writeStreams =>
    exact ⟨_, rfl, h.execute (fun r _ ht => ht.stagedWrite (fun ready => ht.writeStreams ready r))⟩
  | writeSteps =>
    exact ⟨_, rfl, h.execute (fun r _ ht => ht.stagedWrite (fun ready => ht.writeSteps ready r))⟩
  | writeTemplate =>
    exact ⟨_, rfl, h.execute (fun r _ ht => ht.stagedWrite (fun ready => ht.writeTemplate ready r))⟩
  | commitNext => exact ⟨_, rfl, h.execute (fun _ _ ht => ht.commitEffect _)⟩
  | commitAt => exact ⟨_, rfl, h.execute (fun _ _ ht => ht.commitEffect _)⟩
  | withdraw => exact ⟨_, rfl, h.execute (fun r _ ht => ht.withdrawEffect r)⟩
  | holdStream => exact ⟨_, rfl, h.execute (fun r _ ht => ht.holdEffect r)⟩
  | releaseStreamResume => exact ⟨_, rfl, h.execute (fun r _ ht => ht.resumeEffect r)⟩
  | releaseStreamRearm => exact ⟨_, rfl, h.execute (fun r _ ht => ht.rearmEffect r)⟩
  | quench => exact ⟨_, rfl, h.execute (fun _ t ht => ht.aside (addCause_within t .command) rfl)⟩
  | clearQuench => exact ⟨_, rfl, h.execute (fun r _ ht => ht.clearQuenchEffect r)⟩
  | setLive => exact ⟨_, rfl, h.execute (fun r _ ht => ht.setLiveEffect r)⟩
  | setListener => exact ⟨_, rfl, h.execute (fun r _ ht => ht.setListenerEffect r)⟩
  | setNotify => exact ⟨_, rfl, h.execute (fun r _ ht => ht.setNotifyEffect r)⟩
  | clearFlags => exact ⟨_, rfl, h.execute (fun r _ ht => ht.clearFlagsEffect r)⟩
  | raiseFlag => exact ⟨_, rfl, h.execute (fun r _ ht => ht.raiseFlagEffect r)⟩
  | timerStartImmediate =>
    exact ⟨_, rfl, h.execute (fun _ _ ht => ht.timerStart ((ht.prepareStart .running).handCycleStart true))⟩
  | timerStartOnMark => exact ⟨_, rfl, h.execute (fun _ _ ht => ht.timerStart (ht.prepareStart .armed))⟩
  | timerStop => exact ⟨_, rfl, h.execute (fun r _ ht => ht.timerStopEffect r)⟩
  | restart => exact ⟨_, rfl, h.execute (fun _ t ht => ht.aside (setAgent_within t _) rfl)⟩
  | ackNotify => exact ⟨_, rfl, h.execute (fun r _ ht => ht.ackNotifyEffect r)⟩
  | unknownRequest => exact ⟨_, rfl, h.agentExecutes _ (fun r _ ht => ht.conclude r _ _ _)⟩

/-- A step on an empty queue moves only the tick's fields, the queue and the draws (log 1). -/
theorem idle_streamPart (s : State) : s.idle.streamPart = s.streamPart := by
  unfold State.idle
  split <;> rfl

/-- Settles O59: a step is a command on the rest of the queue, or idles. -/
theorem streamLawKeptByEveryStep : Obligations.StreamLawKeptByEveryStep := by
  intro s t h e
  unfold step at e
  split at e
  · obtain rfl := Host.Outcome.next.inj e
    exact h.of_streamPart (idle_streamPart s)
  · next c rest _ =>
    have front : StreamLaw (s.setPending rest) := h.of_streamPart rfl
    obtain ⟨u, hu, law⟩ := front.exec c
    obtain rfl := Host.Outcome.next.inj (hu.symm.trans e)
    exact law

end Sys2Proof.Machine
end

section
/-! SUPPORT. The statements on single stream records: cold reset, LOCK and SEEK, HOLD-STREAM and
RELEASE-STREAM. -/

namespace Sys2Proof.Machine

/-! ### Cold reset (R1, R2, R21) -/

theorem coldReset_streams (s : State) (strap : BitVec 4) (links : PerPort LinkState) (level : LineLevel)
    (i : StreamIx) : (s.coldReset strap links level).streams[i] = StreamRun.cold :=
  Vector.getElem_replicate i.isLt

theorem coldReset_bank (s : State) (strap : BitVec 4) (links : PerPort LinkState) (level : LineLevel)
    (n : BankName) : (s.coldReset strap links level).bank n = Bank.cold := by
  cases n <;> rfl

/-- No stream of the default set is enabled, so no tag is found (R7). -/
theorem lookupTag_of_cold {s : State} (cold : s.active = Bank.cold) (tag : Half) :
    s.lookupTag tag = none := by
  refine List.find?_eq_none.2 (fun i _ => ?_)
  have off : (s.streamRec i).enabled = false := by
    rw [State.streamRec, cold]
    exact congrArg StreamRec.enabled (Vector.getElem_replicate i.isLt)
  simp [off]

/-- Settles O5: every table of the state after a cold reset repeats one default record, and no stream of it
is enabled. -/
theorem coldResetDisablesEveryStream : Obligations.ColdResetDisablesEveryStream := by
  intro s strap links level
  refine ⟨_, rfl, coldReset_streams s strap links level, fun n => ?_,
    lookupTag_of_cold (coldReset_bank s strap links level .a)⟩
  rw [coldReset_bank]
  exact ⟨rfl, fun w => Vector.getElem_replicate w.isLt, fun i => Vector.getElem_replicate i.isLt,
    fun k => Vector.getElem_replicate k.isLt, fun k => Vector.getElem_replicate k.isLt⟩

/-! ### LOCK and SEEK (R13) -/

/-- The record of a stream after its own update. -/
theorem updateStream_same (s : State) (i : StreamIx) (f : StreamRun → StreamRun) :
    (s.updateStream i f).streams[i] = f s.streams[i] := by
  simp

/-- A change that leaves a stream's position leaves its current step. -/
theorem updateStream_currentStep (s : State) (i : StreamIx) {f : StreamRun → StreamRun}
    (position : (f s.streams[i]).position = s.streams[i].position) :
    (s.updateStream i f).currentStep i = s.currentStep i := by
  rw [State.currentStep, updateStream_same, position]
  rfl

/-- LOCK forwards to the entry step's egress set: the position has not moved. -/
theorem lock_eq (s : State) (i : StreamIx) (p : Port) (c : Phase) (ref : Nat) :
    s.lock i p c ref =
      ((s.updateStream i (fun r => r.locked s.timer.cycleCount)).offerCyclicTo (.real i c ref)
        ((s.currentStep i).egress.portsWithout p)).raise (occStepLock i) := by
  rw [State.lock, State.forwardReal, updateStream_currentStep]
  rfl

/-- Settles O17, by the two outcomes of the comparison with the entry code. -/
theorem armedStreamLocksOrSeeks : Obligations.ArmedStreamLocksOrSeeks := by
  intro s i p c ref armed
  refine ⟨fun entry => ?_, fun other => ?_⟩
  · rw [State.admittedFrame, armed]
    exact (if_pos entry).trans (lock_eq s i p c ref)
  · rw [State.admittedFrame, armed]
    exact if_neg other

/-! ### HOLD-STREAM and RELEASE-STREAM (R16 to R19) -/

theorem streamArg_val {n : Nat} {i : StreamIx} (h : n = i.val) : streamArg n = some i := by
  subst h
  exact dif_pos i.isLt

/-- The owner's request with argument bytes in their ranges is answered by its row's effect. -/
theorem execute_of_owner {row : RequestRow} {s : State} {r : Request} {rest : List Request} {n : Nat}
    {reply : Reply} (taken : Takes s row.command r rest) (carries : Carries r n)
    (owns : s.ownsGate r = true) (ranges : row.ranges r = true)
    (effect : row.effect r (s.entered rest) = reply) (form : row.form = formBytes n)
    (plain : row.isRestart = false) :
    row.execute s = reply.after.conclude r reply.status reply.result false := by
  rw [execute_passes taken (bodyOk_of_carries carries (by rw [form]; exact formBytes_of_carries carries))
    (fun _ => owns) ranges, effect, plain]
  rfl

theorem holdByHand_taken {s : State} {i : StreamIx}
    (hs : s.streams[i].state = .running ∨ s.streams[i].state = .armed) :
    s.holdByHand i = .ok (s.enterHeld i .manual) ((s.enterHeld i .manual).holdResult i) := by
  rcases hs with hs | hs <;> rw [State.holdByHand, hs]

theorem holdByHand_refused {s : State} {i : StreamIx}
    (hs : s.streams[i].state = .held ∨ s.streams[i].state = .disabled) :
    s.holdByHand i = .refuse s .state (s.holdResult i) := by
  rcases hs with hs | hs <;> rw [State.holdByHand, hs]

theorem releaseHeld_taken {s : State} {i : StreamIx} (hs : s.streams[i].state = .held)
    (f : StreamRun → StreamRun) :
    s.releaseHeld i f = .ok (s.updateStream i f) ((s.updateStream i f).holdResult i) := by
  rw [State.releaseHeld, hs]

theorem releaseHeld_refused {s : State} {i : StreamIx} (hs : s.streams[i].state ≠ .held)
    (f : StreamRun → StreamRun) : s.releaseHeld i f = .refuse s .state (s.holdResult i) := by
  unfold State.releaseHeld
  cases h : s.streams[i].state with
  | held => exact absurd h hs
  | running => rfl
  | armed => rfl
  | disabled => rfl

/-- The result after a change of the stream named reads the changed record. -/
theorem updateStream_holdResult (s : State) (i : StreamIx) (f : StreamRun → StreamRun) :
    (s.updateStream i f).holdResult i =
      [BitVec.ofNat 8 i.val, streamStateByte (f s.streams[i]).state,
       BitVec.ofNat 8 (f s.streams[i]).position, holdCauseByte (f s.streams[i]).holdCause] := by
  rw [State.holdResult, updateStream_same]

/-- Raising HOLD leaves the records, so the result of an entry into HELD is that of the change. -/
theorem enterHeld_holdResult (s : State) (i : StreamIx) (c : HoldCause) :
    (s.enterHeld i c).holdResult i =
      [BitVec.ofNat 8 i.val, 3#8, BitVec.ofNat 8 s.streams[i].position, holdCauseByte (some c)] := by
  rw [State.holdResult, State.enterHeld, raise_streams]
  exact updateStream_holdResult s i _

/-- HOLD-STREAM of the owner for a stream of the table (R16). -/
theorem execHoldStream_of_owner {s : State} {r : Request} {rest : List Request} {i : StreamIx}
    {reply : Reply} (taken : Takes s .holdStream r rest) (carries : Carries r 1)
    (owns : s.ownsGate r = true) (named : r.arg 0 = i.val)
    (answer : (s.entered rest).holdByHand i = reply) :
    exec .holdStream s = .next (reply.after.conclude r reply.status reply.result false) := by
  refine congrArg _ (execute_of_owner (row := holdStreamRow) taken carries owns ?_ ?_ rfl rfl)
  · simp [holdStreamRow, named]
  · simp only [holdStreamRow, holdEffect, streamArg_val named, answer]

theorem releaseRanges_of {r : Request} {i : StreamIx} (named : r.arg 0 = i.val) (mode : r.arg 1 ≤ 1) :
    releaseRanges r = true := by
  simp [releaseRanges, named, mode]

/-- RELEASE-STREAM RESUME of the owner for a stream of the table (R18). -/
theorem execReleaseStreamResume_of_owner {s : State} {r : Request} {rest : List Request} {i : StreamIx}
    {reply : Reply} (taken : Takes s .releaseStreamResume r rest) (carries : Carries r 2)
    (owns : s.ownsGate r = true) (named : r.arg 0 = i.val)
    (answer : (s.entered rest).releaseHeld i StreamRun.resumed = reply) :
    exec .releaseStreamResume s = .next (reply.after.conclude r reply.status reply.result false) := by
  refine congrArg _ (execute_of_owner (row := releaseResumeRow) taken carries owns ?_ ?_ rfl rfl)
  · exact releaseRanges_of named (by rw [command_releaseStreamResume taken.row]; decide)
  · simp only [releaseResumeRow, resumeEffect, streamArg_val named, answer]

/-- RELEASE-STREAM REARM of the owner for a stream of the table (R19). -/
theorem execReleaseStreamRearm_of_owner {s : State} {r : Request} {rest : List Request} {i : StreamIx}
    {reply : Reply} (taken : Takes s .releaseStreamRearm r rest) (carries : Carries r 2)
    (owns : s.ownsGate r = true) (named : r.arg 0 = i.val) (mode : r.arg 1 = 1)
    (answer : (s.entered rest).releaseHeld i (fun x => x.rearmed (s.streamRec i)) = reply) :
    exec .releaseStreamRearm s = .next (reply.after.conclude r reply.status reply.result false) := by
  refine congrArg _ (execute_of_owner (row := releaseRearmRow) taken carries owns ?_ ?_ rfl rfl)
  · exact releaseRanges_of named (by rw [mode])
  · simp only [releaseRearmRow, rearmEffect, streamArg_val named]
    exact answer

/-- Settles O50: a request of the owner is answered by the stream table, which takes it or refuses it by the
state of the stream named. -/
theorem holdAndReleaseByHand : Obligations.HoldAndReleaseByHand := by
  refine ⟨fun s r rest i taken carries owns named => ⟨fun hs => ?_, fun hs => ?_⟩,
    fun s r rest i carries owns named => ⟨fun taken hs => ?_, fun taken mode hs => ?_,
      fun hs => ⟨fun taken => ?_, fun taken mode => ?_⟩⟩⟩
  · refine (execHoldStream_of_owner taken carries owns named
      (holdByHand_taken (s := s.entered rest) hs)).trans ?_
    rw [enterHeld_holdResult]
    rfl
  · exact (execHoldStream_of_owner taken carries owns named
      (holdByHand_refused (s := s.entered rest) hs) :)
  · refine (execReleaseStreamResume_of_owner taken carries owns named
      (releaseHeld_taken (s := s.entered rest) hs _)).trans ?_
    rw [updateStream_holdResult]
    rfl
  · refine (execReleaseStreamRearm_of_owner taken carries owns named mode
      (releaseHeld_taken (s := s.entered rest) hs _)).trans ?_
    rw [updateStream_holdResult]
    rfl
  · exact (execReleaseStreamResume_of_owner taken carries owns named
      (releaseHeld_refused (s := s.entered rest) hs _) :)
  · exact (execReleaseStreamRearm_of_owner taken carries owns named mode
      (releaseHeld_refused (s := s.entered rest) hs _) :)

end Sys2Proof.Machine
end

section
/-! SUPPORT. The statements on a frame of a RUNNING or HELD stream and on the stall at an absent close. -/

namespace Sys2Proof.Machine

/-! ### What an offer to cyclic queues leaves -/

@[simp] theorem offerCyclicTo_streams (s : State) (e : CyclicEntry) (ps : List Port) :
    (s.offerCyclicTo e ps).streams = s.streams := (offerCyclicTo_within s e ps).streams rfl

@[simp] theorem forwardReal_streams (s : State) (i : StreamIx) (p : Port) (c : Phase) (ref : Nat) :
    (s.forwardReal i p c ref).streams = s.streams := offerCyclicTo_streams s _ _

@[simp] theorem offerSubstitutes_streams (s : State) (i : StreamIx) (p : Port) :
    (s.offerSubstitutes i p).streams = s.streams := (offerSubstitutes_within s i p).streams rfl

@[simp] theorem offerSubstitutes_quench (s : State) (i : StreamIx) (p : Port) :
    (s.offerSubstitutes i p).quench = s.quench := (offerSubstitutes_within s i p).quench rfl

/-- A stream with a template index has its substitutes offered (R33, R36). -/
theorem offerSubstitutes_of_template {s : State} {i : StreamIx} {k : Fin 32}
    (named : (s.streamRec i).template = some k) (p : Port) :
    s.offerSubstitutes i p =
      s.offerCyclicTo (.substitute i (s.currentStep i).phase) ((s.currentStep i).egress.portsWithout p) := by
  rw [State.offerSubstitutes, named]

/-- A stream without a template index has none offered (R33, R36). -/
theorem offerSubstitutes_of_no_template {s : State} {i : StreamIx}
    (absent : (s.streamRec i).template = none) (p : Port) : s.offerSubstitutes i p = s := by
  rw [State.offerSubstitutes, absent]

/-! ### A frame of a RUNNING or HELD stream (R23) -/

section
variable {s : State} {i : StreamIx} {c : Phase}

theorem admittedFrame_repeat (running : s.streams[i].state = .running) (same : c = (s.currentStep i).phase)
    (p : Port) (ref : Nat) : s.admittedFrame i p c ref = s.repeated i p c ref := by
  rw [State.admittedFrame, running]
  exact if_pos same

theorem admittedFrame_advance (running : s.streams[i].state = .running)
    (moved : c ≠ (s.currentStep i).phase) (next : c = (s.nextStep i).phase) (p : Port) (ref : Nat) :
    s.admittedFrame i p c ref = s.advance i p c ref := by
  rw [State.admittedFrame, running]
  exact (if_neg moved).trans (if_pos next)

theorem admittedFrame_stray (running : s.streams[i].state = .running)
    (moved : c ≠ (s.currentStep i).phase) (other : c ≠ (s.nextStep i).phase) (p : Port) (ref : Nat) :
    s.admittedFrame i p c ref = s.stray i p c := by
  rw [State.admittedFrame, running]
  exact (if_neg moved).trans (if_neg other)

theorem admittedFrame_held (held : s.streams[i].state = .held) (p : Port) (c : Phase) (ref : Nat) :
    s.admittedFrame i p c ref = s.offerSubstitutes i p := by
  rw [State.admittedFrame, held]

end

/-! ### REPEAT (R25) -/

theorem repeated_forward {s : State} {i : StreamIx} (policy : (s.streamRec i).repeatPolicy = .forward)
    (p : Port) (c : Phase) (ref : Nat) :
    s.repeated i p c ref =
      (s.countStream i (fun x => { x with repeats := x.repeats + 1#32 })).offerCyclicTo (.real i c ref)
        ((s.currentStep i).egress.portsWithout p) := by
  rw [State.repeated, policy]
  dsimp only
  rw [State.forwardReal, State.countStream, updateStream_currentStep]
  rfl

theorem repeated_drop {s : State} {i : StreamIx} (policy : (s.streamRec i).repeatPolicy = .drop)
    (p : Port) (c : Phase) (ref : Nat) :
    s.repeated i p c ref = s.countStream i (fun x => { x with repeats := x.repeats + 1#32 }) := by
  rw [State.repeated, policy]

/-- Whether a repeated frame is forwarded or dropped, of the records only the counter moves. -/
theorem repeated_streams (s : State) (i : StreamIx) (p : Port) (c : Phase) (ref : Nat) :
    (s.repeated i p c ref).streams =
      (s.countStream i (fun x => { x with repeats := x.repeats + 1#32 })).streams := by
  cases policy : (s.streamRec i).repeatPolicy with
  | forward => rw [repeated_forward policy, offerCyclicTo_streams]
  | drop => rw [repeated_drop policy]

/-- Settles O18, by the repeat policy. -/
theorem repeatForwardsOrDrops : Obligations.RepeatForwardsOrDrops := by
  intro s i p c ref running same
  rw [admittedFrame_repeat running same]
  refine ⟨fun forward => repeated_forward forward p c ref, fun drop => repeated_drop drop p c ref, ?_⟩
  rw [repeated_streams]
  exact updateStream_same s i _

/-! ### ADVANCE (R26, R27) -/

/-- The step that is current after an ADVANCE is the one that was next (R4). -/
theorem advanced_currentStep (s : State) (i : StreamIx) (c : Word) :
    (s.updateStream i (fun r => r.advanced (s.streamRec i) c)).currentStep i = s.nextStep i := by
  rw [State.currentStep, updateStream_same]
  rfl

/-- ADVANCE forwards to the new step's egress set: the position has moved. -/
theorem advance_eq (s : State) (i : StreamIx) (p : Port) (c : Phase) (ref : Nat) :
    s.advance i p c ref =
      (let moved := (s.updateStream i (fun r => r.advanced (s.streamRec i) s.timer.cycleCount)).offerCyclicTo
        (.real i c ref) ((s.nextStep i).egress.portsWithout p)
       if (s.nextStep i).notify then moved.raise (occStepAdvance i) else moved) := by
  rw [State.advance, State.forwardReal, advanced_currentStep]

/-- Neither the offer nor STEP changes a record, so the stream's record is the advanced one. -/
theorem advance_stream (s : State) (i : StreamIx) (p : Port) (c : Phase) (ref : Nat) :
    (s.advance i p c ref).streams[i] = s.streams[i].advanced (s.streamRec i) s.timer.cycleCount := by
  have moved : (s.advance i p c ref).streams =
      (s.updateStream i (fun r => r.advanced (s.streamRec i) s.timer.cycleCount)).streams := by
    unfold State.advance
    dsimp only
    split
    · rw [raise_streams, forwardReal_streams]
    · rw [forwardReal_streams]
  rw [moved, updateStream_same]

/-- Two advances in one cycle are a spacing of 0 (R9). -/
theorem advanced_spacing_of_same_cycle {r : StreamRun} {c : Word} (again : r.lastAdvance = some c)
    (cfg : StreamRec) : (r.advanced cfg c).spacing = some 0#32 := by
  simp [StreamRun.advanced, StreamRun.recordAdvance, again]

/-- Settles O19: the statement's step after the move is the model's next step. -/
theorem advanceMovesOneStepOn : Obligations.AdvanceMovesOneStepOn := by
  intro s i p c ref running moved next
  rw [admittedFrame_advance running moved next, advance_stream]
  exact ⟨advance_eq s i p c ref, running, next, fun again => advanced_spacing_of_same_cycle again _⟩

/-! ### STRAY, and a frame of a HELD stream (R28 to R30, R33) -/

/-- Settles O20, by the stray policy and by whether the HELD stream names a template. -/
theorem straysAndHeldFrames : Obligations.StraysAndHeldFrames := by
  refine ⟨fun s i p c ref running moved other => ?_, fun s i p c ref held => ?_⟩
  · rw [admittedFrame_stray running moved other, State.stray]
    refine ⟨fun count => ?_, fun hold => ?_, fun quench => ?_⟩
    · rw [count]; rfl
    · rw [hold]; rfl
    · rw [quench]; rfl
  · rw [admittedFrame_held held]
    exact ⟨fun absent => offerSubstitutes_of_no_template absent p,
      fun k named => offerSubstitutes_of_template named p, offerSubstitutes_streams s i p⟩

/-! ### An absent close (R35, R36) -/

/-- Two changes that agree on the record of the stream are one change of the state. -/
theorem updateStream_congr {s : State} {i : StreamIx} {f g : StreamRun → StreamRun}
    (agree : f s.streams[i] = g s.streams[i]) : s.updateStream i f = s.updateStream i g := by
  rw [State.updateStream, agree, State.updateStream]

/-- The state after the absence and its fill, before any stall: what R35 and R36 do. -/
def State.absentFilled (s : State) (i : StreamIx) (p : Port) : State :=
  if (s.streamRec i).fill then (s.updateStream i StreamRun.absent).offerSubstitutes i p
  else s.updateStream i StreamRun.absent

theorem absentStream_eq (s : State) (i : StreamIx) (p : Port) :
    s.absentStream i p =
      if stallsAt (s.streamRec i) s.streams[i] then (s.absentFilled i p).stallStream i p
      else s.absentFilled i p := rfl

theorem absentFilled_streams (s : State) (i : StreamIx) (p : Port) :
    (s.absentFilled i p).streams = (s.updateStream i StreamRun.absent).streams := by
  unfold State.absentFilled
  split
  · exact offerSubstitutes_streams _ i p
  · rfl

@[simp] theorem absentFilled_stream (s : State) (i : StreamIx) (p : Port) :
    (s.absentFilled i p).streams[i] = s.streams[i].absent := by
  rw [absentFilled_streams, updateStream_same]

@[simp] theorem absentFilled_quench (s : State) (i : StreamIx) (p : Port) :
    (s.absentFilled i p).quench = s.quench := by
  unfold State.absentFilled
  split
  · exact offerSubstitutes_quench _ i p
  · rfl

@[simp] theorem absentFilled_streamRec (s : State) (i : StreamIx) (p : Port) :
    (s.absentFilled i p).streamRec i = s.streamRec i := by
  unfold State.absentFilled
  split
  · exact (offerSubstitutes_within _ i p).streamRec i rfl rfl
  · rfl

/-- The fill is made with fill on and a template index, and offers the current step (R36). -/
theorem absentFilled_eq (s : State) (i : StreamIx) (p : Port) :
    s.absentFilled i p =
      if (s.streamRec i).fill = true ∧ (s.streamRec i).template.isSome = true then
        (s.updateStream i StreamRun.absent).offerCyclicTo (.substitute i (s.currentStep i).phase)
          ((s.currentStep i).egress.portsWithout p)
      else s.updateStream i StreamRun.absent := by
  have step : (s.updateStream i StreamRun.absent).currentStep i = s.currentStep i :=
    updateStream_currentStep s i rfl
  cases fill : (s.streamRec i).fill with
  | false => simp [State.absentFilled, fill]
  | true =>
    cases template : (s.streamRec i).template with
    | none => simp [State.absentFilled, fill, offerSubstitutes_of_no_template, template]
    | some k =>
      have named : ((s.updateStream i StreamRun.absent).streamRec i).template = some k := template
      rw [State.absentFilled, fill, if_pos rfl, offerSubstitutes_of_template named, step,
        if_pos ⟨rfl, rfl⟩]

/-- A stream bound to the window and RUNNING or HELD, with no frame admitted, is absent (R34). -/
theorem examineStream_absent {s : State} {w : WindowIx} {i : StreamIx}
    (bound : (s.streamRec i).window = w)
    (state : s.streams[i].state = .running ∨ s.streams[i].state = .held)
    (noFrame : s.streams[i].admittedCount = 0) :
    s.examineStream w i = s.absentStream i s.active.windows[w].port := by
  rw [State.examineStream, if_pos ⟨bound, state⟩, if_neg (by omega)]

/-! ### The stall (R37 to R39) -/

theorem stallsAt_iff (cfg : StreamRec) (r : StreamRun) :
    stallsAt cfg r = true ↔
      r.state = .running ∧ r.absenceRun < 255 ∧ cfg.absenceLimit = r.absenceRun + 1 := by
  simp only [stallsAt, Bool.and_eq_true, decide_eq_true_eq]
  constructor
  · rintro ⟨⟨⟨running, -⟩, run⟩, limit⟩
    exact ⟨running, run, limit.symm⟩
  · rintro ⟨running, run, limit⟩
    exact ⟨⟨⟨running, by omega⟩, run⟩, limit.symm⟩

section
variable {s : State} {w : WindowIx} {i : StreamIx}

/-- The absent close that brings the run to the limit stalls the stream after the fill. -/
theorem examineStream_stalls (bound : (s.streamRec i).window = w) (running : s.streams[i].state = .running)
    (noFrame : s.streams[i].admittedCount = 0) (run : s.streams[i].absenceRun < 255)
    (limit : (s.streamRec i).absenceLimit = s.streams[i].absenceRun + 1) :
    s.examineStream w i =
      (s.absentFilled i s.active.windows[w].port).stallStream i s.active.windows[w].port := by
  rw [examineStream_absent bound (.inl running) noFrame, absentStream_eq,
    if_pos ((stallsAt_iff _ _).2 ⟨running, run, limit⟩)]

/-- Every other absent close ends with the fill. -/
theorem examineStream_fills (bound : (s.streamRec i).window = w)
    (state : s.streams[i].state = .running ∨ s.streams[i].state = .held)
    (noFrame : s.streams[i].admittedCount = 0)
    (far : ¬ (s.streams[i].state = .running ∧ s.streams[i].absenceRun < 255 ∧
      (s.streamRec i).absenceLimit = s.streams[i].absenceRun + 1)) :
    s.examineStream w i = s.absentFilled i s.active.windows[w].port := by
  rw [examineStream_absent bound state noFrame, absentStream_eq, if_neg (mt (stallsAt_iff _ _).1 far)]

end

/-- STALL, HELD with cause STALL, and HOLD: what every stall does before its policy (R38). -/
def State.stallHeld (s : State) (i : StreamIx) (p : Port) : State :=
  (s.raise (occStall i p s.streams[i].absenceRun)).enterHeld i .stall

theorem stallStream_hold {s : State} {i : StreamIx} (policy : (s.streamRec i).stallPolicy = .hold)
    (p : Port) : s.stallStream i p = s.stallHeld i p := by
  rw [State.stallStream, policy]
  rfl

theorem stallStream_holdAndQuench {s : State} {i : StreamIx}
    (policy : (s.streamRec i).stallPolicy = .holdAndQuench) (p : Port) :
    s.stallStream i p = (s.stallHeld i p).addCause .stream := by
  rw [State.stallStream, policy]
  rfl

theorem stallHeld_stream (s : State) (i : StreamIx) (p : Port) :
    (s.stallHeld i p).streams[i] = { s.streams[i] with state := .held, holdCause := some .stall } := by
  rw [State.stallHeld, State.enterHeld, raise_streams, updateStream_same, raise_streams]

theorem stallHeld_quench (s : State) (i : StreamIx) (p : Port) : (s.stallHeld i p).quench = s.quench := by
  simp [State.stallHeld, State.enterHeld]

/-- An occurrence sets the flag of its class (R153). -/
theorem raise_sets_flag (s : State) (o : Occurrence) :
    (s.raise o).events.flags.getLsbD o.cls.number.val = true := by
  rw [raise_flags, BitVec.getLsbD_or]
  simp [o.cls.number.isLt]

theorem stallHeld_flags (s : State) (i : StreamIx) (p : Port) :
    (s.stallHeld i p).events.flags.getLsbD 1 = true ∧ (s.stallHeld i p).events.flags.getLsbD 2 = true :=
  ⟨raise_sets_flag _ (occHold i .stall), raise_keeps_flag _ _ 2 (raise_sets_flag s (occStall i p _))⟩

theorem stallStream_stream (s : State) (i : StreamIx) (p : Port) :
    (s.stallStream i p).streams[i] = { s.streams[i] with state := .held, holdCause := some .stall } := by
  cases policy : (s.streamRec i).stallPolicy with
  | hold => rw [stallStream_hold policy, stallHeld_stream]
  | holdAndQuench => rw [stallStream_holdAndQuench policy, addCause_streams, stallHeld_stream]

/-- The flags of STALL and HOLD are set whether or not cause STREAM follows. -/
theorem stallStream_flags (s : State) (i : StreamIx) (p : Port) :
    (s.stallStream i p).events.flags.getLsbD 1 = true ∧
    (s.stallStream i p).events.flags.getLsbD 2 = true := by
  obtain ⟨hold, stall⟩ := stallHeld_flags s i p
  cases policy : (s.streamRec i).stallPolicy with
  | hold => rw [stallStream_hold policy]; exact ⟨hold, stall⟩
  | holdAndQuench =>
    rw [stallStream_holdAndQuench policy]
    exact ⟨addCause_flag _ _ 1 hold, addCause_flag _ _ 2 stall⟩

/-- A close that does not stall leaves the stream's state, its hold cause and the quench unit. -/
theorem absentFilled_keeps (s : State) (i : StreamIx) (p : Port) :
    (s.absentFilled i p).streams[i].state = s.streams[i].state ∧
    (s.absentFilled i p).streams[i].holdCause = s.streams[i].holdCause ∧
    (s.absentFilled i p).quench = s.quench := by
  rw [absentFilled_stream]
  exact ⟨rfl, rfl, absentFilled_quench s i p⟩

/-- What a stall after the fill leaves behind: HELD with cause STALL, both flags, and cause STREAM by the
stall policy (R38). -/
theorem absentFilled_stallStream (s : State) (i : StreamIx) (p : Port) :
    ((s.absentFilled i p).stallStream i p).streams[i].state = .held ∧
    ((s.absentFilled i p).stallStream i p).streams[i].holdCause = some .stall ∧
    ((s.absentFilled i p).stallStream i p).events.flags.getLsbD 1 = true ∧
    ((s.absentFilled i p).stallStream i p).events.flags.getLsbD 2 = true ∧
    ((s.streamRec i).stallPolicy = .holdAndQuench →
      ((s.absentFilled i p).stallStream i p).quench.causes = { s.quench.causes with stream := true }) ∧
    ((s.streamRec i).stallPolicy = .hold →
      ((s.absentFilled i p).stallStream i p).quench = s.quench) := by
  obtain ⟨hold, stall⟩ := stallStream_flags (s.absentFilled i p) i p
  rw [stallStream_stream]
  refine ⟨rfl, rfl, hold, stall, fun quenches => ?_, fun holds => ?_⟩
  · rw [stallStream_holdAndQuench (by rwa [absentFilled_streamRec]), addCause_causes, stallHeld_quench,
      absentFilled_quench]
    rfl
  · rw [stallStream_hold (by rwa [absentFilled_streamRec]), stallHeld_quench, absentFilled_quench]

/-- Below 255 an absence raises the run by one (R35). -/
theorem absent_run_below_255 {r : StreamRun} (run : r.absenceRun < 255) :
    r.absent.absenceRun = r.absenceRun + 1 := if_pos run

/-- Below 255 the saturating count of R35 is a plain one. -/
theorem updateStream_absent_below_255 {s : State} {i : StreamIx} (run : s.streams[i].absenceRun < 255) :
    s.updateStream i StreamRun.absent =
      s.updateStream i (fun r => { r with
        absenceRun := r.absenceRun + 1
        counters := { r.counters with absences := r.counters.absences + 1#32 } }) := by
  refine updateStream_congr ?_
  rw [StreamRun.absent, satInc, if_pos run]

/-- The occurrences of a stall at a close: STALL carries the run that the close has raised (R38). -/
theorem absentFilled_stallHeld {s : State} {i : StreamIx} (run : s.streams[i].absenceRun < 255) (p : Port) :
    (s.absentFilled i p).stallHeld i p =
      ((s.absentFilled i p).raise (occStall i p (s.streams[i].absenceRun + 1))).enterHeld i .stall := by
  rw [State.stallHeld, absentFilled_stream, absent_run_below_255 run]

/-- Settles O22: an absent close either stalls the stream after the fill or ends with the fill. -/
theorem stallAtTheAbsenceLimit : Obligations.StallAtTheAbsenceLimit := by
  refine ⟨fun s w i bound running noFrame run => ⟨fun limit => ?_, fun off => ?_⟩,
    fun s w i bound noFrame => ⟨fun running full _ => ?_, fun held => ?_⟩,
    fun s w i bound running noFrame run limit => ?_⟩
  · rw [examineStream_stalls bound running noFrame run limit]
    exact absentFilled_stallStream s i _
  · obtain ⟨state, -, quench⟩ := absentFilled_keeps s i s.active.windows[w].port
    rw [examineStream_fills bound (.inl running) noFrame (fun ⟨_, _, limit⟩ => off limit)]
    exact ⟨state.trans running, quench⟩
  · obtain ⟨state, -, quench⟩ := absentFilled_keeps s i s.active.windows[w].port
    rw [examineStream_fills bound (.inl running) noFrame (fun ⟨_, run, _⟩ => absurd run (by omega))]
    exact ⟨state.trans running, quench⟩
  · obtain ⟨state, cause, quench⟩ := absentFilled_keeps s i s.active.windows[w].port
    rw [examineStream_fills bound (.inr held) noFrame
      (fun ⟨running, _⟩ => nomatch held.symm.trans running)]
    exact ⟨state.trans held, cause, quench⟩
  · dsimp only
    rw [examineStream_stalls bound running noFrame run limit,
      ← updateStream_absent_below_255 run, ← absentFilled_eq]
    cases policy : (s.streamRec i).stallPolicy with
    | hold =>
      exact (stallStream_hold (by rwa [absentFilled_streamRec]) _).trans (absentFilled_stallHeld run _)
    | holdAndQuench =>
      rw [stallStream_holdAndQuench (by rwa [absentFilled_streamRec]), absentFilled_stallHeld run]
      rfl

end Sys2Proof.Machine
end

section
/-! SUPPORT. The statements on windows and admission: commands that are not due, the start of a frame, the
checks of admission, and the close of an ADMIT window. -/

namespace Sys2Proof.Machine

/-! ### A command whose occasion does not hold (log 2) -/

/-- A command that takes place where a condition holds answers the state itself where it does not. -/
theorem next_ite_of_false {b : Bool} (s t : State) (off : b = false) :
    (Host.Outcome.next (if b then t else s) : Result) = .next s := by
  subst off
  rfl

/-- WINDOW_CLOSE of a window index that the gate has (R49). -/
theorem exec_windowClose (s : State) (w : WindowIx) :
    exec (.windowClose w.val) s = .next (if s.closeDue .admitting w then s.takeClose w else s) :=
  congrArg Host.Outcome.next (dif_pos w.isLt)

/-- GUARD_CLOSE of a window index that the gate has (R60). -/
theorem exec_guardClose (s : State) (w : WindowIx) :
    exec (.guardClose w.val) s = .next (if s.closeDue .guard w then s.takeClose w else s) :=
  congrArg Host.Outcome.next (dif_pos w.isLt)

/-- A window index that the gate does not have names no close. -/
theorem exec_closes_outside (s : State) {w : Nat} (outside : 64 ≤ w) :
    exec (.windowClose w) s = .next s ∧ exec (.guardClose w) s = .next s :=
  ⟨congrArg Host.Outcome.next (dif_neg (by omega)), congrArg Host.Outcome.next (dif_neg (by omega))⟩

/-- A close of either kind is not due where it is not reached, is taken already, or the window not valid. -/
theorem closeDue_unreached {s : State} {w : WindowIx}
    (unreached : s.timer.state ≠ .running ∨ s.active.windows[w].valid = false ∨
      s.timer.counter < s.active.windows[w].closeOff ∨ s.timer.closesTaken.contains w.val = true)
    (k : WindowKind) : s.closeDue k w = false := by
  refine Bool.eq_false_iff.2 fun due => ?_
  obtain ⟨running, valid, -, reached, fresh⟩ := (closeDue_iff s k w).1 due
  rcases unreached with stopped | invalid | before | taken
  · exact stopped running
  · exact absurd (invalid.symm.trans valid) (by decide)
  · omega
  · exact absurd (fresh.symm.trans taken) (by decide)

/-- A close of one kind is not due at a window of another. -/
theorem closeDue_other_kind {s : State} {w : WindowIx} {k : WindowKind}
    (other : s.active.windows[w].kind ≠ k) : s.closeDue k w = false := by
  refine Bool.eq_false_iff.2 fun due => ?_
  obtain ⟨-, -, kind, -, -⟩ := (closeDue_iff s k w).1 due
  exact other kind

theorem exec_notificationOffer_not_due {s : State} {p : Port} (off : s.offerDue p = false) :
    exec (.notificationOffer p) s = .next s := by
  show Host.Outcome.next (s.offerNotifications p) = .next s
  exact next_ite_of_false s _ off

theorem exec_leaseExpiry_not_due {s : State} (off : s.leaseDue = false) :
    exec .leaseExpiry s = .next s := by
  show execLeaseExpiry s = .next s
  unfold execLeaseExpiry
  cases owner : s.agent.owner with
  | none => rfl
  | some o =>
    have lasts : ¬ o.expiry ≤ s.base := fun past =>
      Bool.eq_false_iff.1 off ((leaseDue_iff s).2 ⟨o, owner, past⟩)
    exact congrArg _ (if_neg lasts)

/-- No record that the command names is AWAITING with its timer run out (R161). -/
theorem exec_retryTimerExpiry_not_due {s : State} {l : ListenerIx} {q : Half}
    (waits : ∀ r ∈ s.events.queue, r.listener = l → r.seq = q → ∀ t, r.state = .awaiting t → s.base < t) :
    exec (.retryTimerExpiry l q) s = .next s := by
  have none_expired : s.events.queue.find? (s.expiredRecord l q) = none := by
    refine List.find?_eq_none.2 fun r mem expired => ?_
    obtain ⟨listener, seq, t, awaiting, past⟩ := (expiredRecord_iff s l q r).1 expired
    have := waits r mem listener seq t awaiting
    omega
  show execRetryTimerExpiry l q s = .next s
  rw [execRetryTimerExpiry, none_expired]

/-- The agent executes only the head of its intake, by the head's own command, outside a restart wait
(R167, R177). -/
theorem agentExecutes_not_due {s : State} {c : Instr}
    (off : s.agent.restartWait.isSome = true ∨ s.agent.intake = [] ∨
      ∃ r rest, s.agent.intake = r :: rest ∧ r.command ≠ c)
    (k : Request → State → State) : s.agentExecutes c k = s := by
  unfold State.agentExecutes
  cases wait : s.agent.restartWait with
  | some w => cases s.agent.intake <;> rfl
  | none =>
    rcases off with waits | empty | ⟨r, rest, head, other⟩
    · exact absurd (wait ▸ waits) (by decide)
    · rw [empty]
    · rw [head]
      exact if_neg other

/-- Every command of a request is an execution of the agent (R167). -/
theorem exec_is_agentExecutes : ∀ c ∈ ownerCommands ++ openCommands ++ [.unknownRequest],
    ∃ k : Request → State → State, ∀ s, exec c s = .next (s.agentExecutes c k) := by
  intro c mem
  fin_cases mem <;> exact ⟨_, fun _ => rfl⟩

/-- Settles O3, command by command. -/
theorem occurrencesThatAreNotDueChangeNothing : Obligations.OccurrencesThatAreNotDueChangeNothing := by
  intro s
  refine ⟨next_ite_of_false s _, next_ite_of_false s _, next_ite_of_false s _, next_ite_of_false s _,
    exec_leaseExpiry_not_due, next_ite_of_false s _,
    fun p => ⟨next_ite_of_false s _, exec_notificationOffer_not_due, next_ite_of_false s _⟩,
    fun w => exec_closes_outside s, fun w => ⟨fun unreached => ⟨?_, ?_⟩, fun guard => ?_, fun admits => ?_⟩,
    fun l q => exec_retryTimerExpiry_not_due, fun c mem off => ?_⟩
  · exact (exec_windowClose s w).trans (next_ite_of_false s _ (closeDue_unreached unreached _))
  · exact (exec_guardClose s w).trans (next_ite_of_false s _ (closeDue_unreached unreached _))
  · exact (exec_windowClose s w).trans
      (next_ite_of_false s _ (closeDue_other_kind (by rw [guard]; decide)))
  · exact (exec_guardClose s w).trans
      (next_ite_of_false s _ (closeDue_other_kind (by rw [admits]; decide)))
  · obtain ⟨k, runs⟩ := exec_is_agentExecutes c mem
    rw [runs, agentExecutes_not_due off]

/-! ### The start of a frame (R51, R130) -/

section
variable {s : State} {p : Port}

theorem exec_startOfFrame_free (up : s.link p = .up) (free : (s.ports.get p).reception = none)
    (f : List Byte) : exec (.startOfFrame p f) s = .next (s.beginReception p f) := by
  show execStartOfFrame p f s = _
  rw [execStartOfFrame, up, free]

theorem exec_startOfFrame_down (down : s.link p = .down) (f : List Byte) :
    exec (.startOfFrame p f) s = .next s := by
  show execStartOfFrame p f s = _
  rw [execStartOfFrame, down]

theorem exec_startOfFrame_early {r : Reception} (occupied : (s.ports.get p).reception = some r)
    (early : r.elapsed < wireTime r.frame.length) (f : List Byte) :
    exec (.startOfFrame p f) s = .next s := by
  cases link : s.link p with
  | down => exact exec_startOfFrame_down link f
  | up =>
    show execStartOfFrame p f s = _
    rw [execStartOfFrame, link, occupied]
    exact congrArg _ (if_neg (by omega))

/-- The frame whose wire time has passed arrives before the next one begins (R130). -/
theorem exec_startOfFrame_arrival {r : Reception} (up : s.link p = .up)
    (occupied : (s.ports.get p).reception = some r) (passed : wireTime r.frame.length ≤ r.elapsed)
    (f : List Byte) :
    exec (.startOfFrame p f) s = .next ((s.frameArrives p r).beginReception p f) := by
  show execStartOfFrame p f s = _
  rw [execStartOfFrame, up, occupied]
  exact congrArg _ (if_pos passed)

theorem exec_frameArrival_passed {r : Reception} (occupied : (s.ports.get p).reception = some r)
    (passed : wireTime r.frame.length ≤ r.elapsed) :
    exec (.frameArrival p) s = .next (s.frameArrives p r) := by
  show execFrameArrival p s = _
  rw [execFrameArrival, occupied]
  exact congrArg _ (if_pos passed)

end

/-- Settles O12, by the link and by what stands in reception. -/
theorem startOfFrameMakesStartRecord : Obligations.StartOfFrameMakesStartRecord := by
  refine ⟨fun s p f up free => exec_startOfFrame_free up free f, fun s p f off => ?_,
    fun s p f r up occupied passed => ⟨s.frameArrives p r, exec_frameArrival_passed occupied passed,
      exec_startOfFrame_arrival up occupied passed f⟩⟩
  rcases off with down | ⟨r, occupied, early⟩
  · exact exec_startOfFrame_down down f
  · exact exec_startOfFrame_early occupied early f

/-! ### Admission (R7, R52 to R57) -/

/-- Check 1 fails where the timer is not RUNNING or has not run on since the start (R53). -/
theorem offRun_iff (s : State) (r : StartRecord) :
    (!s.running || !r.unbroken) = true ↔ s.timer.state ≠ .running ∨ r.unbroken = false := by
  simp [State.running]

theorem classify_streamData {f : List Byte} (gate : halfAt f 12 = 0x88B5#16) (version : frameVersion f = 1)
    (kind : frameKind f = 0) (s : State) (p : Port) : s.classify p f = .streamData := by
  simp [State.classify, isGateFrame, gate, version, kind]

/-- A tag that one enabled stream alone carries is looked up to that stream (R7). -/
theorem lookupTag_of_unique {s : State} {i : StreamIx} {tag : Half}
    (enabled : (s.streamRec i).enabled = true) (carries : (s.streamRec i).tag = tag)
    (alone : ∀ j : StreamIx, j ≠ i → (s.streamRec j).enabled = true → (s.streamRec j).tag ≠ tag) :
    s.lookupTag tag = some i := by
  cases found : s.lookupTag tag with
  | none =>
    have misses := List.find?_eq_none.1 found i (mem_allStreams i)
    simp [enabled, carries] at misses
  | some j =>
    have meets := List.find?_some found
    simp only [Bool.and_eq_true, decide_eq_true_eq] at meets
    obtain ⟨on, same⟩ := meets
    by_contra other
    exact alone j (fun e => other (congrArg some e)) on same

/-- A frame of a known tag is judged by admission (R52). -/
theorem goodFrame_of_known_tag {s : State} {i : StreamIx} {f : List Byte}
    (gate : halfAt f 12 = 0x88B5#16) (version : frameVersion f = 1) (kind : frameKind f = 0)
    (known : s.lookupTag (frameTag f) = some i) (p : Port) (r : StartRecord) :
    s.goodFrame p r f = s.streamFrame i p r f := by
  rw [State.goodFrame, classify_streamData gate version kind]
  show s.streamData p r f = _
  rw [State.streamData, known]

section
variable {s : State} {i : StreamIx} {p : Port} {r : StartRecord}

theorem streamFrame_misplaced {code : Half} (judged : s.admission i p r = .misplaced code) (f : List Byte) :
    s.streamFrame i p r f =
      (s.countStream i (fun c => { c with misplaced := c.misplaced + 1#32 })).raise
        (occMisplaced i p code) := by
  rw [State.streamFrame, judged]

theorem streamFrame_surplus (judged : s.admission i p r = .surplus) (f : List Byte) :
    s.streamFrame i p r f =
      (s.countStream i (fun c => { c with surplus := c.surplus + 1#32 })).raise
        (occSurplus i p (framePhase f)) := by
  rw [State.streamFrame, judged]

theorem streamFrame_admitted (judged : s.admission i p r = .admitted) (f : List Byte) :
    s.streamFrame i p r f =
      ((s.updateStream i StreamRun.admit1).holdFrame p f).admittedFrame i p (framePhase f) s.nextFrame := by
  rw [State.streamFrame, judged]

end

/-- Settles O16: the checks in order, then one equation for each outcome. -/
theorem admissionChecksInOrder : Obligations.AdmissionChecksInOrder := by
  refine ⟨fun s i p r => ?_, fun s i p r f => ⟨fun gate version kind enabled carries alone => ?_,
    fun code judged => streamFrame_misplaced judged f, fun judged => streamFrame_surplus judged f,
    fun judged => streamFrame_admitted judged f⟩⟩
  · exact if_congr (offRun_iff s r) rfl rfl
  · exact goodFrame_of_known_tag gate version kind (lookupTag_of_unique enabled carries alone) p r

/-! ### The close of an ADMIT window (R34 to R36, R49) -/

/-- A close that is due is noted, and the streams are examined after that (R34, R49). -/
theorem exec_windowClose_due {s : State} {w : WindowIx} (due : s.closeDue .admitting w = true) :
    exec (.windowClose w.val) s = .next ((s.noteClose w).examineWindow w) := by
  obtain ⟨-, -, admits, -, -⟩ := (closeDue_iff s .admitting w).1 due
  rw [exec_windowClose, if_pos due, State.takeClose, admits]

section
variable {s : State} {w : WindowIx} {i : StreamIx}

/-- A stream of another window, or one that is ARMED or DISABLED, is left alone (R34). -/
theorem examineStream_alone (off : (s.streamRec i).window ≠ w ∨ s.streams[i].state = .armed ∨
    s.streams[i].state = .disabled) : s.examineStream w i = s := by
  refine if_neg ?_
  rintro ⟨bound, state⟩
  rcases off with other | armed | disabled
  · exact other bound
  · rw [armed] at state
    exact absurd state (by decide)
  · rw [disabled] at state
    exact absurd state (by decide)

/-- A stream with a frame admitted in the cycle is present (R34). -/
theorem examineStream_present (bound : (s.streamRec i).window = w)
    (state : s.streams[i].state = .running ∨ s.streams[i].state = .held)
    (present : 1 ≤ s.streams[i].admittedCount) :
    s.examineStream w i = s.updateStream i (fun r => { r with absenceRun := 0 }) := by
  rw [State.examineStream, if_pos ⟨bound, state⟩, if_pos present]

end

/-- An absence leaves the record absent, with or without an entry into HELD (R35, R38). -/
theorem absentStream_stream (s : State) (i : StreamIx) (p : Port) :
    (s.absentStream i p).streams[i] = s.streams[i].absent ∨
    (s.absentStream i p).streams[i] =
      { s.streams[i].absent with state := .held, holdCause := some .stall } := by
  rw [absentStream_eq]
  split
  · exact .inr (by rw [stallStream_stream, absentFilled_stream])
  · exact .inl (absentFilled_stream s i p)

/-- Run, counters and position of a stream after an absence are those that R35 gives, stall or not. -/
theorem absentStream_fields (s : State) (i : StreamIx) (p : Port) :
    (s.absentStream i p).streams[i].absenceRun = satInc s.streams[i].absenceRun ∧
    (s.absentStream i p).streams[i].counters =
      { s.streams[i].counters with absences := s.streams[i].counters.absences + 1#32 } ∧
    (s.absentStream i p).streams[i].position = s.streams[i].position := by
  rcases absentStream_stream s i p with fills | stalls
  · rw [fills]; exact ⟨rfl, rfl, rfl⟩
  · rw [stalls]; exact ⟨rfl, rfl, rfl⟩

/-- The run saturates at 255 (R35). -/
theorem satInc_eq_or (n : Nat) : satInc n = (if n < 255 then n + 1 else 255) ∨ 255 < n := by
  unfold satInc
  split <;> omega

/-! ### The other streams at a close -/

theorem updateStream_other (s : State) {i j : StreamIx} (other : j ≠ i) (f : StreamRun → StreamRun) :
    (s.updateStream i f).streams[j] = s.streams[j] := by
  rw [updateStream_streams, streams_set_other _ other.symm]

theorem stallHeld_other (s : State) {i j : StreamIx} (other : j ≠ i) (p : Port) :
    (s.stallHeld i p).streams[j] = s.streams[j] := by
  rw [State.stallHeld, State.enterHeld, raise_streams, updateStream_other _ other, raise_streams]

theorem stallStream_other (s : State) {i j : StreamIx} (other : j ≠ i) (p : Port) :
    (s.stallStream i p).streams[j] = s.streams[j] := by
  cases policy : (s.streamRec i).stallPolicy with
  | hold => rw [stallStream_hold policy, stallHeld_other s other]
  | holdAndQuench => rw [stallStream_holdAndQuench policy, addCause_streams, stallHeld_other s other]

theorem absentStream_other (s : State) {i j : StreamIx} (other : j ≠ i) (p : Port) :
    (s.absentStream i p).streams[j] = s.streams[j] := by
  have filled : (s.absentFilled i p).streams[j] = s.streams[j] := by
    rw [absentFilled_streams, updateStream_other s other]
  rw [absentStream_eq]
  split
  · rw [stallStream_other _ other, filled]
  · exact filled

/-- The examination of a stream leaves the records of the others. -/
theorem examineStream_other (s : State) (w : WindowIx) {i j : StreamIx} (other : j ≠ i) :
    (s.examineStream w i).streams[j] = s.streams[j] := by
  unfold State.examineStream
  split
  · split
    · exact updateStream_other s other _
    · exact absentStream_other s other _
  · rfl

/-! ### The fill of an absent close (R36) -/

theorem absentFilled_without_fill {s : State} {i : StreamIx}
    (off : (s.streamRec i).fill = false ∨ (s.streamRec i).template = none) (p : Port) :
    s.absentFilled i p = s.updateStream i StreamRun.absent := by
  rw [absentFilled_eq]
  refine if_neg ?_
  rintro ⟨fill, named⟩
  rcases off with noFill | noTemplate
  · exact absurd (noFill.symm.trans fill) (by decide)
  · exact absurd (noTemplate ▸ named) (by decide)

theorem absentFilled_with_fill {s : State} {i : StreamIx} {k : Fin 32} (fill : (s.streamRec i).fill = true)
    (named : (s.streamRec i).template = some k) (p : Port) :
    s.absentFilled i p =
      (s.updateStream i StreamRun.absent).offerCyclicTo (.substitute i (s.currentStep i).phase)
        ((s.currentStep i).egress.portsWithout p) := by
  rw [absentFilled_eq]
  exact if_pos ⟨fill, by rw [named]; rfl⟩

/-- A HELD stream, and a RUNNING one that is not one absence short of its limit, has only the fill made
(R36, R37). -/
theorem examineStream_short_of_limit {s : State} {w : WindowIx} {i : StreamIx}
    (bound : (s.streamRec i).window = w)
    (state : s.streams[i].state = .running ∨ s.streams[i].state = .held)
    (noFrame : s.streams[i].admittedCount = 0)
    (far : s.streams[i].state = .held ∨ (s.streamRec i).absenceLimit ≠ s.streams[i].absenceRun + 1) :
    s.examineStream w i = s.absentFilled i s.active.windows[w].port := by
  refine examineStream_fills bound state noFrame ?_
  rintro ⟨running, -, limit⟩
  rcases far with held | short
  · exact nomatch held.symm.trans running
  · exact short limit

/-- Settles O21: the close examines the streams in order, and each is alone, present or absent. -/
theorem windowCloseExaminesStreams : Obligations.WindowCloseExaminesStreams := by
  refine ⟨fun s w running valid admits reached fresh => ?_, fun s w => rfl,
    List.map_coe_finRange_eq_range, fun s w i => ⟨examineStream_alone, fun bound state => ?_,
      fun j other => examineStream_other s w other⟩⟩
  · exact exec_windowClose_due ((closeDue_iff s .admitting w).2 ⟨running, valid, admits, reached, fresh⟩)
  obtain ⟨run, counters, position⟩ := absentStream_fields s i s.active.windows[w].port
  refine ⟨examineStream_present bound state, fun noFrame => ?_, fun noFrame => ?_,
    fun noFrame far => ⟨fun off => ?_, fun k fill named => ?_⟩⟩
  · rw [examineStream_absent bound state noFrame, run]
    exact satInc_eq_or _
  · rw [examineStream_absent bound state noFrame]
    exact ⟨counters, position⟩
  · rw [examineStream_short_of_limit bound state noFrame far]
    exact absentFilled_without_fill off _
  · rw [examineStream_short_of_limit bound state noFrame far]
    exact absentFilled_with_fill fill named _

end Sys2Proof.Machine
end

section
/-! SUPPORT. The statements on cold reset, on the tick and on what is due: every block's cold-reset value, and
one condition for each command. -/

namespace Sys2Proof.Machine

/-! ### Cold reset (R63, R106, R128, R151, R164, R179) -/

/-- The straps take the low four bits of the station address, which are 0 in its fixed part (R132). -/
theorem coldReset_stationAddr (s : State) (strap : BitVec 4) (links : PerPort LinkState) (level : LineLevel) :
    (s.coldReset strap links level).stationAddr = 0x024F53D24000#48 + strap.setWidth 48 := by
  show 0x024F53D24000#48 ||| strap.setWidth 48 = _
  revert strap
  decide

theorem coldReset_port (s : State) (strap : BitVec 4) (links : PerPort LinkState) (level : LineLevel)
    (p : Port) :
    ((s.coldReset strap links level).ports.get p = PortUnit.cold (links.get p)) ∧
    ((s.coldReset strap links level).egress.get p = Egress.cold (links.get p)) :=
  ⟨perPort_get_map links _ p, perPort_get_map links _ p⟩

/-- Settles O6, block by block. -/
theorem coldResetSetsEveryOtherBlock : Obligations.ColdResetSetsEveryOtherBlock := by
  refine ⟨fun s strap links level => ⟨_, rfl, rfl, rfl, rfl, rfl, rfl, rfl, rfl, rfl, rfl,
      fun i => Vector.getElem_replicate i.isLt, rfl, rfl, rfl, rfl, rfl, rfl, rfl, rfl, rfl, rfl, rfl, rfl,
      fun c => Vector.getElem_replicate c.isLt, fun l => Vector.getElem_replicate l.isLt,
      rfl, rfl, rfl, rfl, rfl, rfl, rfl, rfl, coldReset_stationAddr s strap links level⟩,
    fun s strap links level => ⟨_, rfl, rfl, rfl, rfl, rfl, rfl, rfl, fun p => ?_⟩⟩
  obtain ⟨port, egress⟩ := coldReset_port s strap links level p
  rw [port, egress]
  exact ⟨rfl, rfl, rfl, rfl, rfl, rfl, rfl⟩

/-! ### The tick (R63, R93, R130, R145) -/

theorem step_empty {s : State} (empty : s.pending = []) : step s = .next s.idle := by
  rw [step, empty]

theorem idle_nothing_due {s : State} (nothing : s.dueNow = []) : s.idle = s.tick := by
  rw [State.idle, nothing]

theorem timer_tick (t : Timer) :
    t.tick = { t with counter := if t.state = .running then t.counter + 1 else t.counter } := by
  obtain ⟨state⟩ := t
  cases state <;> rfl

theorem egress_tick_not_sending {e : Egress} (quiet : e.isSending = false) :
    e.tick.transmitter = e.transmitter := by
  unfold Egress.tick
  cases sent : e.transmitter with
  | sending x => rw [Egress.isSending, sent] at quiet; cases quiet
  | down => rfl
  | idle => rfl
  | waiting => rfl

theorem egress_tick_sending {e : Egress} {x : Transmission} (sent : e.transmitter = .sending x) :
    e.tick.transmitter = .sending { x with remaining := x.remaining - 1 } := by
  rw [Egress.tick, sent]

/-- The whole state after a tick. -/
theorem tick_eq (s : State) :
    s.tick = { s with
      base := s.base + 1
      ports := s.tick.ports, egress := s.egress.map Egress.tick
      timer := { s.timer with
        counter := if s.timer.state = .running then s.timer.counter + 1 else s.timer.counter }
      quench := { s.quench with
        pinTicks := if s.quench.pinTicks < 2 then s.quench.pinTicks + 1 else s.quench.pinTicks } } := by
  rw [← timer_tick]
  rfl

/-- One of the occurrences that are due enters the queue (log 5). -/
theorem idle_something_due {s : State} (some_due : s.dueNow ≠ []) :
    ∃ c ∈ s.dueNow, ∃ n : Nat, s.idle = { s with pending := [c], draws := n } := by
  unfold State.idle
  match due : s.dueNow with
  | [] => exact absurd due some_due
  | [c] => exact ⟨c, List.mem_singleton_self c, s.draws, rfl⟩
  | c :: d :: rest =>
    refine ⟨_, ?_, s.draws + 1, rfl⟩
    have inside : Config.tieOrder s.draws % (rest.length + 2) < (c :: d :: rest).length :=
      Nat.mod_lt _ (Nat.succ_pos _)
    rw [List.getD_eq_getElem _ _ inside]
    exact List.getElem_mem inside

/-! ### When each command is due -/

/-- The occurrences that are due, each with its condition. A request's command is none of them, and what comes
from outside neither. -/
inductive State.Occurs (s : State) : Instr → Prop
  | transmitStart {p} : (s.egress.get p).maySelect = true → s.Occurs (.transmitStart p)
  | transmitComplete {p} : (∃ x, (s.egress.get p).transmitter = .sending x ∧ x.remaining = 0) →
      s.Occurs (.transmitComplete p)
  | frameArrival {p} : (∃ r, (s.ports.get p).reception = some r ∧ wireTime r.frame.length ≤ r.elapsed) →
      s.Occurs (.frameArrival p)
  | guardOpen {p} : s.cutDue p = true → s.Occurs (.guardOpen p)
  | notificationOffer {p} : s.offerDue p = true → s.Occurs (.notificationOffer p)
  | windowClose {w} : (∃ v : WindowIx, v.val = w ∧ s.closeDue .admitting v = true) → s.Occurs (.windowClose w)
  | guardClose {w} : (∃ v : WindowIx, v.val = w ∧ s.closeDue .guard v = true) → s.Occurs (.guardClose w)
  | cycleStart : s.cycleStartDue = true → s.Occurs .cycleStart
  | intervalClose : s.intervalOver = true → s.Occurs .attributionIntervalClose
  | advanceEnd : s.advanceEndDue = true → s.Occurs .pendingAdvanceEnd
  | lineAsserted : s.quench.lineDue = true ∧ s.quench.pin = .asserted → s.Occurs .quenchLineAsserted
  | lineDeasserted : s.quench.lineDue = true ∧ s.quench.pin = .deasserted → s.Occurs .quenchLineDeasserted
  | retry {l q} : (∃ r ∈ s.events.queue, s.expiredRecord l q r = true) → s.Occurs (.retryTimerExpiry l q)
  | lease : s.leaseDue = true → s.Occurs .leaseExpiry
  | restage : s.restageDone = true → s.Occurs .restageCompletion
  | restart : s.restartDue = true → s.Occurs .restartWaitExpiry

theorem occurs_of_portDue {s : State} {p : Port} {c : Instr} (due : c ∈ s.portDue p) : s.Occurs c := by
  rcases (mem_portDue s p c).1 due with ⟨h, rfl⟩ | ⟨h, rfl⟩ | ⟨h, rfl⟩ | ⟨h, rfl⟩ | ⟨h, rfl⟩
  exacts [.transmitStart h, .transmitComplete h, .frameArrival h, .guardOpen h, .notificationOffer h]

theorem occurs_of_windowsDue {s : State} {c : Instr} (due : c ∈ s.windowsDue) : s.Occurs c := by
  obtain ⟨v, ⟨h, rfl⟩ | ⟨h, rfl⟩⟩ := (mem_windowsDue s c).1 due
  exacts [.windowClose ⟨v, rfl, h⟩, .guardClose ⟨v, rfl, h⟩]

theorem occurs_of_lineDue {s : State} {c : Instr} (due : c ∈ s.lineDue) : s.Occurs c := by
  obtain ⟨h, ⟨pin, rfl⟩ | ⟨pin, rfl⟩⟩ := (mem_lineDue s c).1 due
  exacts [.lineAsserted ⟨h, pin⟩, .lineDeasserted ⟨h, pin⟩]

theorem occurs_of_retriesDue {s : State} {c : Instr} (due : c ∈ s.retriesDue) : s.Occurs c := by
  obtain ⟨r, mem, expired, rfl⟩ := (mem_retriesDue s c).1 due
  exact .retry ⟨r, mem, expired⟩

/-- A record names its retry timer by its listener and its sequence number (log 46). -/
theorem retriesDue_of_expired {s : State} {l : ListenerIx} {q : Half}
    (expires : ∃ r ∈ s.events.queue, s.expiredRecord l q r = true) :
    .retryTimerExpiry l q ∈ s.retriesDue := by
  obtain ⟨r, mem, expired⟩ := expires
  obtain ⟨rfl, rfl, -⟩ := (expiredRecord_iff s l q r).1 expired
  exact (mem_retriesDue s _).2 ⟨r, mem, expired, rfl⟩

/-- What is due is an occurrence whose condition holds, or the request at the head of the intake queue. -/
theorem mem_dueNow_iff (s : State) (c : Instr) : c ∈ s.dueNow ↔ s.Occurs c ∨ c ∈ s.requestDue := by
  rw [mem_dueNow]
  constructor
  · rintro (⟨p, h⟩ | h | ⟨h, rfl⟩ | ⟨h, rfl⟩ | ⟨h, rfl⟩ | h | h | ⟨h, rfl⟩ | ⟨h, rfl⟩ | ⟨h, rfl⟩ | h)
    exacts [.inl (occurs_of_portDue h), .inl (occurs_of_windowsDue h), .inl (.cycleStart h),
      .inl (.intervalClose h), .inl (.advanceEnd h), .inl (occurs_of_lineDue h),
      .inl (occurs_of_retriesDue h), .inl (.lease h), .inl (.restage h), .inl (.restart h), .inr h]
  · rintro (h | h)
    · cases h with
      | retry h => simp only [retriesDue_of_expired h, true_or, or_true]
      | windowClose h =>
        obtain ⟨v, rfl, h⟩ := h
        exact .inr (.inl ((mem_windowsDue s _).2 ⟨v, .inl ⟨h, rfl⟩⟩))
      | guardClose h =>
        obtain ⟨v, rfl, h⟩ := h
        exact .inr (.inl ((mem_windowsDue s _).2 ⟨v, .inr ⟨h, rfl⟩⟩))
      | _ h => simp [mem_portDue, mem_lineDue, h]
    · simp only [h, or_true]

/-- A command of no request is due exactly when it occurs. -/
theorem occurrence_due_iff {s : State} {c : Instr} {condition : Prop} (occurs : s.Occurs c ↔ condition)
    (own : c ∉ ownerCommands ++ openCommands ++ [.unknownRequest] := by simp [ownerCommands, openCommands]) :
    c ∈ s.dueNow ↔ condition := by
  rw [mem_dueNow_iff, ← occurs, or_iff_left]
  intro due
  obtain ⟨-, r, -, -, rfl⟩ := (mem_requestDue s c).1 due
  exact own (command_mem r)

/-- A request's command is due exactly when its request is at the head of the intake queue with no restart
wait present (R167, R177; log 43). -/
theorem request_due_iff (s : State) {c : Instr}
    (request : c ∈ ownerCommands ++ openCommands ++ [.unknownRequest]) :
    c ∈ s.dueNow ↔ s.agent.restartWait = none ∧ ∃ r rest, s.agent.intake = r :: rest ∧ r.command = c := by
  rw [mem_dueNow_iff, or_iff_right, mem_requestDue]
  · simp only [eq_comm]
  · intro occurs
    cases occurs <;> simp [ownerCommands, openCommands] at request

/-- What comes from outside is never due. -/
theorem outside_never_due {s : State} {c : Instr} (outside : ¬ s.Occurs c)
    (own : c ∉ ownerCommands ++ openCommands ++ [.unknownRequest] := by simp [ownerCommands, openCommands]) :
    c ∉ s.dueNow :=
  (occurrence_due_iff (iff_of_false outside id) own).1

/-- A level other than the one taken is due when it has been on the pin for two ticks (R93). -/
theorem lineDue_to_iff (q : Quench) {l m : LineLevel} (opposite : l ≠ m) :
    q.lineDue = true ∧ q.pin = l ↔ q.pin = l ∧ q.level = m ∧ 2 ≤ q.pinTicks := by
  rw [lineDue_iff]
  cases l <;> cases m <;> cases q.level <;> cases q.pin <;> simp at opposite ⊢

/-- When a close of a kind is due, by the number of its window. -/
theorem numbered_closeDue_iff (s : State) (k : WindowKind) (w : Nat) :
    (∃ v : WindowIx, v.val = w ∧ s.closeDue k v = true) ↔ ∃ v : WindowIx, v.val = w ∧
      s.timer.state = .running ∧ s.active.windows[v].valid = true ∧ s.active.windows[v].kind = k ∧
      s.active.windows[v].closeOff ≤ s.timer.counter ∧ s.timer.closesTaken.contains w = false := by
  refine exists_congr fun v => and_congr_right ?_
  rintro rfl
  exact closeDue_iff s k v

/-- When the pending advance ends, by the start of its frame (R76). -/
theorem advanceEndDue_by_start (s : State) :
    s.advanceEndDue = true ↔ s.timer.state = .running ∧ s.timer.current.isSome = true ∧
      ∃ r, (s.ports.get s.active.settings.markPort).reception = some r ∧ r.start.unbroken = true ∧
        128 < r.received ∧ r.advanceEnded = false ∧
        ((∃ c, s.timer.current = some c ∧ r.start.cycle = s.timer.cycleCount ∧ c.follow = .follow ∧
            c.period - c.tolerance ≤ r.start.offset) ∨
         (∃ e, s.timer.ended = some e ∧ r.start.cycle + 1#32 = s.timer.cycleCount ∧
            e.params.follow = .follow ∧ e.params.period - e.params.tolerance ≤ r.start.offset ∧
            ∀ a, s.timer.attribution = some a → a.onTime = false)) := by
  simp only [advanceEndDue_iff, earlyStartOpen_iff]
  constructor
  · rintro ⟨running, r, received, unbroken, long, fresh, begun, early⟩
    exact ⟨running, begun, r, received, unbroken, long, fresh, early⟩
  · rintro ⟨running, begun, r, received, unbroken, long, fresh, early⟩
    exact ⟨running, r, received, unbroken, long, fresh, begun, early⟩

/-- Settles O2: the two ways in which an empty queue goes on, then the condition of every command. -/
theorem emptyQueueTicksOrTakesWhatIsDue : Obligations.EmptyQueueTicksOrTakesWhatIsDue := by
  refine ⟨fun s empty nothing => ⟨s.tick, ?_, tick_eq s, fun p => ?_⟩, fun s empty some_due => ?_,
    fun s w => ⟨?_, ?_⟩, fun s => ⟨?_, ?_, ?_⟩, fun s p => ⟨?_, ?_, ?_, ?_, ?_⟩, fun s l q => ?_,
    fun s => ⟨?_, ?_, ?_, ?_, ?_, fun c => request_due_iff s, fun strap links level => ?_,
      fun p f => ⟨?_, ?_, ?_⟩⟩⟩
  · rw [step_empty empty, idle_nothing_due nothing]
  · have port : s.tick.ports.get p = (s.ports.get p).tick := perPort_get_map _ _ p
    have egress : s.tick.egress.get p = (s.egress.get p).tick := perPort_get_map _ _ p
    rw [port, egress]
    exact ⟨rfl, rfl, rfl, rfl, rfl, rfl, rfl, fun x => egress_tick_sending, egress_tick_not_sending⟩
  · obtain ⟨c, due, n, idle⟩ := idle_something_due some_due
    exact ⟨c, due, n, by rw [step_empty empty, idle]⟩
  · exact (occurrence_due_iff ⟨fun | .windowClose h => h, .windowClose⟩).trans (numbered_closeDue_iff s _ w)
  · exact (occurrence_due_iff ⟨fun | .guardClose h => h, .guardClose⟩).trans (numbered_closeDue_iff s _ w)
  · exact occurrence_due_iff ⟨fun | .cycleStart h => h, .cycleStart⟩
  · exact (occurrence_due_iff ⟨fun | .intervalClose h => h, .intervalClose⟩).trans (intervalOver_iff s)
  · exact (occurrence_due_iff ⟨fun | .advanceEnd h => h, .advanceEnd⟩).trans (advanceEndDue_by_start s)
  · exact occurrence_due_iff ⟨fun | .frameArrival h => h, .frameArrival⟩
  · exact (occurrence_due_iff ⟨fun | .transmitStart h => h, .transmitStart⟩).trans (maySelect_iff _)
  · exact occurrence_due_iff ⟨fun | .transmitComplete h => h, .transmitComplete⟩
  · exact (occurrence_due_iff ⟨fun | .guardOpen h => h, .guardOpen⟩).trans (cutDue_iff s p)
  · exact (occurrence_due_iff ⟨fun | .notificationOffer h => h, .notificationOffer⟩).trans (offerDue_iff s p)
  · exact (occurrence_due_iff ⟨fun | .retry h => h, .retry⟩).trans (by simp only [expiredRecord_iff])
  · exact (occurrence_due_iff ⟨fun | .lease h => h, .lease⟩).trans (leaseDue_iff s)
  · exact (occurrence_due_iff ⟨fun | .restage h => h, .restage⟩).trans (restageDone_iff s)
  · exact (occurrence_due_iff ⟨fun | .restart h => h, .restart⟩).trans (restartDue_iff s)
  · exact (occurrence_due_iff ⟨fun | .lineAsserted h => h, .lineAsserted⟩).trans
      (lineDue_to_iff s.quench (by decide))
  · exact (occurrence_due_iff ⟨fun | .lineDeasserted h => h, .lineDeasserted⟩).trans
      (lineDue_to_iff s.quench (by decide))
  · exact outside_never_due nofun
  · exact outside_never_due nofun
  · exact outside_never_due nofun
  · exact outside_never_due nofun

end Sys2Proof.Machine
end

section
/-! SUPPORT. The cycle start: what of the interval before it is carried, what it hands to its neighbours, and
the whole effect of the period match. -/

namespace Sys2Proof.Machine

/-! ### The carried interval (R75, log 15) -/

@[simp] theorem markFault_timer (s : State) (code : Half) :
    (s.markFault code).timer = { s.timer with faultCount := satInc s.timer.faultCount } := by
  unfold State.markFault
  dsimp only
  split <;> simp

section
variable {s : State} {a : Attribution}

theorem closeInterval_onTime (record : s.timer.attribution = some a) (onTime : a.onTime = true) :
    s.closeInterval = s.setTimer { s.timer with attribution := some { a with isOpen := false } } := by
  rw [State.closeInterval, record]
  exact if_pos onTime

theorem closeInterval_missing (record : s.timer.attribution = some a) (missing : a.onTime = false) :
    s.closeInterval =
      (s.setTimer { s.timer with attribution := some { a with isOpen := false } }).markFault 2#16 := by
  rw [State.closeInterval, record]
  exact if_neg (by simp [missing])

/-- Whether the open interval of a start is held: it has no on-time mark, and a frame in reception holds it. -/
theorem intervalHeld_iff (record : s.timer.attribution = some a) (isOpen : a.isOpen = true) :
    s.intervalHeld = true ↔ a.onTime = false ∧
      ∃ r, (s.ports.get s.active.settings.markPort).reception = some r ∧ s.holdsInterval r = true := by
  rw [State.intervalHeld, State.markPort, record]
  cases (s.ports.get s.active.settings.markPort).reception <;> simp [isOpen]

theorem carryInterval_closed (closed : ∀ a, s.timer.attribution = some a → a.isOpen = false) :
    s.carryInterval = s := by
  unfold State.carryInterval State.intervalHeld
  cases record : s.timer.attribution with
  | none => rfl
  | some a => simp [closed a record]

theorem carryInterval_open (record : s.timer.attribution = some a) (isOpen : a.isOpen = true)
    (free : ¬ s.intervalHeld = true) : s.carryInterval = s.closeInterval := by
  rw [State.carryInterval, if_neg free, record]
  exact if_pos isOpen

theorem carryInterval_held {r : Reception} (record : s.timer.attribution = some a) (isOpen : a.isOpen = true)
    (missing : a.onTime = false)
    (received : (s.ports.get s.active.settings.markPort).reception = some r)
    (holds : s.holdsInterval r = true) :
    s.carryInterval = s.updatePort s.active.settings.markPort
      (fun u => { u with reception := some { r with holdsEarlier := true } }) := by
  rw [State.carryInterval, if_pos ((intervalHeld_iff record isOpen).2 ⟨missing, r, received, holds⟩)]
  simp only [State.updatePort, State.markPort, received, Option.map_some]

end

/-- What a cycle start can do with the interval of the start before it. -/
theorem carryInterval_cases (s : State) :
    s.carryInterval = s ∨ s.carryInterval = s.closeInterval ∨
      ∃ f, s.carryInterval = s.updatePort s.markPort f := by
  unfold State.carryInterval
  split
  · exact .inr (.inr ⟨_, rfl⟩)
  · split
    · split
      · exact .inr (.inl rfl)
      · exact .inl rfl
    · exact .inl rfl

/-- The close of an interval moves the attribution record and the mark-fault count alone in the timer. -/
theorem closeInterval_timer (s : State) :
    ∃ (a : Option Attribution) (n : Nat),
      s.closeInterval.timer = { s.timer with attribution := a, faultCount := n } := by
  unfold State.closeInterval
  split
  · dsimp only
    split
    · exact ⟨_, _, rfl⟩
    · exact ⟨_, _, markFault_timer _ _⟩
  · exact ⟨_, _, rfl⟩

theorem carryInterval_timer (s : State) :
    ∃ (a : Option Attribution) (n : Nat),
      s.carryInterval.timer = { s.timer with attribution := a, faultCount := n } := by
  obtain carried | carried | ⟨f, carried⟩ := carryInterval_cases s <;> rw [carried]
  · exact ⟨_, _, rfl⟩
  · exact closeInterval_timer s
  · exact ⟨_, _, rfl⟩

/-! ### The counts of a cycle start (R64) -/

/-- The state at a period match with the interval before it carried, the counter at 0 and the cycle counted. -/
def State.counted (s : State) : State :=
  s.carryInterval.setTimer { s.carryInterval.timer with
    counter := 0, cycleCount := s.timer.cycleCount + 1#32 }

theorem periodMatch_eq (s : State) : s.periodMatch = s.counted.handCycleStart false := by
  obtain ⟨a, n, timer⟩ := carryInterval_timer s
  simp only [State.periodMatch, State.counted, timer]

theorem counted_within (s : State) : Within { Footprint.marking with ports := true } s s.counted :=
  (carryInterval_within s).comp (setTimer_within _ _) rfl rfl

theorem counted_timer (s : State) :
    ∃ (a : Option Attribution) (n : Nat), s.counted.timer = { s.timer with
      attribution := a, faultCount := n, counter := 0, cycleCount := s.timer.cycleCount + 1#32 } := by
  obtain ⟨a, n, timer⟩ := carryInterval_timer s
  exact ⟨a, n, by simp only [State.counted, setTimer_timer, timer]⟩

/-- A period match meets the target of a commit for the next start, or for the count that it brings (R119). -/
theorem counted_stagingCycleStart (s : State) :
    (∀ c, s.staging.state = .pending → s.staging.commit = some c →
      (c.target = .nextStart ∨ c.target = .atCycle (s.timer.cycleCount + 1#32)) →
      s.counted.stagingCycleStart = s.counted.applyCommit) ∧
    (s.staging.state ≠ .pending ∨ s.staging.commit = none ∨
      (∃ c n, s.staging.commit = some c ∧ c.target = .atCycle n ∧ n ≠ s.timer.cycleCount + 1#32) →
      s.counted.stagingCycleStart = s.counted) := by
  have staging := (counted_within s).staging rfl
  have met := stagingCycleStart_eq s.counted
  rw [staging] at met
  exact met

/-! ### The neighbours of a cycle start (log 14) -/

/-- The state that a cycle start hands to quench unit and cut-offs: the staging controller's part done, the
cycle begun, the counts of the streams at 0. -/
def State.begun (s : State) (first : Bool) : State := (s.stagingCycleStart.beginCycle first).zeroAdmitted

/-- Quench unit and cut-offs at a cycle start. -/
def State.neighbours (s : State) : State :=
  inEitherOrder s.quenchAndCut State.quenchCycleStart State.cutOffs s

theorem handCycleStart_eq (s : State) (first : Bool) :
    s.handCycleStart first = (s.begun first).neighbours.callSelections := rfl

/-- The four ways in which quench unit and cut-offs follow a cycle start. -/
theorem neighbours_forms (s : State) :
    (s.quench.wait = none ∧ s.neighbours = s.cutOffs) ∨ s.neighbours = s.quenchCycleStart ∨
      s.neighbours = (s.draw 1).quenchCycleStart.cutOffs ∨
      s.neighbours = (s.draw 1).cutOffs.quenchCycleStart := by
  obtain ⟨quiet, whole, both⟩ := neighbours_cases s
  by_cases wait : s.quench.wait = none
  · exact .inl ⟨wait, quiet wait⟩
  · by_cases cut : ∃ p : Port, s.cutDue p = true
    · exact .inr (.inr (both wait cut))
    · exact .inr (.inl (whole fun p => Bool.eq_false_iff.2 fun due => cut ⟨p, due⟩))

/-- What quench unit and cut-offs touch at a cycle start. -/
def Footprint.neighbouring : Footprint :=
  { Footprint.cutting with quench := true, draws := true }

theorem neighbours_within (s : State) : Within .neighbouring s s.neighbours :=
  inEitherOrder_within _ (fun t => (quenchCycleStart_within t).mono rfl)
    (fun t => (cutOffs_within t).mono rfl) rfl s

/-- What holds of a state and is kept by draw, quench unit and cut-offs holds after both of them. -/
theorem neighbours_keep_property {P : State → Prop} {s : State} (h : P s)
    (drawn : ∀ t, P t → P (t.draw 1)) (unit : ∀ t, P t → P t.quenchCycleStart)
    (cuts : ∀ t, P t → P t.cutOffs) : P s.neighbours := by
  obtain ⟨-, form⟩ | form | form | form := neighbours_forms s <;> rw [form]
  · exact cuts _ h
  · exact unit _ h
  · exact cuts _ (unit _ (drawn _ h))
  · exact unit _ (cuts _ (drawn _ h))

/-! ### The cut-offs of one moment (R149) -/

/-- What holds of a state and is kept by draw and single cut-off holds after all cut-offs of a moment. -/
theorem cutOffs_keep_property {P : State → Prop} {s : State} (h : P s) (drawn : ∀ t, P t → P (t.draw 1))
    (cut : ∀ t p, P t → P (t.cutOff p)) : P s.cutOffs := by
  have one : ∀ t p, P t → P (t.cutOffIfDue p) := by
    intro t p ht
    unfold State.cutOffIfDue
    split
    · exact cut t p ht
    · exact ht
  have all : ∀ (ps : List Port) t, P t → P (ps.foldl State.cutOffIfDue t) := by
    intro ps
    induction ps with
    | nil => exact fun _ ht => ht
    | cons p ps ih => exact fun t ht => ih _ (one t p ht)
  unfold State.cutOffs
  dsimp only
  split
  · exact all _ _ (drawn s h)
  · exact all _ _ h

theorem cutOff_no_wait {s : State} (p : Port) (wait : s.agent.restartWait = none) :
    (s.cutOff p).agent.restartWait = none := by
  have failed : s.restartFailed = s := by rw [State.restartFailed, wait]
  unfold State.cutOff
  simp [failed, wait]

theorem cutOff_keeps_flag (s : State) (p : Port) (n : Nat) (h : s.events.flags.getLsbD n = true) :
    (s.cutOff p).events.flags.getLsbD n = true := by
  have failed : s.restartFailed.events = s.events := (restartFailed_within s).events rfl
  unfold State.cutOff
  refine raise_keeps_flag _ _ n ?_
  rw [updateEgress_events]
  split
  · rw [failed]; exact h
  · exact h

/-- The cut-offs of a moment come one after the other over the ports where one is due; two or more in an
order that a free value picks (log 14). -/
theorem cutOffs_in_order (s : State) :
    ∃ (ports : List Port) (n : Nat), ports.Nodup ∧ (∀ p : Port, p ∈ ports ↔ s.cutDue p = true) ∧
      (ports.length < 2 → n = 0) ∧
      s.cutOffs = ports.foldl (fun t p => if t.cutDue p then t.cutOff p else t) (s.draw n) := by
  have nodup : (Port.all.filter s.cutDue).Nodup := List.Nodup.filter _ (by decide)
  have mem : ∀ p, p ∈ Port.all.filter s.cutDue ↔ s.cutDue p = true := by simp [List.mem_filter]
  unfold State.cutOffs
  dsimp only
  split
  · next several =>
    have perm := arrange_perm (Config.tieOrder s.draws) (Port.all.filter s.cutDue)
    refine ⟨arrange (Config.tieOrder s.draws) (Port.all.filter s.cutDue), 1, perm.nodup_iff.2 nodup,
      fun p => perm.mem_iff.trans (mem p), fun few => ?_, rfl⟩
    rw [perm.length_eq] at few
    omega
  · exact ⟨_, 0, nodup, mem, fun _ => rfl, rfl⟩

/-! ### The quench unit at a cycle start (R99, R100) -/

/-- A cycle start ends a CYCLE wait, and a MARK wait where the beginning cycle is not a FOLLOW cycle. -/
def State.startEndsWait (s : State) : Prop :=
  s.quench.wait = some .cycle ∨ s.quench.wait = some .mark ∧ s.inFollowCycle = false

theorem quenchCycleStart_falls {s : State} (ends : s.startEndsWait) :
    ∃ code, s.quenchCycleStart = s.quenchFalls code := by
  rcases ends with cycle | ⟨mark, free⟩
  · exact ⟨4#16, by rw [State.quenchCycleStart, cycle]⟩
  · exact ⟨3#16, by rw [State.quenchCycleStart, mark]; exact if_neg (by simp [free])⟩

theorem quenchCycleStart_idle {s : State} (lasts : ¬ s.startEndsWait) : s.quenchCycleStart = s := by
  unfold State.quenchCycleStart
  split
  · next cycle => exact absurd (.inl cycle) lasts
  · next mark =>
    refine if_pos (Bool.not_eq_false _ |>.mp fun free => lasts (.inr ⟨mark, free⟩))
  · rfl

/-- Whether a wait ends is read from quench record and timer record alone. -/
theorem startEndsWait_congr {s t : State} (quench : t.quench = s.quench) (timer : t.timer = s.timer) :
    t.startEndsWait ↔ s.startEndsWait := by
  simp only [State.startEndsWait, State.inFollowCycle, State.running, quench, timer]

theorem quenchFalls_flag (s : State) (code : Half) :
    (s.quenchFalls code).events.flags.getLsbD 7 = true :=
  raise_sets_flag _ (occQuenchOff code)

theorem quenchCycleStart_keeps_flag (s : State) (n : Nat) (h : s.events.flags.getLsbD n = true) :
    s.quenchCycleStart.events.flags.getLsbD n = true := by
  by_cases ends : s.startEndsWait
  · obtain ⟨code, falls⟩ := quenchCycleStart_falls ends
    rw [falls]
    exact raise_keeps_flag _ _ n h
  · rw [quenchCycleStart_idle ends]
    exact h

theorem neighbours_keep_flag {s : State} {n : Nat} (h : s.events.flags.getLsbD n = true) :
    s.neighbours.events.flags.getLsbD n = true :=
  neighbours_keep_property (P := fun t => t.events.flags.getLsbD n = true) h (fun _ ht => ht)
    (fun t ht => quenchCycleStart_keeps_flag t n ht)
    (fun _ ht => cutOffs_keep_property ht (fun _ hu => hu) (fun u p hu => cutOff_keeps_flag u p n hu))

theorem cutOffs_quench (s : State) : s.cutOffs.quench = s.quench := (cutOffs_within s).quench rfl

theorem cutOffs_timer (s : State) : s.cutOffs.timer = s.timer := (cutOffs_within s).timer rfl

/-- A wait that a cycle start ends: QS falls and QUENCH-OFF is raised, whatever is cut off. -/
theorem neighbours_fall {s : State} (ends : s.startEndsWait) :
    s.neighbours.quench = { s.quench with qs := false, unit := .normal, wait := none } ∧
    s.neighbours.events.flags.getLsbD 7 = true := by
  obtain ⟨quiet, -⟩ | form | form | form := neighbours_forms s
  · rcases ends with cycle | ⟨mark, -⟩
    · exact nomatch quiet.symm.trans cycle
    · exact nomatch quiet.symm.trans mark
  · obtain ⟨code, falls⟩ := quenchCycleStart_falls ends
    rw [form, falls]
    exact ⟨quenchFalls_quench s code, quenchFalls_flag s code⟩
  · obtain ⟨code, falls⟩ := quenchCycleStart_falls (s := s.draw 1) ends
    rw [form, falls, cutOffs_quench]
    exact ⟨quenchFalls_quench _ code, cutOffs_keep_property (P := fun t => t.events.flags.getLsbD 7 = true)
      (quenchFalls_flag _ code) (fun _ hu => hu) (fun u p hu => cutOff_keeps_flag u p 7 hu)⟩
  · obtain ⟨code, falls⟩ := quenchCycleStart_falls (s := (s.draw 1).cutOffs)
      ((startEndsWait_congr (cutOffs_quench _) (cutOffs_timer _)).2 ends)
    rw [form, falls]
    refine ⟨?_, quenchFalls_flag _ code⟩
    rw [quenchFalls_quench, cutOffs_quench]
    rfl

/-- A wait that a cycle start does not end, or none: the quench record stays. -/
theorem neighbours_wait {s : State} (lasts : ¬ s.startEndsWait) : s.neighbours.quench = s.quench :=
  (neighbours_keep_property (P := fun t => t.quench = s.quench ∧ t.timer = s.timer) ⟨rfl, rfl⟩
    (fun _ h => h)
    (fun t ⟨quench, timer⟩ => by
      rw [quenchCycleStart_idle (fun ends => lasts ((startEndsWait_congr quench timer).1 ends))]
      exact ⟨quench, timer⟩)
    (fun t ⟨quench, timer⟩ => ⟨(cutOffs_quench t).trans quench, (cutOffs_timer t).trans timer⟩)).1

theorem neighbours_no_wait {s : State} (wait : s.agent.restartWait = none) :
    s.neighbours.agent.restartWait = none :=
  neighbours_keep_property (P := fun t => t.agent.restartWait = none) wait (fun _ h => h)
    (fun t h => ((quenchCycleStart_within t).agent rfl).symm ▸ h)
    (fun _ h => cutOffs_keep_property (P := fun t => t.agent.restartWait = none) h (fun _ hu => hu)
      (fun _ p hu => cutOff_no_wait p hu))

/-! ### What a cycle start leaves (R63, R64, R65) -/

/-- A change that leaves banks and staging controller leaves the staged set. -/
theorem Within.staged {f : Footprint} {s t : State} (h : Within f s t) (banks : f.banks = false)
    (staging : f.staging = false) : t.staged = s.staged := by
  unfold State.staged State.bank
  rw [h.staging staging, (h.banks banks).1, (h.banks banks).2]

/-- What follows the staging controller's part of a cycle start touches neither ports, banks nor the staging
controller itself. -/
def Footprint.handing : Footprint := { Footprint.neighbouring with timer := true, streams := true }

theorem handCycleStart_after_staging (s : State) (first : Bool) :
    Within .handing s.stagingCycleStart (s.handCycleStart first) :=
  (((beginCycle_within s.stagingCycleStart first).comp (zeroAdmitted_within _) (k := .handing) rfl rfl).trans
    ((neighbours_within _).mono rfl)).trans ((callSelections_within _).mono rfl)

/-- The timer's record when a cycle begins under a settings record (R63, R65). -/
def Timer.begun (t : Timer) (x : Settings) (first : Bool) : Timer :=
  { t with
    cycleLength := x.period
    ended := if first then none else t.current.map (fun c => { params := c, length := t.cycleLength })
    current := some x.params
    attribution := match x.follow with
      | .follow => some { onTime := false, isOpen := true }
      | .free => none
    closesTaken := [] }

theorem beginCycle_eq (s : State) (first : Bool) :
    s.beginCycle first = s.setTimer (s.timer.begun s.active.settings first) := rfl

theorem handCycleStart_active (s : State) (first : Bool) :
    (s.handCycleStart first).active = s.stagingCycleStart.active :=
  (handCycleStart_after_staging s first).active rfl rfl

theorem begun_timer (s : State) (first : Bool) :
    (s.begun first).timer = s.timer.begun s.stagingCycleStart.active.settings first := by
  have staging : s.stagingCycleStart.timer = s.timer := (stagingCycleStart_within s).timer rfl
  rw [← staging]
  rfl

/-- The cycle that begins runs under the set that the staging controller leaves active. -/
theorem handCycleStart_timer (s : State) (first : Bool) :
    (s.handCycleStart first).timer = s.timer.begun (s.handCycleStart first).active.settings first := by
  rw [handCycleStart_active, ← begun_timer]
  exact (neighbours_within _).timer rfl

theorem zeroAdmitted_stream (s : State) (i : StreamIx) :
    s.zeroAdmitted.streams[i] = { s.streams[i] with admittedCount := 0 } :=
  mapTable_getElem s.streams _ i.val i.isLt

theorem handCycleStart_stream (s : State) (first : Bool) (i : StreamIx) :
    (s.handCycleStart first).streams[i] = { s.stagingCycleStart.streams[i] with admittedCount := 0 } := by
  have kept : (s.handCycleStart first).streams = (s.begun first).streams :=
    (neighbours_within _).streams rfl
  simp only [kept]
  exact zeroAdmitted_stream _ i

theorem handCycleStart_no_wait {s : State} (first : Bool) (wait : s.agent.restartWait = none) :
    (s.handCycleStart first).agent.restartWait = none := by
  have staging : s.stagingCycleStart.agent = s.agent := (stagingCycleStart_within s).agent rfl
  exact neighbours_no_wait (s := s.begun first) ((congrArg Agent.restartWait staging).trans wait)

/-- A begun cycle of a RUNNING timer is a FOLLOW cycle by its settings. -/
theorem begun_inFollowCycle {s : State} (first : Bool) (running : s.timer.state = .running) :
    (s.begun first).inFollowCycle = decide (s.stagingCycleStart.active.settings.follow = .follow) := by
  unfold State.inFollowCycle State.running
  rw [begun_timer]
  simp [Timer.begun, Settings.params, running]

/-! ### The applied commit (R120, R121) -/

/-- The applied commit, in the order of R120. -/
theorem applyCommit_steps (s : State) :
    s.applyCommit =
      ((s.swapBanks.reseatDirty.dropCommit.raise (occCommit 0x0100#16)).beginRestage .apply).callSelections :=
  rfl

/-- The staging controller after a pending commit has applied. -/
theorem applyCommit_staging {s : State} (pending : s.staging.state = .pending) :
    s.applyCommit.staging =
      { active := s.staging.active.other, state := .restaging, commit := none
        dirty := Vector.replicate 128 false, fault := none, reason := some .apply
        restageEnd := some (s.base + Config.restageTicks) } := by
  have begins : (s.swapBanks.reseatDirty.dropCommit.raise (occCommit 0x0100#16)).staging.state ≠ .restaging := by
    rw [raise_staging]
    exact fun restaging => nomatch pending.symm.trans restaging
  rw [applyCommit_steps, beginRestage_starts begins, callSelections_staging, setStaging_staging,
    raise_staging, raise_base]
  rfl

/-- The banks change roles (R120). -/
theorem applyCommit_roles {s : State} (pending : s.staging.state = .pending) :
    s.applyCommit.active = s.staged ∧ s.applyCommit.staged = s.active := by
  have banks := (applyCommit_within s).banks rfl
  have roles : s.applyCommit.staging.active = s.staging.active.other := by rw [applyCommit_staging pending]
  unfold State.active State.staged State.bank
  rw [roles, banks.1, banks.2]
  cases s.staging.active <;> exact ⟨rfl, rfl⟩

/-- Dirty streams are reseated from the new active set, the others keep their records (R121). -/
theorem applyCommit_stream (s : State) (i : StreamIx) :
    s.applyCommit.streams[i] =
      if s.staging.dirty[i] then s.streams[i].seated s.staged.streams[i] else s.streams[i] := by
  have kept : s.applyCommit.streams = s.swapBanks.reseatDirty.streams := by
    rw [applyCommit_steps, callSelections_streams, (beginRestage_within _ _).streams rfl, raise_streams]
    rfl
  simp only [kept]
  exact reseatDirty_swapBanks s i

theorem applyCommit_flag (s : State) : s.applyCommit.events.flags.getLsbD 9 = true := by
  rw [applyCommit_steps, callSelections_events, (beginRestage_within _ _).events rfl]
  exact raise_sets_flag _ (occCommit 0x0100#16)

/-! ### CYCLE_START -/

/-- When a cycle start of the period match is due (R50, R64). -/
theorem cycleStartDue_iff (s : State) :
    s.cycleStartDue = true ↔ s.timer.state = .running ∧ s.timer.cycleLength ≤ s.timer.counter ∧
      ∀ w : WindowIx, s.active.windows[w].valid = true → s.active.windows[w].closeOff ≤ s.timer.counter →
        s.timer.closesTaken.contains w.val = true := by
  simp only [State.cycleStartDue, State.closeReached, State.running, Bool.and_eq_true, decide_eq_true_eq,
    Bool.not_eq_true', List.any_eq_false, mem_allWindows, true_imp_iff, not_and, Bool.not_eq_false, and_assoc]
  refine and_congr_right fun running => ?_
  simp only [running, true_imp_iff]

theorem exec_cycleStart_due {s : State} (due : s.cycleStartDue = true) :
    exec .cycleStart s = .next (s.counted.handCycleStart false).settleRestart := by
  rw [← periodMatch_eq]
  exact congrArg _ (if_pos due)

/-- A restart that has waited its time after an outcome other than completed takes effect (log 45). -/
theorem settleRestart_over {s : State} {w : RestartWait} (wait : s.agent.restartWait = some w)
    (failed : w.failed = true) (past : w.deadline ≤ s.base) : s.settleRestart = s.warmRestart := by
  rw [State.settleRestart, wait]
  exact if_pos (by simp [failed, past])

theorem exec_cycleStart_no_wait {s : State} (due : s.cycleStartDue = true)
    (wait : s.agent.restartWait = none) :
    exec .cycleStart s = .next (s.counted.handCycleStart false) := by
  have agent : s.counted.agent = s.agent := (counted_within s).agent rfl
  have absent : (s.counted.handCycleStart false).agent.restartWait = none :=
    handCycleStart_no_wait false (by rw [agent, wait])
  rw [exec_cycleStart_due due, settleRestart_waits _ fun w present => nomatch absent.symm.trans present]

/-! ### The quench unit after a cycle start -/

theorem begun_quench (s : State) (first : Bool) : (s.begun first).quench = s.quench :=
  (stagingCycleStart_within s).quench rfl

theorem handCycleStart_falls {s : State} {first : Bool} (running : s.timer.state = .running)
    (ends : s.quench.wait = some .cycle ∨
      s.quench.wait = some .mark ∧ (s.handCycleStart first).active.settings.follow = .free) :
    (s.handCycleStart first).quench = { s.quench with qs := false, unit := .normal, wait := none } ∧
    (s.handCycleStart first).events.flags.getLsbD 7 = true := by
  have ends : (s.begun first).startEndsWait := by
    rw [State.startEndsWait, begun_quench, begun_inFollowCycle first running, ← handCycleStart_active s first]
    exact ends.imp_right fun ⟨mark, free⟩ => ⟨mark, by rw [free]; rfl⟩
  have fall := neighbours_fall ends
  rw [begun_quench] at fall
  exact fall

theorem handCycleStart_lasts {s : State} {first : Bool} (running : s.timer.state = .running)
    (lasts : s.quench.wait = none ∨
      s.quench.wait = some .mark ∧ (s.handCycleStart first).active.settings.follow = .follow) :
    (s.handCycleStart first).quench = s.quench := by
  have lasts : ¬ (s.begun first).startEndsWait := by
    rw [State.startEndsWait, begun_quench, begun_inFollowCycle first running, ← handCycleStart_active s first]
    rcases lasts with absent | ⟨mark, follow⟩
    · simp [absent]
    · simp [mark, follow]
  exact (neighbours_wait lasts).trans (begun_quench s first)

/-! ### The statement on cycle starts -/

section
variable {s : State}

/-- The timer's record after a period match, up to the mark-fault count that the interval before it brings. -/
theorem cycleStart_timer (s : State) :
    ∃ n : Nat, (s.counted.handCycleStart false).timer =
      Timer.begun { s.timer with faultCount := n, counter := 0, cycleCount := s.timer.cycleCount + 1#32 }
        (s.counted.handCycleStart false).active.settings false := by
  obtain ⟨a, n, timer⟩ := counted_timer s
  exact ⟨n, by rw [handCycleStart_timer, timer]; rfl⟩

theorem cycleStart_stream (s : State) (i : StreamIx) :
    (s.counted.handCycleStart false).streams[i].admittedCount = 0 := by
  rw [handCycleStart_stream]

/-- A period match that meets the target of the pending commit applies it first (R119, R120, R121). -/
theorem cycleStart_applies {c : PendingCommit} (pending : s.staging.state = .pending)
    (commit : s.staging.commit = some c)
    (met : c.target = .nextStart ∨ c.target = .atCycle (s.timer.cycleCount + 1#32)) :
    let t := s.counted.handCycleStart false
    t.active = s.staged ∧ t.staged = s.active ∧
      t.staging.state = .restaging ∧ t.staging.reason = some .apply ∧ t.staging.commit = none ∧
      t.staging.fault = none ∧ (∀ i : StreamIx, t.staging.dirty[i] = false) ∧
      t.events.flags.getLsbD 9 = true ∧
      ∀ i : StreamIx, t.streams[i] =
        { (if s.staging.dirty[i] then s.streams[i].seated s.staged.streams[i] else s.streams[i]) with
          admittedCount := 0 } := by
  have applied := (counted_stagingCycleStart s).1 c pending commit met
  have counted := counted_within s
  have staging : s.counted.staging = s.staging := counted.staging rfl
  have ready : s.counted.staging.state = .pending := by rw [staging, pending]
  have after := handCycleStart_after_staging s.counted false
  have streams (i : StreamIx) := handCycleStart_stream s.counted false i
  have flag : (s.counted.begun false).events.flags.getLsbD 9 = true := by
    rw [State.begun, applied]
    exact applyCommit_flag s.counted
  rw [applied] at after
  simp only [applied, applyCommit_stream, staging, counted.staged rfl rfl, counted.streams rfl] at streams
  obtain ⟨active, staged⟩ := applyCommit_roles ready
  dsimp only
  rw [after.active rfl rfl, after.staged rfl rfl, after.staging rfl, applyCommit_staging ready, active, staged,
    counted.staged rfl rfl, counted.active rfl rfl]
  exact ⟨rfl, rfl, rfl, rfl, rfl, rfl, fun i => Vector.getElem_replicate i.isLt, neighbours_keep_flag flag,
    streams⟩

/-- A period match that does not meet the target leaves the staging controller and the active set. -/
theorem cycleStart_not_met (unmet : s.staging.state ≠ .pending ∨ s.staging.commit = none ∨
      (∃ c n, s.staging.commit = some c ∧ c.target = .atCycle n ∧ n ≠ s.timer.cycleCount + 1#32)) :
    (s.counted.handCycleStart false).staging = s.staging ∧
    (s.counted.handCycleStart false).active = s.active := by
  have counted := counted_within s
  have after := handCycleStart_after_staging s.counted false
  rw [(counted_stagingCycleStart s).2 unmet] at after
  rw [after.staging rfl, after.active rfl rfl, counted.staging rfl, counted.active rfl rfl]
  exact ⟨rfl, rfl⟩

/-- A cycle start whose interval before is closed: what becomes of a release wait (R99, R100). -/
theorem cycleStart_wait (running : s.timer.state = .running)
    (closed : ∀ a, s.timer.attribution = some a → a.isOpen = false) :
    let t := s.counted.handCycleStart false
    (s.quench.wait = none → t.quench = s.quench) ∧
    (s.quench.wait = some .cycle →
      t.quench = { s.quench with qs := false, unit := .normal, wait := none } ∧
      t.events.flags.getLsbD 7 = true) ∧
    (s.quench.wait = some .mark →
      (t.active.settings.follow = .follow → t.quench = s.quench) ∧
      (t.active.settings.follow = .free →
        t.quench = { s.quench with qs := false, unit := .normal, wait := none } ∧
        t.events.flags.getLsbD 7 = true)) := by
  have quench : s.counted.quench = s.quench := by
    rw [State.counted, setTimer_quench, carryInterval_closed closed]
  have state : s.counted.timer.state = .running := by
    obtain ⟨a, n, timer⟩ := counted_timer s
    rw [timer]
    exact running
  dsimp only
  rw [← quench]
  exact ⟨fun absent => handCycleStart_lasts state (.inl absent),
    fun cycle => handCycleStart_falls state (.inl cycle),
    fun mark => ⟨fun follow => handCycleStart_lasts state (.inr ⟨mark, follow⟩),
      fun free => handCycleStart_falls state (.inr ⟨mark, free⟩)⟩⟩

/-- The three ends of the open interval that a cycle start finds (log 15). -/
theorem carryInterval_open_cases {a : Attribution} (record : s.timer.attribution = some a)
    (isOpen : a.isOpen = true) :
    let noted := s.setTimer { s.timer with attribution := some { a with isOpen := false } }
    (a.onTime = true → s.carryInterval = noted) ∧
    (a.onTime = false → (∀ r, (s.ports.get s.active.settings.markPort).reception = some r →
      s.holdsInterval r = false) → s.carryInterval = noted.markFault 2#16) ∧
    (∀ r, a.onTime = false → (s.ports.get s.active.settings.markPort).reception = some r →
      s.holdsInterval r = true → s.carryInterval =
        s.updatePort s.active.settings.markPort (fun u => { u with
          reception := some { r with holdsEarlier := true } })) := by
  refine ⟨fun onTime => ?_, fun missing free => ?_, fun r missing received holds =>
    carryInterval_held record isOpen missing received holds⟩
  · rw [carryInterval_open record isOpen, closeInterval_onTime record onTime]
    rw [intervalHeld_iff record isOpen]
    exact fun ⟨missing, _⟩ => nomatch onTime.symm.trans missing
  · rw [carryInterval_open record isOpen, closeInterval_missing record missing]
    rw [intervalHeld_iff record isOpen]
    exact fun ⟨_, r, received, holds⟩ => nomatch (free r received).symm.trans holds

end

/-- Settles O23: the timer's record, the commit, the wait, then the whole effect and its parts. -/
theorem cycleStartCountsOnAndApplies : Obligations.CycleStartCountsOnAndApplies := by
  refine ⟨cycleStartDue_iff, fun s due wait => ⟨_, exec_cycleStart_no_wait due wait, ?_⟩,
    fun s c due wait pending commit => ⟨fun met => ⟨_, exec_cycleStart_no_wait due wait, ?_⟩,
      fun n target other => ⟨_, exec_cycleStart_no_wait due wait, ?_⟩⟩,
    fun s due wait closed => ⟨_, exec_cycleStart_no_wait due wait, ?_⟩, fun s due => ?_,
    fun s => ⟨carryInterval_closed, fun a => carryInterval_open_cases, rfl, rfl, zeroAdmitted_stream s,
      cutOffs_in_order s⟩⟩
  · obtain ⟨running, -, -⟩ := (cycleStartDue_iff s).1 due
    obtain ⟨n, timer⟩ := cycleStart_timer s
    have base : (s.counted.handCycleStart false).base = s.base :=
      (handCycleStart_within s.counted false).base.trans (counted_within s).base
    rw [timer]
    exact ⟨running, rfl, rfl, rfl, rfl, cycleStart_stream s, base⟩
  · obtain ⟨active, staged, state, reason, commit, fault, dirty, flag, streams⟩ :=
      cycleStart_applies pending commit met
    obtain ⟨n, timer⟩ := cycleStart_timer s
    refine ⟨active, staged, state, reason, commit, fault, dirty, ?_, flag, fun i clean => ?_, fun i marked => ?_⟩
    · rw [timer, active]
      rfl
    · rw [streams, clean]
      rfl
    · rw [streams, marked]
      rfl
  · exact cycleStart_not_met (.inr (.inr ⟨c, n, commit, target, other⟩))
  · exact cycleStart_wait ((cycleStartDue_iff s).1 due).1 closed
  · obtain ⟨met, unmet⟩ := counted_stagingCycleStart s
    obtain ⟨quiet, whole, both⟩ := neighbours_cases (s.counted.begun false)
    refine ⟨s.counted, s.counted.begun false, (s.counted.begun false).neighbours,
      s.counted.handCycleStart false, rfl, ⟨fun c pending commit target => ?_, fun other => ?_⟩, quiet, whole,
      both, rfl, fun waits => ?_, fun w wait failed past => ?_⟩
    · rw [State.begun, met c pending commit target]
    · rw [State.begun, unmet other]
    · rw [exec_cycleStart_due due, settleRestart_waits _ waits]
    · rw [exec_cycleStart_due due, settleRestart_over wait failed past]

end Sys2Proof.Machine
end

section
/-! SUPPORT. Cycle marks: their way to the timer, how each is judged, and the start of an ARMED timer. -/

namespace Sys2Proof.Machine

/-! ### Mark faults (R74) -/

section
variable {s : State} {code : Half}

theorem markFault_below (below : satInc s.timer.faultCount ≠ s.active.settings.faultLimit) :
    s.markFault code = (s.setTimer { s.timer with faultCount := satInc s.timer.faultCount }).raise
      (occMarkFault s.markPort code) :=
  if_neg below

theorem markFault_limit (limit : satInc s.timer.faultCount = s.active.settings.faultLimit) :
    s.markFault code = (((s.setTimer { s.timer with faultCount := satInc s.timer.faultCount }).raise
      (occMarkFault s.markPort code)).raise (occMarkFault s.markPort 3#16)).addCause .mark :=
  if_pos limit

theorem markFault_quench_below (below : satInc s.timer.faultCount ≠ s.active.settings.faultLimit) :
    (s.markFault code).quench = s.quench := by
  rw [markFault_below below, raise_quench, setTimer_quench]

theorem markFault_causes_limit (limit : satInc s.timer.faultCount = s.active.settings.faultLimit) :
    (s.markFault code).quench.causes = { s.quench.causes with mark := true } := by
  rw [markFault_limit limit, addCause_causes, raise_quench, raise_quench, setTimer_quench]
  rfl

end

theorem markFault_flag (s : State) (code : Half) : (s.markFault code).events.flags.getLsbD 8 = true := by
  have first : ((s.setTimer { s.timer with faultCount := satInc s.timer.faultCount }).raise
      (occMarkFault s.markPort code)).events.flags.getLsbD 8 = true :=
    raise_sets_flag _ (occMarkFault s.markPort code)
  by_cases limit : satInc s.timer.faultCount = s.active.settings.faultLimit
  · rw [markFault_limit limit]
    exact addCause_flag _ _ 8 (raise_keeps_flag _ _ 8 first)
  · rw [markFault_below limit]
    exact first

/-! ### What an on-time mark does (R70 to R74) -/

theorem quenchOnTimeMark_timer (s : State) : s.quenchOnTimeMark.timer = s.timer :=
  (quenchOnTimeMark_within s).timer rfl

theorem onTimeMark_timer (s : State) :
    s.onTimeMark.timer = { s.timer with
      attribution := s.timer.attribution.map (fun _ => { onTime := true, isOpen := false })
      faultCount := 0 } :=
  quenchOnTimeMark_timer _

theorem lateMark_timer (s : State) (c : CycleParams) (o : Nat) :
    (s.lateMark c o).timer = { s.timer with
      cycleLength := c.period + o
      attribution := s.timer.attribution.map (fun _ => { onTime := true, isOpen := false })
      faultCount := 0 } :=
  onTimeMark_timer _

theorem lateMark_eq (s : State) (c : CycleParams) (o : Nat) :
    s.lateMark c o = (s.setTimer (s.lateMark c o).timer).quenchOnTimeMark := by
  rw [lateMark_timer]
  rfl

/-- The length of the cycle just ended is corrected to an offset (R72). -/
def State.correctEnded (s : State) (o : Nat) : State :=
  s.setTimer { s.timer with ended := s.timer.ended.map (fun e => { e with length := o }) }

theorem earlyMark_steps (s : State) (o w : Nat) :
    s.earlyMark o w = ((s.advanceCounter w).correctEnded o).onTimeMark := rfl

theorem correctEnded_onTimeMark_timer (s : State) (o : Nat) :
    (s.correctEnded o).onTimeMark.timer = { s.timer with
      ended := s.timer.ended.map (fun e => { e with length := o })
      attribution := s.timer.attribution.map (fun _ => { onTime := true, isOpen := false })
      faultCount := 0 } :=
  onTimeMark_timer _

theorem correctEnded_onTimeMark (s : State) (o : Nat) :
    (s.correctEnded o).onTimeMark = (s.setTimer (s.correctEnded o).onTimeMark.timer).quenchOnTimeMark := by
  rw [correctEnded_onTimeMark_timer]
  rfl

/-- The timer's record after an early on-time mark: the advance with the closes that it passes, the length of
the ended cycle, and what every on-time mark does. -/
theorem earlyMark_timer (s : State) (o w : Nat) :
    ∃ taken : List Nat,
      (∀ n, n ∈ taken ↔ n ∈ s.timer.closesTaken ∨ ∃ v : WindowIx, v.val = n ∧
        s.active.windows[v].valid = true ∧ s.timer.counter < s.active.windows[v].closeOff ∧
        s.active.windows[v].closeOff ≤ w) ∧
      (s.earlyMark o w).timer = { s.timer with
        counter := w, faultCount := 0, closesTaken := taken
        attribution := s.timer.attribution.map (fun _ => { onTime := true, isOpen := false })
        ended := s.timer.ended.map (fun e => { e with length := o }) } := by
  obtain ⟨taken, mem, timer⟩ := advanceCounter_timer s w
  exact ⟨taken, mem, by rw [earlyMark_steps, correctEnded_onTimeMark_timer, timer]⟩

theorem earlyMark_eq (s : State) (o w : Nat) :
    s.earlyMark o w = ((s.advanceCounter w).setTimer (s.earlyMark o w).timer).quenchOnTimeMark := by
  rw [earlyMark_steps]
  exact correctEnded_onTimeMark _ o

/-! ### How a mark is judged (R70) -/

/-- The current start has no on-time mark yet, read from its record. -/
theorem startOpen_of {s : State} {a : Attribution} (record : s.timer.attribution = some a) :
    s.startOpen = !a.onTime := by
  rw [State.startOpen, record]

/-- A cycle count whose successor is the current one is not the current one. -/
theorem ne_of_succ_eq {a b : Word} (succ : a + 1#32 = b) : a ≠ b := by
  rintro rfl
  simp at succ

section
variable {s : State} {r : StartRecord}

theorem paramsAt_current (now : r.cycle = s.timer.cycleCount) : s.paramsAt r = s.timer.current :=
  if_pos now

theorem paramsAt_ended {e : EndedCycle} (before : r.cycle + 1#32 = s.timer.cycleCount)
    (ended : s.timer.ended = some e) : s.paramsAt r = some e.params := by
  rw [State.paramsAt, if_neg (ne_of_succ_eq before), ended]
  exact if_pos before

theorem judgeMark_broken (broken : r.unbroken = false) (len : Nat) : s.judgeMark r len = s := by
  simp [State.judgeMark, broken]

/-- A mark that started in a FREE cycle is not judged. -/
theorem judgeMark_free {c : CycleParams} (params : s.paramsAt r = some c) (free : c.follow = .free)
    (len : Nat) : s.judgeMark r len = s := by
  simp [State.judgeMark, params, free]

variable (running : s.timer.state = .running) (unbroken : r.unbroken = true)
include running unbroken

/-- The judgement of a mark that started in a FOLLOW cycle of an unbroken run. -/
theorem judgeMark_follow {c : CycleParams} (params : s.paramsAt r = some c) (follow : c.follow = .follow)
    (len : Nat) :
    s.judgeMark r len =
      if 128 < len then s.markFault 1#16
      else if r.offset ≤ c.tolerance then
        if r.cycle = s.timer.cycleCount ∧ s.startOpen then s.lateMark c r.offset else s.markFault 1#16
      else if c.period - c.tolerance ≤ r.offset then
        if r.cycle = s.timer.cycleCount then s
        else if s.earlyStartOpen r then s.earlyMark r.offset (wireTime len) else s.markFault 1#16
      else s.markFault 1#16 := by
  simp [State.judgeMark, State.running, running, unbroken, params, follow]

/-- A mark of the cycle in progress, within the tolerance of a start that has none yet (R71). -/
theorem judgeMark_late {c : CycleParams} {len : Nat} (now : r.cycle = s.timer.cycleCount)
    (current : s.timer.current = some c) (follow : c.follow = .follow) (isOpen : s.startOpen = true)
    (short : len ≤ 128) (near : r.offset ≤ c.tolerance) : s.judgeMark r len = s.lateMark c r.offset := by
  rw [judgeMark_follow running unbroken ((paramsAt_current now).trans current) follow, if_neg (by omega),
    if_pos near, if_pos ⟨now, isOpen⟩]

/-- A mark of the cycle just ended, within the tolerance before the start that has none yet (R72). -/
theorem judgeMark_early {e : EndedCycle} {len : Nat} (before : r.cycle + 1#32 = s.timer.cycleCount)
    (ended : s.timer.ended = some e) (follow : e.params.follow = .follow)
    (isOpen : s.earlyStartOpen r = true) (short : len ≤ 128) (far : e.params.tolerance < r.offset)
    (near : e.params.period - e.params.tolerance ≤ r.offset) :
    s.judgeMark r len = s.earlyMark r.offset (wireTime len) := by
  rw [judgeMark_follow running unbroken (paramsAt_ended before ended) follow, if_neg (by omega),
    if_neg (by omega), if_pos near, if_neg (ne_of_succ_eq before), if_pos isOpen]

/-- A mark of the cycle in progress is a slip where it is too long, away from both ends of the cycle, or late
after a start that has its mark (R74). -/
theorem judgeMark_slip {c : CycleParams} {len : Nat} (now : r.cycle = s.timer.cycleCount)
    (current : s.timer.current = some c) (follow : c.follow = .follow)
    (slips : 128 < len ∨ (c.tolerance < r.offset ∧ r.offset < c.period - c.tolerance) ∨
      (r.offset ≤ c.tolerance ∧ s.startOpen = false)) : s.judgeMark r len = s.markFault 1#16 := by
  rw [judgeMark_follow running unbroken ((paramsAt_current now).trans current) follow]
  rcases slips with long | ⟨after, ahead⟩ | ⟨near, taken⟩
  · exact if_pos long
  · rw [if_neg (show ¬ r.offset ≤ c.tolerance by omega),
      if_neg (show ¬ c.period - c.tolerance ≤ r.offset by omega), ite_self]
  · rw [if_pos near, if_neg (show ¬ (r.cycle = s.timer.cycleCount ∧ s.startOpen = true) by simp [taken]),
      ite_self]

/-- A mark of the cycle just ended is a slip where it is too long, away from its end, or where the start that
followed is not open to it (R74). -/
theorem judgeMark_slip_ended {e : EndedCycle} {len : Nat} (before : r.cycle + 1#32 = s.timer.cycleCount)
    (ended : s.timer.ended = some e) (follow : e.params.follow = .follow)
    (slips : 128 < len ∨ r.offset < e.params.period - e.params.tolerance ∨ s.earlyStartOpen r = false) :
    s.judgeMark r len = s.markFault 1#16 := by
  rw [judgeMark_follow running unbroken (paramsAt_ended before ended) follow,
    if_neg (show ¬ (r.cycle = s.timer.cycleCount ∧ s.startOpen = true) from fun h => ne_of_succ_eq before h.1),
    if_neg (ne_of_succ_eq before)]
  rcases slips with long | early | taken
  · exact if_pos long
  · rw [if_neg (show ¬ e.params.period - e.params.tolerance ≤ r.offset by omega), ite_self, ite_self]
  · rw [if_neg (show ¬ s.earlyStartOpen r = true by simp [taken])]
    simp only [ite_self]

end

/-- A start with an on-time mark is open to no other from the cycle before it (R76). -/
theorem earlyStartOpen_taken {s : State} {r : StartRecord} {a : Attribution}
    (before : r.cycle + 1#32 = s.timer.cycleCount) (record : s.timer.attribution = some a)
    (onTime : a.onTime = true) : s.earlyStartOpen r = false := by
  refine Bool.eq_false_iff.2 fun isOpen => ?_
  obtain ⟨-, ⟨c, -, now, -⟩ | ⟨e, -, -, -, -, missing⟩⟩ := (earlyStartOpen_iff s r).1 isOpen
  · exact ne_of_succ_eq before now
  · exact nomatch onTime.symm.trans (missing a record)

/-! ### The start of an ARMED timer (R67) -/

/-- The state in which the cycle start at the arrival of the starting mark is handed on. -/
def State.startedAt (s : State) (w : Nat) : State :=
  s.setTimer { s.timer with state := .running, cycleCount := 0#32, counter := w }

/-- The first cycle begun, with the closes at or below the wire time of the mark counted as taken. -/
def State.markStarted (s : State) (w : Nat) : State :=
  ((s.startedAt w).handCycleStart true).setTimer { ((s.startedAt w).handCycleStart true).timer with
    closesTaken := closesBelow ((s.startedAt w).handCycleStart true).active w }

theorem startOnMark_eq (s : State) (len : Nat) :
    s.startOnMark len =
      match (s.markStarted (wireTime len)).active.settings.follow with
      | .follow => (s.markStarted (wireTime len)).onTimeMark
      | .free => s.markStarted (wireTime len) := rfl

theorem mem_closesBelow {b : Bank} {x n : Nat} :
    n ∈ closesBelow b x ↔ ∃ w : WindowIx, w.val = n ∧ b.windows[w].closeOff ≤ x := by
  simp only [closesBelow, List.mem_map, List.mem_filter, mem_allWindows, true_and, decide_eq_true_eq]
  exact exists_congr fun w => and_comm

/-- The timer's record in the first cycle, before an on-time mark has reached it. -/
theorem markStarted_timer (s : State) (w : Nat) :
    let x := ((s.startedAt w).handCycleStart true).active.settings
    (s.markStarted w).timer =
      { state := .running, counter := w, cycleCount := 0#32, cycleLength := x.period
        faultCount := s.timer.faultCount
        attribution := match x.follow with
          | .follow => some { onTime := false, isOpen := true }
          | .free => none
        current := some x.params, ended := none
        closesTaken := closesBelow ((s.startedAt w).handCycleStart true).active w } := by
  rw [State.markStarted, setTimer_timer, handCycleStart_timer]
  rfl

theorem startOnMark_free {s : State} {len : Nat}
    (free : ((s.startedAt (wireTime len)).handCycleStart true).active.settings.follow = .free) :
    s.startOnMark len = s.markStarted (wireTime len) := by
  have free : (s.markStarted (wireTime len)).active.settings.follow = .free := free
  rw [startOnMark_eq, free]

/-- In FOLLOW mode the starting mark is an on-time mark. -/
theorem startOnMark_follow {s : State} {len : Nat}
    (follow : ((s.startedAt (wireTime len)).handCycleStart true).active.settings.follow = .follow) :
    s.startOnMark len = ((s.markStarted (wireTime len)).setTimer { (s.markStarted (wireTime len)).timer with
      attribution := some { onTime := true, isOpen := false }, faultCount := 0 }).quenchOnTimeMark := by
  have here : (s.markStarted (wireTime len)).active.settings.follow = .follow := follow
  have record : (s.markStarted (wireTime len)).timer.attribution = some { onTime := false, isOpen := true } := by
    rw [markStarted_timer, follow]
  rw [startOnMark_eq, here]
  simp only [State.onTimeMark, record, Option.map_some]

/-- The timer's record after the start by a mark, in both modes. -/
theorem startOnMark_timer (s : State) (len : Nat) :
    let x := ((s.startedAt (wireTime len)).handCycleStart true).active.settings
    (s.startOnMark len).timer =
      { state := .running, counter := wireTime len, cycleCount := 0#32, cycleLength := x.period
        faultCount := match x.follow with
          | .follow => 0
          | .free => s.timer.faultCount
        attribution := match x.follow with
          | .follow => some { onTime := true, isOpen := false }
          | .free => none
        current := some x.params, ended := none
        closesTaken := closesBelow ((s.startedAt (wireTime len)).handCycleStart true).active
          (wireTime len) } := by
  dsimp only
  cases mode : ((s.startedAt (wireTime len)).handCycleStart true).active.settings.follow with
  | follow => rw [startOnMark_follow mode, quenchOnTimeMark_timer, setTimer_timer, markStarted_timer]
  | free => rw [startOnMark_free mode, markStarted_timer, mode]

/-- The starting mark's own effects come behind the first cycle's start and leave sets and streams. -/
theorem startOnMark_after_start (s : State) (len : Nat) :
    Within .marking ((s.startedAt (wireTime len)).handCycleStart true) (s.startOnMark len) := by
  have noted : Within .marking _ (s.markStarted (wireTime len)) := (setTimer_within _ _).mono rfl
  rw [startOnMark_eq]
  split
  · exact noted.trans (onTimeMark_within _)
  · exact noted

theorem startOnMark_active (s : State) (len : Nat) :
    (s.startOnMark len).active = ((s.startedAt (wireTime len)).handCycleStart true).active :=
  (startOnMark_after_start s len).active rfl rfl

theorem startOnMark_stream (s : State) (len : Nat) (i : StreamIx) :
    (s.startOnMark len).streams[i].admittedCount = 0 := by
  have kept := (startOnMark_after_start s len).streams rfl
  simp only [kept]
  rw [handCycleStart_stream]

/-! ### A mark's way to the timer (R67, R136) -/

section
variable {s : State}

theorem timerTakesMark_stopped (stopped : s.timer.state = .stopped) (r : StartRecord) (len : Nat) :
    s.timerTakesMark r len = s := by
  rw [State.timerTakesMark, stopped]

theorem timerTakesMark_running (running : s.timer.state = .running) (r : StartRecord) (len : Nat) :
    s.timerTakesMark r len = s.judgeMark r len := by
  rw [State.timerTakesMark, running]

theorem timerTakesMark_armed (armed : s.timer.state = .armed) (r : StartRecord) (len : Nat) :
    s.timerTakesMark r len = if len ≤ 128 then s.startOnMark len else s := by
  rw [State.timerTakesMark, armed]

theorem classify_mark {f : List Byte} (gate : halfAt f 12 = 0x88B5#16) (version : frameVersion f = 1)
    (kind : frameKind f = 1) : s.classify s.markPort f = .mark := by
  simp [State.classify, isGateFrame, gate, version, kind]

end

/-- Settles O24: each way in which a mark is judged, then the start that it gives an ARMED timer. -/
theorem marksMoveTheCycle : Obligations.MarksMoveTheCycle := by
  refine ⟨fun s r len c a running unbroken now current follow record missing short near => ?_,
    fun s r len e running unbroken before ended follow begun missing short far near => ?_,
    fun s r len c running unbroken now current follow slips => ?_,
    fun s r len running unbroken => ⟨fun c now current follow slips => ?_, fun e before ended follow slips => ?_⟩,
    fun s r len running => ⟨timerTakesMark_running running r len, fun broken => judgeMark_broken broken len,
      fun c now current free => judgeMark_free ((paramsAt_current now).trans current) free len,
      fun e before ended free => judgeMark_free (paramsAt_ended before ended) free len⟩,
    fun s p r f gate version kind port => ?_,
    fun s r len => ⟨fun stopped => timerTakesMark_stopped stopped r len, fun armed long => ?_,
      fun armed short => ?_⟩,
    fun s r len armed short => ?_⟩
  · rw [judgeMark_late running unbroken now current follow (by simp [startOpen_of record, missing]) short near]
    exact ⟨by rw [lateMark_timer, record]; rfl, lateMark_eq s c r.offset⟩
  · have isOpen : s.earlyStartOpen r = true :=
      (earlyStartOpen_iff s r).2 ⟨begun, .inr ⟨e, ended, before, follow, near, missing⟩⟩
    rw [judgeMark_early running unbroken before ended follow isOpen short far near]
    obtain ⟨taken, mem, timer⟩ := earlyMark_timer s r.offset (wireTime len)
    rw [ended] at timer
    have whole := earlyMark_eq s r.offset (wireTime len)
    rw [timer] at whole ⊢
    exact ⟨rfl, rfl, rfl, rfl, rfl, rfl, ⟨taken, mem, rfl⟩, whole⟩
  · rw [judgeMark_slip running unbroken now current follow (slips.imp_right .inl), markFault_timer]
    exact ⟨rfl, markFault_flag s _, markFault_causes_limit, markFault_quench_below⟩
  · refine judgeMark_slip running unbroken now current follow (slips.imp_right (.imp_right ?_))
    rintro ⟨near, a, record, onTime⟩
    exact ⟨near, by simp [startOpen_of record, onTime]⟩
  · refine judgeMark_slip_ended running unbroken before ended follow (slips.imp_right (.imp_right ?_))
    rintro ⟨a, record, onTime⟩
    exact earlyStartOpen_taken before record onTime
  · obtain rfl : p = s.markPort := port
    rw [State.goodFrame, classify_mark gate version kind]
    rfl
  · rw [timerTakesMark_armed armed, if_neg (by omega)]
  · rw [timerTakesMark_armed armed, if_pos short]
    dsimp only
    rw [startOnMark_active, startOnMark_timer]
    exact ⟨rfl, rfl, rfl, rfl, rfl, startOnMark_stream s len⟩
  · rw [timerTakesMark_armed armed, if_pos short]
    obtain ⟨quiet, whole, both⟩ := neighbours_cases ((s.startedAt (wireTime len)).begun true)
    exact ⟨s.startedAt (wireTime len), (s.startedAt (wireTime len)).stagingCycleStart,
      (s.startedAt (wireTime len)).begun true, ((s.startedAt (wireTime len)).begun true).neighbours,
      (s.startedAt (wireTime len)).handCycleStart true, s.markStarted (wireTime len),
      closesBelow ((s.startedAt (wireTime len)).handCycleStart true).active (wireTime len), rfl,
      stagingCycleStart_eq (s.startedAt (wireTime len)), rfl, quiet, whole, both, rfl,
      fun n => mem_closesBelow, rfl, startOnMark_free, startOnMark_follow, startOnMark_timer s len⟩

end Sys2Proof.Machine
end

section
/-! SUPPORT. The statement on the attribution interval's close and the end of a pending advance. -/

namespace Sys2Proof.Machine

/-! ### Frames that hold an interval (R75) -/

/-- A frame holds the interval by a start soon after the current start, or late in the cycle just ended. -/
theorem holdsInterval_iff (s : State) (r : Reception) :
    s.holdsInterval r = true ↔ r.start.unbroken = true ∧
      ((∃ c, s.timer.current = some c ∧ r.start.cycle = s.timer.cycleCount ∧ r.start.offset ≤ c.tolerance) ∨
       (∃ e, s.timer.ended = some e ∧ r.start.cycle + 1#32 = s.timer.cycleCount ∧
          e.params.period - e.params.tolerance ≤ r.start.offset)) := by
  unfold State.holdsInterval
  cases s.timer.current <;> cases s.timer.ended <;> simp

section
variable {s : State} {r : Reception}

theorem intervalOver_held (received : (s.ports.get s.active.settings.markPort).reception = some r)
    (holds : s.holdsInterval r = true) : s.intervalOver = false := by
  refine Bool.eq_false_iff.2 fun due => ?_
  obtain ⟨-, -, -, free⟩ := (intervalOver_iff s).1 due
  exact nomatch holds.symm.trans (free r received)

theorem closeHeldInterval_earlier (running : s.timer.state = .running) (unbroken : r.start.unbroken = true)
    (earlier : r.holdsEarlier = true) : s.closeHeldInterval (some r) = s.markFault 2#16 :=
  if_pos (by simp [State.running, running, unbroken, earlier])

theorem closeHeldInterval_free
    (free : s.timer.state ≠ .running ∨ r.start.unbroken = false ∨ r.holdsEarlier = false) :
    s.closeHeldInterval (some r) = s := by
  refine if_neg ?_
  rcases free with stopped | broken | current
  · simp [State.running, stopped]
  · simp [broken]
  · simp [current]

/-- A cycle start that finds the interval held notes it at the frame and counts no missing mark (log 15). -/
theorem cycleStart_keeps_held (received : (s.ports.get s.active.settings.markPort).reception = some r)
    (holds : s.holdsInterval r = true)
    (record : s.timer.attribution = some { onTime := false, isOpen := true }) :
    ((s.counted.handCycleStart false).ports.get s.active.settings.markPort).reception =
        some { r with holdsEarlier := true } ∧
    (s.counted.handCycleStart false).timer.faultCount = s.timer.faultCount := by
  have carried := carryInterval_held record rfl rfl received holds
  have ports : (s.counted.handCycleStart false).ports = s.carryInterval.ports :=
    ((handCycleStart_after_staging s.counted false).ports rfl).trans
      ((stagingCycleStart_within s.counted).ports rfl)
  have count : s.counted.timer.faultCount = s.timer.faultCount := by
    rw [State.counted, carried]
    rfl
  rw [ports, carried, handCycleStart_timer]
  exact ⟨by simp, count⟩

/-! ### A frame leaves reception (R75) -/

theorem endHolds_current (t : State) {p : Port} (port : p = s.active.settings.markPort)
    (holds : s.holdsInterval r = true) :
    s.endHolds t p (some r) = (t.closeHeldInterval (some r)).closeIntervalIfOver :=
  if_pos (by simp [State.heldCurrent, State.markPort, port, holds])

theorem endHolds_other (t : State) {p : Port}
    (other : p ≠ s.active.settings.markPort ∨ s.holdsInterval r = false) :
    s.endHolds t p (some r) = t.closeHeldInterval (some r) := by
  refine if_neg ?_
  rcases other with port | free
  · simp [State.heldCurrent, State.markPort, port]
  · simp [State.heldCurrent, free]

/-! ### The end of a pending advance (R76, R148) -/

theorem received_of_candidateStart (candidate : s.candidateStart = some r) :
    (s.ports.get s.active.settings.markPort).reception = some r := by
  rw [State.candidateStart, State.markPort] at candidate
  cases received : (s.ports.get s.active.settings.markPort).reception with
  | none => rw [received] at candidate; cases candidate
  | some x =>
    rw [received] at candidate
    obtain ⟨-, same⟩ := Option.ite_none_right_eq_some.1 candidate
    exact same

theorem advanceEndDue_of_candidate (candidate : s.candidateStart = some r) (long : 128 < r.received)
    (fresh : r.advanceEnded = false) : s.advanceEndDue = true := by
  rw [State.advanceEndDue, candidate]
  simp [long, fresh]

theorem endAdvance_fields (received : (s.ports.get s.active.settings.markPort).reception = some r) :
    (∀ p : Port, (s.endAdvance.egress.get p).selectDue = true) ∧
    (s.endAdvance.ports.get s.active.settings.markPort).reception = some { r with advanceEnded := true } ∧
    s.endAdvance.timer = s.timer := by
  refine ⟨fun p => ?_, ?_, rfl⟩
  · simp [State.endAdvance]
  · simp [State.endAdvance, State.markPort, received]

end

/-- Settles O25: the close by itself, the frames that hold an interval, their leaving reception, the mark
fault, and the end of a pending advance. -/
theorem intervalCloseAndAdvanceEnd : Obligations.IntervalCloseAndAdvanceEnd := by
  refine ⟨fun s c a running current record isOpen past free => ?_,
    fun s r => ⟨holdsInterval_iff s r, intervalOver_held, fun received holds due wait record =>
      ⟨_, exec_cycleStart_no_wait due wait, cycleStart_keeps_held received holds record⟩, rfl,
      closeHeldInterval_earlier, closeHeldInterval_free⟩,
    fun s t p r => ⟨rfl, endHolds_current t, endHolds_other t⟩,
    fun s code => ⟨markFault_below, markFault_limit⟩,
    fun s r candidate long fresh => ⟨s.endAdvance,
      congrArg _ (if_pos (advanceEndDue_of_candidate candidate long fresh)),
      endAdvance_fields (received_of_candidateStart candidate)⟩⟩
  have due : s.intervalOver = true :=
    (intervalOver_iff s).2 ⟨running, ⟨a, record, isOpen⟩, ⟨c, current, past⟩, free⟩
  refine ⟨s.closeInterval, congrArg _ (if_pos due), ?_⟩
  cases onTime : a.onTime with
  | true =>
    rw [closeInterval_onTime record onTime]
    exact ⟨by rw [setTimer_timer, onTime], fun _ => ⟨rfl, rfl⟩, nofun⟩
  | false =>
    rw [closeInterval_missing record onTime, markFault_timer]
    exact ⟨by rw [setTimer_timer, onTime], nofun, fun _ => ⟨rfl, markFault_flag _ _, by rw [onTime]⟩⟩

end Sys2Proof.Machine
end

section
/-! SUPPORT. The statement on TIMER-START and TIMER-STOP. -/

namespace Sys2Proof.Machine

/-! ### TIMER-START (R66) -/

section
variable {s : State} {start : State → State}

theorem timerStart_taken (stopped : s.timer.state = .stopped) :
    s.timerStart start = .ok (start s) (start s).timerResult := by
  rw [State.timerStart, stopped]

theorem timerStart_refused (busy : s.timer.state = .running ∨ s.timer.state = .armed) :
    s.timerStart start = .refuse s .state s.timerResult := by
  rcases busy with running | armed
  · rw [State.timerStart, running]
  · rw [State.timerStart, armed]

end

/-- The timer's record after a start at once: cycle 0 at counter 0. -/
theorem startNow_timer (s : State) :
    s.startNow.timer =
      { state := .running, counter := 0, cycleCount := 0#32, cycleLength := s.startNow.active.settings.period
        faultCount := 0
        attribution := match s.startNow.active.settings.follow with
          | .follow => some { onTime := false, isOpen := true }
          | .free => none
        current := some s.startNow.active.settings.params, ended := none, closesTaken := [] } :=
  handCycleStart_timer _ true

theorem startNow_result (s : State) : s.startNow.timerResult = [2#8] ++ be32 0#32 ++ be32 0#32 := by
  rw [State.timerResult, startNow_timer]
  rfl

/-- A start with no commit pending leaves sets and staging controller, and sets the counts of the streams. -/
theorem startNow_no_commit {s : State} (ready : s.staging.state ≠ .pending) :
    s.startNow.active = s.active ∧ s.startNow.staging = s.staging ∧
      ∀ i : StreamIx, s.startNow.streams[i] = { s.streams[i] with admittedCount := 0 } := by
  have idle : (s.prepareStart .running).stagingCycleStart = s.prepareStart .running :=
    (stagingCycleStart_eq _).2 (.inl ready)
  have after := handCycleStart_after_staging (s.prepareStart .running) true
  have streams (i : StreamIx) := handCycleStart_stream (s.prepareStart .running) true i
  rw [idle] at after
  simp only [idle] at streams
  exact ⟨after.active rfl rfl, after.staging rfl, streams⟩

theorem startArmed_result (s : State) : s.startArmed.timerResult = [1#8] ++ be32 0#32 ++ be32 0#32 := rfl

section
variable {s : State} {r : Request} {rest : List Request} {reply : Reply}

/-- TIMER-START IMMEDIATE of the owner is answered by the timer's block. -/
theorem exec_timerStartImmediate_of_owner (taken : Takes s .timerStartImmediate r rest) (carries : Carries r 1)
    (owns : s.ownsGate r = true) (answer : (s.entered rest).timerStart State.startNow = reply) :
    exec .timerStartImmediate s = .next (reply.after.conclude r reply.status reply.result false) := by
  refine congrArg _ (execute_of_owner (row := timerStartImmediateRow) taken carries owns ?_ answer rfl rfl)
  simp [timerStartImmediateRow, command_timerStartImmediate taken.row]

/-- TIMER-START ON-MARK of the owner is answered by the timer's block. -/
theorem exec_timerStartOnMark_of_owner (taken : Takes s .timerStartOnMark r rest) (carries : Carries r 1)
    (owns : s.ownsGate r = true) (mode : r.arg 0 = 1)
    (answer : (s.entered rest).timerStart State.startArmed = reply) :
    exec .timerStartOnMark s = .next (reply.after.conclude r reply.status reply.result false) := by
  refine congrArg _ (execute_of_owner (row := timerStartOnMarkRow) taken carries owns ?_ answer rfl rfl)
  simp [timerStartOnMarkRow, mode]

end

/-! ### TIMER-STOP (R68, R99, R100, R125) -/

/-- The state at a stop from RUNNING before staging controller and quench unit have their parts. -/
def State.halted (s : State) : State := (s.setTimer s.timer.stop).breakRuns.callSelections

theorem stopTimer_not_running {s : State} (idle : s.timer.state ≠ .running) :
    s.stopTimer = s.setTimer s.timer.stop :=
  if_neg (by simp [State.running, idle])

theorem stopTimer_running {s : State} (running : s.timer.state = .running) :
    s.stopTimer = inEitherOrder (s.halted.staging.commit.isSome && s.halted.quench.wait.isSome)
      State.stagingTimerStop State.quenchTimerStop s.halted :=
  if_pos (by simp [State.running, running])

theorem quenchTimerStop_idle {s : State} (absent : s.quench.wait = none) : s.quenchTimerStop = s := by
  rw [State.quenchTimerStop, absent]

theorem quenchTimerStop_wait (s : State) : s.quenchTimerStop.quench.wait = none := by
  cases wait : s.quench.wait with
  | none => rw [quenchTimerStop_idle wait, wait]
  | some w => rw [State.quenchTimerStop, wait, quenchFalls_quench]

theorem stagingTimerStop_quench (s : State) : s.stagingTimerStop.quench = s.quench :=
  (stagingTimerStop_within s).quench rfl

theorem stagingTimerStop_idle {s : State} (absent : s.staging.commit = none) : s.stagingTimerStop = s := by
  unfold State.stagingTimerStop
  rw [absent]
  cases s.staging.state <;> rfl

/-- A pending commit applies at a stop, or is withdrawn, by its target (R125). -/
theorem stagingTimerStop_pending {s : State} {c : PendingCommit} (pending : s.staging.state = .pending)
    (commit : s.staging.commit = some c) :
    s.stagingTimerStop =
      match c.target with
      | .nextStart => s.applyCommit
      | .atCycle _ => s.withdrawCommit 0x0203#16 := by
  cases target : c.target <;> simp [State.stagingTimerStop, pending, commit, target]

section
variable {s : State} (running : s.timer.state = .running)
include running

theorem stopTimer_no_commit (absent : s.staging.commit = none) : s.stopTimer = s.halted.quenchTimerStop := by
  have absent : s.halted.staging.commit = none := absent
  rw [stopTimer_running running, absent]
  exact congrArg State.quenchTimerStop (stagingTimerStop_idle absent)

theorem stopTimer_no_wait (absent : s.quench.wait = none) : s.stopTimer = s.halted.stagingTimerStop := by
  have absent : s.halted.quench.wait = none := absent
  rw [stopTimer_running running, absent, Option.isSome_none, Bool.and_false]
  exact quenchTimerStop_idle ((congrArg Quench.wait (stagingTimerStop_quench _)).trans absent)

/-- Staging controller and quench unit both have a part: they come in a free order (log 14). -/
theorem stopTimer_either (commit : s.staging.commit.isSome = true) (wait : s.quench.wait ≠ none) :
    s.stopTimer = (s.halted.draw 1).stagingTimerStop.quenchTimerStop ∨
      s.stopTimer = (s.halted.draw 1).quenchTimerStop.stagingTimerStop := by
  have both : (s.halted.staging.commit.isSome && s.halted.quench.wait.isSome) = true :=
    Bool.and_eq_true_iff.2 ⟨commit, Option.isSome_iff_ne_none.2 wait⟩
  rw [stopTimer_running running, both, inEitherOrder, if_pos rfl]
  split
  · exact .inl rfl
  · exact .inr rfl

/-- After a stop from RUNNING no release wait is left (R99, R100). -/
theorem stopTimer_wait : s.stopTimer.quench.wait = none := by
  by_cases wait : s.quench.wait = none
  · rw [stopTimer_no_wait running wait, stagingTimerStop_quench]
    exact wait
  · cases commit : s.staging.commit with
    | none => rw [stopTimer_no_commit running commit, quenchTimerStop_wait]
    | some c =>
      rcases stopTimer_either running (by rw [commit]; rfl) wait with form | form
      · rw [form, quenchTimerStop_wait]
      · rw [form, stagingTimerStop_quench, quenchTimerStop_wait]

/-- Staging controller and quench unit leave the timer's record and the ports. -/
theorem stopTimer_after_halt :
    Within { Footprint.committing with quench := true, draws := true } s.halted s.stopTimer := by
  rw [stopTimer_running running]
  exact inEitherOrder_within _ (fun t => (stagingTimerStop_within t).mono rfl)
    (fun t => (quenchTimerStop_within t).mono rfl) rfl _

/-- No frame in reception is in an unbroken run after a stop (R51, R68). -/
theorem stopTimer_breaks {p : Port} {x : Reception}
    (received : (s.stopTimer.ports.get p).reception = some x) : x.start.unbroken = false := by
  have ports : s.stopTimer.ports = s.breakRuns.ports := (stopTimer_after_halt running).ports rfl
  rw [ports, State.breakRuns, setPorts_ports, perPort_get_map] at received
  obtain ⟨y, -, rfl⟩ := Option.map_eq_some_iff.1 received
  rfl

end

theorem stopTimer_timer (s : State) : s.stopTimer.timer = s.timer.stop := by
  by_cases running : s.timer.state = .running
  · exact (stopTimer_after_halt running).timer rfl
  · rw [stopTimer_not_running running]
    rfl

theorem stopTimer_result (s : State) :
    s.stopTimer.timerResult =
      [0#8] ++ be32 (BitVec.ofNat 32 s.timer.counter) ++ be32 s.timer.cycleCount := by
  rw [State.timerResult, stopTimer_timer]
  rfl

/-! ### What an answer leaves of a reception -/

theorem countPort_reception (s : State) (q p : Port) (f : PortCounters → PortCounters) :
    ((s.countPort q f).ports.get p).reception = (s.ports.get p).reception := by
  rw [countPort_ports, perPort_get_set]
  split
  · next same => rw [same]
  · rfl

theorem offerResponse_reception (s : State) (q p : Port) (frame : List Byte) (isRestart : Bool) :
    ((s.offerResponse q frame isRestart).ports.get p).reception = (s.ports.get p).reception := by
  unfold State.offerResponse
  dsimp only
  split
  · rfl
  · split
    · rw [(restartFailed_within _).ports rfl]
      exact countPort_reception s q p _
    · exact countPort_reception s q p _

theorem conclude_reception (s : State) (r : Request) (status : Status) (result : List Byte)
    (isRestart : Bool) (p : Port) :
    ((s.conclude r status result isRestart).ports.get p).reception = (s.ports.get p).reception :=
  offerResponse_reception (s.setAgent _) r.port p _ isRestart

/-! ### The answers to TIMER-STOP -/

section
variable {s : State} {r : Request} {rest : List Request} (taken : Takes s .timerStop r rest)
  (carries : Carries r 0) (owns : s.ownsGate r = true)
include taken carries owns

theorem exec_timerStop_taken (busy : s.timer.state = .running ∨ s.timer.state = .armed) :
    exec .timerStop s = .next ((s.entered rest).stopTimer.conclude r .ok
      ([0#8] ++ be32 (BitVec.ofNat 32 s.timer.counter) ++ be32 s.timer.cycleCount) false) := by
  have effect : timerStopEffect r (s.entered rest) =
      .ok (s.entered rest).stopTimer (s.entered rest).stopTimer.timerResult := by
    rcases busy with running | armed
    · exact (by rw [timerStopEffect, show (s.entered rest).timer.state = .running from running])
    · exact (by rw [timerStopEffect, show (s.entered rest).timer.state = .armed from armed])
  rw [stopTimer_result] at effect
  exact congrArg _ (execute_of_owner (row := timerStopRow) taken carries owns rfl effect rfl rfl)

theorem exec_timerStop_refused (stopped : s.timer.state = .stopped) :
    exec .timerStop s = .next ((s.entered rest).conclude r .state
      ([0#8] ++ be32 (BitVec.ofNat 32 s.timer.counter) ++ be32 s.timer.cycleCount) false) := by
  have effect : timerStopEffect r (s.entered rest) =
      .refuse (s.entered rest) .state (s.entered rest).timerResult := by
    rw [timerStopEffect, show (s.entered rest).timer.state = .stopped from stopped]
  rw [State.timerResult, show (s.entered rest).timer.state = .stopped from stopped] at effect
  exact congrArg _ (execute_of_owner (row := timerStopRow) taken carries owns rfl effect rfl rfl)

end

/-- Settles O54: the two starts and their refusals, what a stop leaves, and its whole effect. -/
theorem timerStartsAndStops : Obligations.TimerStartsAndStops := by
  refine ⟨fun s r rest carries owns => ⟨fun taken stopped => ?_, fun taken mode stopped => ?_,
      fun busy => ⟨fun taken => ?_, fun taken mode => ?_⟩⟩,
    fun s r rest taken carries owns => ⟨fun busy => ⟨_, exec_timerStop_taken taken carries owns busy, ?_, ?_⟩,
      exec_timerStop_refused taken carries owns⟩,
    fun s r rest taken carries owns => ?_⟩
  · have answer := exec_timerStartImmediate_of_owner taken carries owns
      (timerStart_taken (s := s.entered rest) stopped)
    refine ⟨(s.entered rest).startNow, ?_, startNow_timer _, fun i => ?_,
      startNow_no_commit (s := s.entered rest)⟩
    · rw [answer, ← startNow_result (s.entered rest)]
      rfl
    · exact congrArg StreamRun.admittedCount (handCycleStart_stream _ true i)
  · have answer := exec_timerStartOnMark_of_owner taken carries owns mode
      (timerStart_taken (s := s.entered rest) stopped)
    refine ⟨(s.entered rest).startArmed, ?_, rfl, rfl, rfl, rfl, rfl, rfl, rfl⟩
    rw [answer, ← startArmed_result (s.entered rest)]
    rfl
  · exact (exec_timerStartImmediate_of_owner taken carries owns
      (timerStart_refused (s := s.entered rest) busy) :)
  · exact (exec_timerStartOnMark_of_owner taken carries owns mode
      (timerStart_refused (s := s.entered rest) busy) :)
  · exact ((conclude_within _ _ _ _ _).timer rfl).trans (stopTimer_timer _)
  · refine fun running => ⟨fun p x received => ?_, ?_⟩
    · rw [conclude_reception] at received
      exact stopTimer_breaks (s := s.entered rest) running received
    · rw [(conclude_within _ _ _ _ _).quench rfl]
      exact stopTimer_wait (s := s.entered rest) running
  · intro halted stopped ends answers
    have answer (busy : s.timer.state = .running ∨ s.timer.state = .armed) {u : State}
        (form : (s.entered rest).stopTimer = u) : answers u :=
      form ▸ exec_timerStop_taken taken carries owns busy
    have ended {c : PendingCommit} {x : State} (pending : x.staging.state = .pending)
        (commit : x.staging.commit = some c) : x.stagingTimerStop = ends x c := by
      rw [stagingTimerStop_pending pending commit]
      rfl
    refine ⟨fun armed => answer (.inr armed) (stopTimer_not_running ?_), fun running absent =>
      answer (.inl running) (stopTimer_no_commit (s := s.entered rest) running absent),
      fun c running pending commit => ⟨fun absent => answer (.inl running) ?_, fun wait => ?_⟩⟩
    · exact fun running => nomatch armed.symm.trans running
    · rw [stopTimer_no_wait (s := s.entered rest) running absent]
      exact ended pending commit
    · have unit := (quenchTimerStop_within (stopped.draw 1)).staging rfl
      refine (stopTimer_either (s := s.entered rest) running ?_ wait).imp (fun form => ?_) (fun form => ?_)
      · exact Option.isSome_iff_exists.2 ⟨c, commit⟩
      · exact answer (.inl running) (form.trans (congrArg _ (ended pending commit)))
      · exact answer (.inl running) (form.trans (ended (unit ▸ pending) (unit ▸ commit)))

end Sys2Proof.Machine
end

section
/-! SUPPORT. Which blocks the requests and the occurrences that never reach the quench unit can touch. -/

namespace Sys2Proof.Machine

/-! ### The effects of the requests -/

theorem zeroCounters_within (s : State) (r : Request) :
    Within { ports := true, streams := true } s (s.zeroCounters r) := by
  unfold State.zeroCounters
  split
  · split
    · exact (countStream_within s _ _).mono rfl
    · exact .refl _ s
  · exact (countPort_within s _ _).mono rfl

theorem claimEffect_within (r : Request) (s : State) :
    Within { agent := true } s (claimEffect r s).after := by
  unfold claimEffect
  split
  · exact setAgent_within s _
  · split
    · exact setAgent_within s _
    · exact .refl _ s

theorem yieldEffect_within (r : Request) (s : State) :
    Within { agent := true, staging := true } s (yieldEffect r s).after :=
  (setAgent_within s _).comp (stagingYield_within _) rfl rfl

theorem readSetEffect_within (r : Request) (s : State) : Within {} s (readSetEffect r s).after := by
  unfold readSetEffect
  split
  · exact .refl _ s
  · split <;> exact .refl _ s

/-- A staged write touches what its write touches. -/
theorem stagedWrite_within {f : Footprint} {write : State → State} {s : State}
    (written : Within f s (write s)) : Within f s (stagedWrite write s).after := by
  unfold stagedWrite
  split
  · exact written
  · exact .refl _ s
  · exact .refl _ s

theorem writeSettings_within (s : State) (r : Request) :
    Within { banks := true } s (s.writeSettings r) := by
  unfold State.writeSettings
  split
  · exact setStaged_within s _
  · exact .refl _ s

theorem writeWindows_within (s : State) (r : Request) :
    Within { banks := true } s (s.writeWindows r) := by
  unfold State.writeWindows
  split
  · exact setStaged_within s _
  · exact .refl _ s

theorem writeStreams_within (s : State) (r : Request) :
    Within { banks := true, staging := true } s (s.writeStreams r) := by
  unfold State.writeStreams
  split
  · exact (setStaged_within s _).comp (markDirty_within _ _) rfl rfl
  · exact .refl _ s

theorem writeSteps_within (s : State) (r : Request) :
    Within { banks := true, staging := true } s (s.writeSteps r) := by
  unfold State.writeSteps
  split
  · exact (setStaged_within s _).comp (markDirty_within _ _) rfl rfl
  · exact .refl _ s

theorem writeTemplate_within (s : State) (r : Request) :
    Within { banks := true } s (s.writeTemplate r) := setStaged_within s _

theorem makePending_within (s : State) (t : CommitTarget) :
    Within .committing s (s.makePending t) :=
  (setStaging_within s _).comp (callSelections_within _) rfl rfl

theorem commitValid_within (s : State) (t : CommitTarget) :
    Within .committing s (s.commitValid t).after := by
  unfold State.commitValid
  split
  · cases t with
    | nextStart => exact makePending_within s _
    | atCycle n =>
      dsimp only
      split
      · exact makePending_within s _
      · exact .refl _ s
  · exact applyCommit_within s

theorem commitEffect_within (s : State) (t : CommitTarget) :
    Within .committing s (s.commitEffect t).after := by
  unfold State.commitEffect
  split
  · exact .refl _ s
  · exact .refl _ s
  · split
    · exact (setStaging_within s _).mono rfl
    · exact commitValid_within s t

theorem withdrawEffect_within (r : Request) (s : State) :
    Within { Footprint.raising with staging := true } s (withdrawEffect r s).after := by
  unfold withdrawEffect
  split
  · exact withdrawCommit_within s _
  · exact .refl _ s
  · exact .refl _ s

theorem holdEffect_within (r : Request) (s : State) :
    Within { Footprint.raising with streams := true } s (holdEffect r s).after := by
  unfold holdEffect State.holdByHand
  split
  · split
    · exact enterHeld_within s _ _
    · exact enterHeld_within s _ _
    · exact .refl _ s
    · exact .refl _ s
  · exact .refl _ s

theorem releaseHeld_within (s : State) (i : StreamIx) (f : StreamRun → StreamRun) :
    Within { streams := true } s (s.releaseHeld i f).after := by
  unfold State.releaseHeld
  split
  · exact updateStream_within s i f
  · exact .refl _ s
  · exact .refl _ s
  · exact .refl _ s

theorem resumeEffect_within (r : Request) (s : State) :
    Within { streams := true } s (resumeEffect r s).after := by
  unfold resumeEffect
  split
  · exact releaseHeld_within s _ _
  · exact .refl _ s

theorem rearmEffect_within (r : Request) (s : State) :
    Within { streams := true } s (rearmEffect r s).after := by
  unfold rearmEffect
  split
  · exact releaseHeld_within s _ _
  · exact .refl _ s

theorem setListenerEffect_within (r : Request) (s : State) :
    Within { events := true } s (setListenerEffect r s).after := by
  unfold setListenerEffect
  split
  · exact setEvents_within s _
  · exact .refl _ s

theorem setNotifyEffect_within (r : Request) (s : State) :
    Within { events := true } s (setNotifyEffect r s).after := by
  unfold setNotifyEffect
  split
  · exact setEvents_within s _
  · exact .refl _ s
  · exact .refl _ s

theorem clearFlagsEffect_within (r : Request) (s : State) :
    Within { events := true } s (clearFlagsEffect r s).after := by
  unfold clearFlagsEffect
  split
  · exact setEvents_within s _
  · exact .refl _ s

theorem raiseFlagEffect_within (r : Request) (s : State) :
    Within .raising s (raiseFlagEffect r s).after := by
  unfold raiseFlagEffect
  split
  · exact raise_within s _
  · exact .refl _ s

theorem ackNotifyEffect_within (r : Request) (s : State) :
    Within { events := true } s (ackNotifyEffect r s).after := by
  unfold ackNotifyEffect
  split
  · split
    · exact .refl _ s
    · split
      · exact .refl _ s
      · exact setEvents_within s _
  · exact .refl _ s

theorem prepareStart_within (s : State) (st : TimerState) :
    Within { timer := true } s (s.prepareStart st) := setTimer_within s _

/-- A TIMER-START touches what its start touches. -/
theorem timerStart_within {f : Footprint} {start : State → State} {s : State}
    (started : Within f s (start s)) : Within f s (s.timerStart start).after := by
  unfold State.timerStart
  split
  · exact started
  · exact .refl _ s
  · exact .refl _ s

/-! ### The occurrences -/

/-- A command that takes place touches what its effect touches, and nothing where it does not (log 2). -/
theorem Within.ite {f : Footprint} {s t : State} {c : Prop} [Decidable c] (taken : Within f s t) :
    Within f s (if c then t else s) := by
  split
  · exact taken
  · exact .refl f s

theorem execLinkUp_within (p : Port) (s : State) :
    ∃ t, execLinkUp p s = .next t ∧ Within { Footprint.raising with ports := true } s t := by
  refine ⟨_, rfl, ?_⟩
  split
  · exact .refl _ s
  · exact ((updatePort_within s p _).comp (updateEgress_within _ p _)
      (k := { Footprint.raising with ports := true }) rfl rfl).trans ((raise_within _ _).mono rfl)

/-- The close of a guard, where it is due, calls the arbiter of its port (R60). -/
theorem takeClose_guard_within {s : State} {w : WindowIx} (due : s.closeDue .guard w = true) :
    Within { egress := true, timer := true } s (s.takeClose w) := by
  obtain ⟨-, -, guard, -⟩ := (closeDue_iff s .guard w).1 due
  rw [State.takeClose, guard]
  exact (noteClose_within s w).comp (callSelection_within _ _) rfl rfl

theorem execGuardClose_within (w : Nat) (s : State) :
    ∃ t, execGuardClose w s = .next t ∧ Within { egress := true, timer := true } s t := by
  refine ⟨_, rfl, ?_⟩
  split
  · split
    · next due => exact takeClose_guard_within due
    · exact .refl _ s
  · exact .refl _ s

theorem endAdvance_within (s : State) : Within { ports := true, egress := true } s s.endAdvance :=
  (updatePort_within s _ _).comp (callSelections_within _) rfl rfl

theorem retryRecord_within (s : State) (l : ListenerIx) (q : Half) :
    Within .raising s (s.retryRecord l q) :=
  (setEvents_within s _).comp (offerNotifications_within _ _) rfl rfl

theorem execRetryTimerExpiry_within (l : ListenerIx) (q : Half) (s : State) :
    ∃ t, execRetryTimerExpiry l q s = .next t ∧ Within .raising s t := by
  refine ⟨_, rfl, ?_⟩
  split
  · split
    · exact retryRecord_within s l q
    · exact (setEvents_within s _).mono rfl
  · exact .refl _ s

theorem execLeaseExpiry_within (s : State) :
    ∃ t, execLeaseExpiry s = .next t ∧
      Within { Footprint.raising with agent := true, staging := true } s t := by
  refine ⟨_, rfl, ?_⟩
  split
  · next o _ =>
    have raised := (setAgent_within s { s.agent with owner := none }).comp (raise_within _ occLease)
      (k := { Footprint.raising with agent := true, staging := true }) rfl rfl
    exact .ite (raised.trans ((stagingLeaseExpiry_within _ o.holder).mono rfl))
  · exact .refl _ s

theorem completeRestage_within (s : State) :
    Within { Footprint.raising with staging := true, banks := true } s s.completeRestage :=
  (((setStaged_within s _).comp (setStaging_within _ _)
    (k := { Footprint.raising with staging := true, banks := true }) rfl rfl).trans
      ((raiseStageReady_within _).mono rfl)).trans ((setStaging_within _ _).mono rfl)

/-! ### The commands that leave the quench unit -/

/-- A request's row keeps the quench record where its effect leaves the quench unit. -/
theorem execute_quench {f : Footprint} (row : RequestRow) (s : State)
    (effect : ∀ r t, Within f t (row.effect r t).after) (leaves : f.quench = false) :
    (row.execute s).quench = s.quench := by
  refine (execute_within (f := { Footprint.wide with strap := true, quench := false }) row s rfl
    (fun r t => (effect r t).mono ?_)).quench rfl
  simp [Footprint.le, Footprint.wide, leaves]

/-- A command whose footprint leaves the quench unit keeps its record. -/
theorem exec_keeps_quench {c : Instr} (leaves : (footprint c).quench = false) (s : State) :
    ∃ t, exec c s = .next t ∧ t.quench = s.quench := by
  have of_within {f : Footprint} {r : Result} (within : ∃ t, r = .next t ∧ Within f s t)
      (h : f.quench = false) : ∃ t, r = .next t ∧ t.quench = s.quench := by
    obtain ⟨t, answer, touched⟩ := within
    exact ⟨t, answer, touched.quench h⟩
  cases c with
  | linkUp p => exact of_within (execLinkUp_within p s) rfl
  | guardClose w => exact of_within (execGuardClose_within w s) rfl
  | pendingAdvanceEnd => exact ⟨_, rfl, (Within.ite (endAdvance_within s)).quench rfl⟩
  | transmitStart p =>
    exact ⟨_, rfl, (Within.ite ((select_within s p).comp (releaseFrames_within _)
      (k := { Footprint.selecting with frames := true }) rfl rfl)).quench rfl⟩
  | notificationOffer p => exact ⟨_, rfl, (offerNotifications_within s p).quench rfl⟩
  | retryTimerExpiry l q => exact of_within (execRetryTimerExpiry_within l q s) rfl
  | leaseExpiry => exact of_within (execLeaseExpiry_within s) rfl
  | restageCompletion => exact ⟨_, rfl, (Within.ite (completeRestage_within s)).quench rfl⟩
  | discover => exact ⟨_, rfl, execute_quench _ s (fun _ t => .refl {} t) rfl⟩
  | claim => exact ⟨_, rfl, execute_quench _ s claimEffect_within rfl⟩
  | yieldOwnership => exact ⟨_, rfl, execute_quench _ s yieldEffect_within rfl⟩
  | readStatus => exact ⟨_, rfl, execute_quench _ s (fun _ t => .refl {} t) rfl⟩
  | readSet => exact ⟨_, rfl, execute_quench _ s readSetEffect_within rfl⟩
  | readStreamState => exact ⟨_, rfl, execute_quench _ s (fun _ t => .refl {} t) rfl⟩
  | readCounters => exact ⟨_, rfl, execute_quench _ s (fun _ t => .refl {} t) rfl⟩
  | readCountersClear => exact ⟨_, rfl, execute_quench _ s (fun r t => zeroCounters_within t r) rfl⟩
  | readFlags => exact ⟨_, rfl, execute_quench _ s (fun _ t => .refl {} t) rfl⟩
  | readFault => exact ⟨_, rfl, execute_quench _ s (fun _ t => .refl {} t) rfl⟩
  | writeSettings =>
    exact ⟨_, rfl, execute_quench _ s (fun r t => stagedWrite_within (writeSettings_within t r)) rfl⟩
  | writeWindows =>
    exact ⟨_, rfl, execute_quench _ s (fun r t => stagedWrite_within (writeWindows_within t r)) rfl⟩
  | writeStreams =>
    exact ⟨_, rfl, execute_quench _ s (fun r t => stagedWrite_within (writeStreams_within t r)) rfl⟩
  | writeSteps =>
    exact ⟨_, rfl, execute_quench _ s (fun r t => stagedWrite_within (writeSteps_within t r)) rfl⟩
  | writeTemplate =>
    exact ⟨_, rfl, execute_quench _ s (fun r t => stagedWrite_within (writeTemplate_within t r)) rfl⟩
  | commitNext => exact ⟨_, rfl, execute_quench _ s (fun _ t => commitEffect_within t _) rfl⟩
  | commitAt => exact ⟨_, rfl, execute_quench _ s (fun _ t => commitEffect_within t _) rfl⟩
  | withdraw => exact ⟨_, rfl, execute_quench _ s withdrawEffect_within rfl⟩
  | holdStream => exact ⟨_, rfl, execute_quench _ s holdEffect_within rfl⟩
  | releaseStreamResume => exact ⟨_, rfl, execute_quench _ s resumeEffect_within rfl⟩
  | releaseStreamRearm => exact ⟨_, rfl, execute_quench _ s rearmEffect_within rfl⟩
  | setListener => exact ⟨_, rfl, execute_quench _ s setListenerEffect_within rfl⟩
  | setNotify => exact ⟨_, rfl, execute_quench _ s setNotifyEffect_within rfl⟩
  | clearFlags => exact ⟨_, rfl, execute_quench _ s clearFlagsEffect_within rfl⟩
  | raiseFlag => exact ⟨_, rfl, execute_quench _ s raiseFlagEffect_within rfl⟩
  | timerStartOnMark =>
    exact ⟨_, rfl, execute_quench _ s (fun _ t => timerStart_within (prepareStart_within t .armed)) rfl⟩
  | restart => exact ⟨_, rfl, execute_quench _ s (fun _ t => setAgent_within t _) rfl⟩
  | ackNotify => exact ⟨_, rfl, execute_quench _ s ackNotifyEffect_within rfl⟩
  | unknownRequest =>
    exact ⟨_, rfl, (agentExecutes_within s _ _ rfl (fun r t => conclude_within t r _ _ _)).quench rfl⟩
  | _ => exact nomatch leaves

end Sys2Proof.Machine
end

section
/-! SUPPORT. The law of the quench record: kept by the quench unit's operations, by every operation that reaches
the unit, and so by every command and every step. -/

namespace Sys2Proof.Machine

/-! ### The law of a record -/

section
variable {q : Quench}

/-- The law reads the cause set only for whether it is empty, and nothing of the line and of the modes. -/
theorem QuenchLaw.congr (h : QuenchLaw q) {r : Quench}
    (causes : r.causes.isEmpty = q.causes.isEmpty) (qf : r.qf = q.qf)
    (qs : r.qs = q.qs) (unit : r.unit = q.unit) (wait : r.wait = q.wait) : QuenchLaw r := by
  obtain ⟨h1, h2, h3, h4, h5⟩ := h
  constructor <;> simpa only [causes, qf, qs, unit, wait]

/-- While the unit waits it is RELEASING (R98). -/
theorem QuenchLaw.releasing_of_wait (h : QuenchLaw q) {w : ReleaseWait} (wait : q.wait = some w) :
    q.unit = .releasing :=
  h.waiting.1 (by rw [wait]; rfl)

/-- While the unit is RELEASING, QF is clear and QS still set (R98). -/
theorem QuenchLaw.flags_of_releasing (h : QuenchLaw q) (unit : q.unit = .releasing) :
    q.qf = false ∧ q.qs = true := by
  have qf : ¬ q.qf = true := mt h.quenched.2 (by rw [unit]; decide)
  have qs : ¬ q.qs = false := mt h.normal.2 (by rw [unit]; decide)
  exact ⟨by simpa using qf, by simpa using qs⟩

/-- While a cause is present QF and QS are set. -/
theorem QuenchLaw.flags_of_cause (h : QuenchLaw q) (cause : q.causes.isEmpty = false) :
    q.qf = true ∧ q.qs = true := by
  have qf : q.qf = true := by rw [h.qfSet, cause]; rfl
  exact ⟨qf, h.qsSet qf⟩

/-- The record with a cause added keeps the law, whatever it was before (R92, R97). -/
theorem quenchLaw_withCause (q : Quench) (c : Cause) : QuenchLaw (q.withCause c) := by
  constructor <;> simp [Quench.withCause]

/-- The record after a fall of QS keeps the law where no cause is present and QF is clear (R102). -/
theorem quenchLaw_fallen (causes : q.causes.isEmpty = true) (qf : q.qf = false) :
    QuenchLaw { q with qs := false, unit := .normal, wait := none } := by
  constructor <;> simp [causes, qf]

/-- The record that waits in RELEASING keeps the law where no cause is present, QF is clear and QS set (R98). -/
theorem quenchLaw_waiting (causes : q.causes.isEmpty = true) (qf : q.qf = false) (qs : q.qs = true)
    (w : ReleaseWait) : QuenchLaw { q with unit := .releasing, wait := some w } := by
  constructor <;> simp [causes, qf, qs]

/-- A fall of QS from RELEASING. -/
theorem QuenchLaw.fallen (h : QuenchLaw q) (unit : q.unit = .releasing) :
    QuenchLaw { q with qs := false, unit := .normal, wait := none } := by
  obtain ⟨qf, -⟩ := h.flags_of_releasing unit
  refine quenchLaw_fallen ?_ qf
  simpa [qf] using h.qfSet

end

/-! ### The quench unit's operations -/

/-- A change that leaves the quench unit. -/
theorem QuenchLaw.aside {f : Footprint} {s t : State} (h : QuenchLaw s.quench) (w : Within f s t)
    (leaves : f.quench = false) : QuenchLaw t.quench := by
  rw [w.quench leaves]
  exact h

theorem QuenchLaw.addCause {s : State} (h : QuenchLaw s.quench) (c : Cause) :
    QuenchLaw (s.addCause c).quench := by
  rw [addCause_quench_of_law c h]
  exact quenchLaw_withCause _ c

/-- The last cause goes: QF becomes clear (R98). -/
theorem removeCauses_last {s : State} {cs : List Cause} (present : s.quench.causes.isEmpty = false)
    (gone : (s.quench.causes.removeAll cs).isEmpty = true) :
    s.removeCauses cs =
      (s.setQuench { s.quench with causes := s.quench.causes.removeAll cs }).release := by
  unfold State.removeCauses
  dsimp only
  rw [present, gone]
  rfl

/-- The rows of Table 6-4: QF becomes clear with the last cause, and QS falls at once or the unit waits. -/
theorem QuenchLaw.removeCauses {s : State} (h : QuenchLaw s.quench) (cs : List Cause) :
    QuenchLaw (s.removeCauses cs).quench := by
  cases present : s.quench.causes.isEmpty with
  | true =>
    rw [removeCauses_empty cs present]
    exact h
  | false =>
    cases gone : (s.quench.causes.removeAll cs).isEmpty with
    | false =>
      rw [removeCauses_left gone]
      exact h.congr (gone.trans present.symm) rfl rfl rfl rfl
    | true =>
      obtain ⟨-, qs⟩ := h.flags_of_cause present
      rw [removeCauses_last present gone, release_quench]
      split
      · exact quenchLaw_waiting
          (q := { s.quench with causes := s.quench.causes.removeAll cs, qf := false }) gone rfl qs _
      · exact quenchLaw_fallen
          (q := { s.quench with causes := s.quench.causes.removeAll cs, qf := false }) gone rfl

/-- A fall of QS that ends a release wait (R99, R100, R102). -/
theorem QuenchLaw.quenchFalls {s : State} (h : QuenchLaw s.quench) (unit : s.quench.unit = .releasing)
    (code : Half) : QuenchLaw (s.quenchFalls code).quench := by
  rw [quenchFalls_quench]
  exact h.fallen unit

theorem QuenchLaw.quenchCycleStart {s : State} (h : QuenchLaw s.quench) :
    QuenchLaw s.quenchCycleStart.quench := by
  unfold State.quenchCycleStart
  cases wait : s.quench.wait with
  | none => exact h
  | some w =>
    have unit := h.releasing_of_wait wait
    cases w with
    | cycle => exact h.quenchFalls unit _
    | mark =>
      dsimp only
      split
      · exact h
      · exact h.quenchFalls unit _

theorem QuenchLaw.quenchOnTimeMark {s : State} (h : QuenchLaw s.quench) :
    QuenchLaw s.quenchOnTimeMark.quench := by
  unfold State.quenchOnTimeMark
  cases wait : s.quench.wait with
  | none => exact h
  | some w =>
    cases w with
    | cycle => exact h
    | mark => exact h.quenchFalls (h.releasing_of_wait wait) _

theorem QuenchLaw.quenchTimerStop {s : State} (h : QuenchLaw s.quench) :
    QuenchLaw s.quenchTimerStop.quench := by
  unfold State.quenchTimerStop
  cases wait : s.quench.wait with
  | none => exact h
  | some w => exact h.quenchFalls (h.releasing_of_wait wait) _

theorem QuenchLaw.judgeLine {s : State} (h : QuenchLaw s.quench) : QuenchLaw s.judgeLine.quench := by
  unfold State.judgeLine
  split
  · exact h.addCause .line
  · cases s.quench.lineMode with
    | auto => exact h.removeCauses _
    | latched => exact h

theorem QuenchLaw.takeLine {s : State} (h : QuenchLaw s.quench) (l : LineLevel) :
    QuenchLaw (s.takeLine l).quench := by
  have taken : QuenchLaw (s.setQuench { s.quench with level := l }).quench := h.congr rfl rfl rfl rfl rfl
  unfold State.takeLine
  split
  · exact h
  · exact taken.judgeLine

theorem QuenchLaw.settleLine {s : State} (h : QuenchLaw s.quench) : QuenchLaw s.settleLine.quench := by
  unfold State.settleLine
  split
  · exact h.takeLine _
  · exact h

theorem QuenchLaw.pinAt {s : State} (h : QuenchLaw s.quench) (l : LineLevel) :
    QuenchLaw (s.pinAt l).quench := by
  unfold State.pinAt
  split
  · exact h.settleLine
  · exact h.settleLine.congr rfl rfl rfl rfl rfl

/-- A wait judged again ends at once, or is replaced (R101). -/
theorem QuenchLaw.rejudgeWait {s : State} (h : QuenchLaw s.quench) (unit : s.quench.unit = .releasing) :
    QuenchLaw s.rejudgeWait.quench := by
  unfold State.rejudgeWait
  split
  · next w _ =>
    exact ⟨h.qfSet, h.qsSet, h.normal, h.quenched, ⟨fun _ => unit, fun _ => rfl⟩⟩
  · exact h.quenchFalls unit _

theorem QuenchLaw.applyLive {s : State} (h : QuenchLaw s.quench) (enable : Bool) (lm : LineMode)
    (rm : ReleaseMode) : QuenchLaw (s.applyLive enable lm rm).quench := by
  have live : QuenchLaw (s.setQuench
      { s.quench with lineEnable := enable, lineMode := lm, releaseMode := rm }).quench :=
    h.congr rfl rfl rfl rfl rfl
  unfold State.applyLive
  dsimp only
  split
  · next again => exact live.judgeLine.rejudgeWait again.2.1
  · exact live.judgeLine

/-! ### The stream table: STREAM is added at a stray and at a stall (R30, R36) -/

theorem strayed_quench (s : State) (i : StreamIx) (p : Port) (c : Phase) :
    (s.strayed i p c).quench = s.quench := raise_quench _ _

theorem QuenchLaw.stray {s : State} (h : QuenchLaw s.quench) (i : StreamIx) (p : Port) (c : Phase) :
    QuenchLaw (s.stray i p c).quench := by
  have counted : QuenchLaw (s.strayed i p c).quench := (strayed_quench s i p c).symm ▸ h
  have held := counted.aside (enterHeld_within _ i .stray) rfl
  unfold State.stray
  cases (s.streamRec i).strayPolicy with
  | count => exact counted
  | hold => exact held
  | holdAndQuench => exact held.addCause _

theorem lock_quench (s : State) (i : StreamIx) (p : Port) (c : Phase) (ref : Nat) :
    (s.lock i p c ref).quench = s.quench := by
  unfold State.lock
  rw [raise_quench, (forwardReal_within _ i p c ref).quench rfl]
  rfl

theorem repeated_quench (s : State) (i : StreamIx) (p : Port) (c : Phase) (ref : Nat) :
    (s.repeated i p c ref).quench = s.quench := by
  unfold State.repeated
  dsimp only
  split
  · exact (forwardReal_within _ i p c ref).quench rfl
  · rfl

theorem advance_quench (s : State) (i : StreamIx) (p : Port) (c : Phase) (ref : Nat) :
    (s.advance i p c ref).quench = s.quench := by
  have forwarded : ((s.updateStream i (fun r => r.advanced (s.streamRec i) s.timer.cycleCount)).forwardReal
      i p c ref).quench = s.quench := (forwardReal_within _ i p c ref).quench rfl
  unfold State.advance
  dsimp only
  split
  · rw [raise_quench]
    exact forwarded
  · exact forwarded

/-- Of what an admitted frame can bring, only a stray reaches the quench unit. -/
theorem QuenchLaw.admittedFrame {s : State} (h : QuenchLaw s.quench) (i : StreamIx) (p : Port) (c : Phase)
    (ref : Nat) : QuenchLaw (s.admittedFrame i p c ref).quench := by
  unfold State.admittedFrame
  cases s.streams[i].state with
  | disabled => exact h
  | armed =>
    dsimp only
    split
    · rw [lock_quench]; exact h
    · exact h
  | running =>
    dsimp only
    split
    · rw [repeated_quench]; exact h
    · split
      · rw [advance_quench]; exact h
      · exact h.stray i p c
  | held => dsimp only; rw [offerSubstitutes_quench]; exact h

theorem QuenchLaw.stallStream {s : State} (h : QuenchLaw s.quench) (i : StreamIx) (p : Port) :
    QuenchLaw (s.stallStream i p).quench := by
  have held : QuenchLaw (s.stallHeld i p).quench := (stallHeld_quench s i p).symm ▸ h
  cases policy : (s.streamRec i).stallPolicy with
  | hold => rw [stallStream_hold policy]; exact held
  | holdAndQuench => rw [stallStream_holdAndQuench policy]; exact held.addCause _

theorem QuenchLaw.absentStream {s : State} (h : QuenchLaw s.quench) (i : StreamIx) (p : Port) :
    QuenchLaw (s.absentStream i p).quench := by
  have filled : QuenchLaw (s.absentFilled i p).quench := (absentFilled_quench s i p).symm ▸ h
  rw [absentStream_eq]
  split
  · exact filled.stallStream i p
  · exact filled

theorem QuenchLaw.examineStream {s : State} (h : QuenchLaw s.quench) (w : WindowIx) (i : StreamIx) :
    QuenchLaw (s.examineStream w i).quench := by
  unfold State.examineStream
  split
  · split
    · exact h
    · exact h.absentStream i _
  · exact h

/-- A list of changes, each of which keeps the law. -/
theorem QuenchLaw.foldl {α : Type} {change : State → α → State}
    (keeps : ∀ t x, QuenchLaw t.quench → QuenchLaw (change t x).quench) (l : List α) {s : State}
    (h : QuenchLaw s.quench) : QuenchLaw (l.foldl change s).quench :=
  List.foldlRecOn (motive := fun t => QuenchLaw t.quench) l change h (fun t ht x _ => keeps t x ht)

theorem QuenchLaw.takeClose {s : State} (h : QuenchLaw s.quench) (w : WindowIx) :
    QuenchLaw (s.takeClose w).quench := by
  have noted : QuenchLaw (s.noteClose w).quench := h
  unfold State.takeClose
  cases s.active.windows[w].kind with
  | admitting => exact noted.foldl (fun t i ht => ht.examineStream w i) allStreams
  | guard => exact noted

/-! ### The timer: MARK is added at a limit of mark faults (R74), and its moments end release waits -/

theorem QuenchLaw.markFault {s : State} (h : QuenchLaw s.quench) (code : Half) :
    QuenchLaw (s.markFault code).quench := by
  have faulted : QuenchLaw ((s.setTimer { s.timer with faultCount := satInc s.timer.faultCount }).raise
      (occMarkFault s.markPort code)).quench := by
    rw [raise_quench]
    exact h
  unfold State.markFault
  dsimp only
  split
  · exact (faulted.aside (raise_within _ _) rfl).addCause .mark
  · exact faulted

theorem QuenchLaw.closeInterval {s : State} (h : QuenchLaw s.quench) : QuenchLaw s.closeInterval.quench := by
  unfold State.closeInterval
  cases s.timer.attribution with
  | none => exact h
  | some a =>
    have closed := h.aside (setTimer_within s { s.timer with attribution := some { a with isOpen := false } }) rfl
    dsimp only
    split
    · exact closed
    · exact closed.markFault _

theorem QuenchLaw.closeIntervalIfOver {s : State} (h : QuenchLaw s.quench) :
    QuenchLaw s.closeIntervalIfOver.quench := by
  unfold State.closeIntervalIfOver
  split
  · exact h.closeInterval
  · exact h

theorem QuenchLaw.carryInterval {s : State} (h : QuenchLaw s.quench) : QuenchLaw s.carryInterval.quench := by
  unfold State.carryInterval
  split
  · exact h.aside (updatePort_within s _ _) rfl
  · split
    · split
      · exact h.closeInterval
      · exact h
    · exact h

theorem QuenchLaw.closeHeldInterval {s : State} (h : QuenchLaw s.quench) (r : Option Reception) :
    QuenchLaw (s.closeHeldInterval r).quench := by
  unfold State.closeHeldInterval
  split
  · split
    · exact h.markFault _
    · exact h
  · exact h

theorem QuenchLaw.endHolds {after : State} (h : QuenchLaw after.quench) (before : State) (p : Port)
    (r : Option Reception) : QuenchLaw (before.endHolds after p r).quench := by
  unfold State.endHolds
  dsimp only
  split
  · exact (h.closeHeldInterval r).closeIntervalIfOver
  · exact h.closeHeldInterval r

theorem QuenchLaw.inEitherOrder {s : State} (h : QuenchLaw s.quench) (both : Bool) {f g : State → State}
    (hf : ∀ t, QuenchLaw t.quench → QuenchLaw (f t).quench)
    (hg : ∀ t, QuenchLaw t.quench → QuenchLaw (g t).quench) :
    QuenchLaw (inEitherOrder both f g s).quench := by
  have drawn : QuenchLaw (s.draw 1).quench := h
  unfold Machine.inEitherOrder
  split
  · split
    · exact hg _ (hf _ drawn)
    · exact hf _ (hg _ drawn)
  · exact hg _ (hf _ h)

theorem QuenchLaw.handCycleStart {s : State} (h : QuenchLaw s.quench) (first : Bool) :
    QuenchLaw (s.handCycleStart first).quench := by
  have begun : QuenchLaw (s.begun first).quench := (begun_quench s first).symm ▸ h
  exact (begun.inEitherOrder _ (fun t ht => ht.quenchCycleStart)
    (fun t ht => ht.aside (cutOffs_within t) rfl)).aside (callSelections_within _) rfl

theorem QuenchLaw.periodMatch {s : State} (h : QuenchLaw s.quench) : QuenchLaw s.periodMatch.quench :=
  (h.carryInterval.aside (setTimer_within _ _) rfl).handCycleStart false

theorem QuenchLaw.onTimeMark {s : State} (h : QuenchLaw s.quench) : QuenchLaw s.onTimeMark.quench :=
  (h.aside (setTimer_within s _) rfl).quenchOnTimeMark

theorem QuenchLaw.lateMark {s : State} (h : QuenchLaw s.quench) (c : CycleParams) (o : Nat) :
    QuenchLaw (s.lateMark c o).quench := (h.aside (setTimer_within s _) rfl).onTimeMark

theorem QuenchLaw.advanceCounter {s : State} (h : QuenchLaw s.quench) (x : Nat) :
    QuenchLaw (s.advanceCounter x).quench := by
  have moved := h.aside (setTimer_within s { s.timer with counter := x }) rfl
  unfold State.advanceCounter
  exact ((moved.foldl (fun t w ht => ht.takeClose w) _).aside (cutOffs_within _) rfl).aside
    (callSelections_within _) rfl

theorem QuenchLaw.earlyMark {s : State} (h : QuenchLaw s.quench) (o w : Nat) :
    QuenchLaw (s.earlyMark o w).quench :=
  ((h.advanceCounter w).aside (setTimer_within _ _) rfl).onTimeMark

theorem QuenchLaw.judgeMark {s : State} (h : QuenchLaw s.quench) (r : StartRecord) (len : Nat) :
    QuenchLaw (s.judgeMark r len).quench := by
  obtain e | e | ⟨c, o, e⟩ | ⟨o, w, e⟩ := judgeMark_cases s r len <;> rw [e]
  · exact h
  · exact h.markFault _
  · exact h.lateMark c o
  · exact h.earlyMark o w

theorem QuenchLaw.startOnMark {s : State} (h : QuenchLaw s.quench) (len : Nat) :
    QuenchLaw (s.startOnMark len).quench := by
  have started := (h.aside (setTimer_within s { s.timer with
    state := .running, cycleCount := 0#32, counter := wireTime len }) rfl).handCycleStart true
  unfold State.startOnMark
  dsimp only
  split
  · exact (started.aside (setTimer_within _ _) rfl).onTimeMark
  · exact started.aside (setTimer_within _ _) rfl

theorem QuenchLaw.timerTakesMark {s : State} (h : QuenchLaw s.quench) (r : StartRecord) (len : Nat) :
    QuenchLaw (s.timerTakesMark r len).quench := by
  unfold State.timerTakesMark
  cases s.timer.state with
  | stopped => exact h
  | armed =>
    dsimp only
    split
    · exact h.startOnMark len
    · exact h
  | running => exact h.judgeMark r len

theorem QuenchLaw.stopTimer {s : State} (h : QuenchLaw s.quench) : QuenchLaw s.stopTimer.quench := by
  have halted : QuenchLaw s.halted.quench := h
  by_cases running : s.timer.state = .running
  · rw [stopTimer_running running]
    exact halted.inEitherOrder _ (fun t ht => ht.aside (stagingTimerStop_within t) rfl)
      (fun t ht => ht.quenchTimerStop)
  · rw [stopTimer_not_running running]
    exact h

/-! ### The resets -/

/-- The warm restart adds RESTART, whatever the record was (R107). -/
theorem warmRestart_quench (s : State) : s.warmRestart.quench = s.quench.withCause .restart :=
  (warmRestart_keeps State.quench raise_quench draw_quench s).trans
    ((beginRestage_within s.restartBlocks .restart).quench rfl)

theorem quenchLaw_warmRestart (s : State) : QuenchLaw s.warmRestart.quench := by
  rw [warmRestart_quench]
  exact quenchLaw_withCause _ .restart

theorem QuenchLaw.settleRestart {s : State} (h : QuenchLaw s.quench) : QuenchLaw s.settleRestart.quench := by
  unfold State.settleRestart
  split
  · split
    · exact quenchLaw_warmRestart s
    · exact h
  · exact h

/-- The cold-reset record: STARTUP is present (R106). -/
theorem quenchLaw_cold (level : LineLevel) : QuenchLaw (Quench.cold level) := by
  constructor <;> simp [Quench.cold, CauseSet.isEmpty]

/-! ### Frames, links and requests -/

theorem QuenchLaw.streamFrame {s : State} (h : QuenchLaw s.quench) (i : StreamIx) (p : Port)
    (r : StartRecord) (f : List Byte) : QuenchLaw (s.streamFrame i p r f).quench := by
  unfold State.streamFrame
  cases s.admission i p r with
  | misplaced code => exact (h.aside (countStream_within s i _) rfl).aside (raise_within _ _) rfl
  | surplus => exact (h.aside (countStream_within s i _) rfl).aside (raise_within _ _) rfl
  | admitted =>
    exact ((h.aside (updateStream_within s i _) rfl).aside (holdFrame_within _ p f) rfl).admittedFrame i p _ _

theorem QuenchLaw.streamData {s : State} (h : QuenchLaw s.quench) (p : Port) (r : StartRecord)
    (f : List Byte) : QuenchLaw (s.streamData p r f).quench := by
  unfold State.streamData
  cases s.lookupTag (frameTag f) with
  | some i => exact h.streamFrame i p r f
  | none => exact (h.aside (countPort_within s p _) rfl).aside (raise_within _ _) rfl

theorem managementRequest_quench (s : State) (p : Port) (f : List Byte) :
    (s.managementRequest p f).quench = s.quench := by
  unfold State.managementRequest
  split
  · exact (intakeRequest_within _ _).quench rfl
  · exact raise_quench _ _

theorem QuenchLaw.cycleMark {s : State} (h : QuenchLaw s.quench) (p : Port) (r : StartRecord)
    (f : List Byte) : QuenchLaw (s.cycleMark p r f).quench :=
  (((h.aside (countPort_within s p _) rfl).aside (holdFrame_within _ p f) rfl).aside
    (offerCyclicTo_within _ _ _) rfl).timerTakesMark r f.length

theorem backgroundFrame_quench (s : State) (p : Port) (f : List Byte) :
    (s.backgroundFrame p f).quench = s.quench := by
  unfold State.backgroundFrame
  dsimp only
  split
  · rfl
  · exact (Within.foldl _ (fun t q => offerBackground_within t _ q) _ _).quench rfl

/-- The paths of a good frame (R134): stream data and marks can reach the quench unit. -/
theorem QuenchLaw.goodFrame {s : State} (h : QuenchLaw s.quench) (p : Port) (r : StartRecord)
    (f : List Byte) : QuenchLaw (s.goodFrame p r f).quench := by
  unfold State.goodFrame
  cases s.classify p f with
  | malformed => exact h.aside (countPort_within s p _) rfl
  | request => dsimp only; rw [managementRequest_quench]; exact h
  | mark => exact h.cycleMark p r f
  | streamData => exact h.streamData p r f
  | background => dsimp only; rw [backgroundFrame_quench]; exact h

theorem QuenchLaw.receiveFrame {s : State} (h : QuenchLaw s.quench) (p : Port) (r : StartRecord)
    (f : List Byte) : QuenchLaw (s.receiveFrame p r f).quench := by
  unfold State.receiveFrame
  split
  · exact h.aside (countPort_within s p _) rfl
  · split
    · exact h.aside (countPort_within s p _) rfl
    · split
      · exact h.aside (countPort_within s p _) rfl
      · exact (h.aside (countPort_within s p _) rfl).goodFrame p r f

/-- What follows when a frame has left reception. -/
theorem QuenchLaw.afterReception {after : State} (h : QuenchLaw after.quench) (before : State) (p : Port)
    (r : Option Reception) :
    QuenchLaw ((before.noteAdvanceEnd (before.endHolds after p r)).settleRestart.releaseFrames).quench :=
  (((h.endHolds before p r).aside (noteAdvanceEnd_within before _) rfl).settleRestart).aside
    (releaseFrames_within _) rfl

theorem QuenchLaw.frameArrives {s : State} (h : QuenchLaw s.quench) (p : Port) (r : Reception) :
    QuenchLaw (s.frameArrives p r).quench := by
  have cleared := h.aside (updatePort_within s p (fun u => { u with reception := none })) rfl
  exact (cleared.receiveFrame p r.start r.frame).afterReception s p (some r)

theorem QuenchLaw.linkDown {s : State} (h : QuenchLaw s.quench) (p : Port) :
    QuenchLaw (s.linkDown p).quench := by
  have aborted := (h.aside (updatePort_within s p (fun u => { u with link := .down })) rfl).aside
    (abortReception_within _ p) rfl
  have lowered := (aborted.aside (flushDown_within _ p) rfl).aside (raise_within _ (occLink p .down)) rfl
  exact lowered.afterReception s p _

theorem QuenchLaw.completeSent {s : State} (h : QuenchLaw s.quench) (x : Sent) :
    QuenchLaw (s.completeSent x).quench := by
  cases x with
  | response isRestart =>
    cases isRestart with
    | true => exact quenchLaw_warmRestart s
    | false => exact h
  | substitute i => exact h
  | real _ => exact h
  | mark _ => exact h
  | background _ => exact h
  | notification => exact h

/-- The requests of a row keep the law when the row's effect does. -/
theorem QuenchLaw.execute {s : State} (h : QuenchLaw s.quench) {row : RequestRow}
    (keeps : ∀ r t, QuenchLaw t.quench → QuenchLaw (row.effect r t).after.quench) :
    QuenchLaw (row.execute s).quench := by
  have concluded {t : State} (ht : QuenchLaw t.quench) (r : Request) (st : Status) (res : List Byte)
      (b : Bool) : QuenchLaw (t.conclude r st res b).quench := ht.aside (conclude_within t r st res b) rfl
  unfold RequestRow.execute State.agentExecutes
  split
  · next r rest _ _ =>
    have taken : QuenchLaw (s.tookRequest rest).quench := h
    have counted : QuenchLaw (s.tookRequest rest).countExecuted.quench := h
    split
    · split
      · exact taken.aside (answerUnreadable_within _ _) rfl
      · split
        · exact taken.aside (answerFromCache_within _ _ _) rfl
        · unfold RequestRow.judge
          split
          · exact concluded counted _ _ _ _
          · split
            · exact concluded counted _ _ _ _
            · split
              · exact concluded counted _ _ _ _
              · exact concluded (keeps r _ counted) _ _ _ _
    · exact h
  · exact h
  · exact h

theorem QuenchLaw.clearQuenchEffect {s : State} (h : QuenchLaw s.quench) (r : Request) :
    QuenchLaw (clearQuenchEffect r s).after.quench := by
  unfold Machine.clearQuenchEffect State.clearCauses
  split
  · split <;> exact h.removeCauses _
  · exact h

theorem QuenchLaw.setLiveEffect {s : State} (h : QuenchLaw s.quench) (r : Request) :
    QuenchLaw (setLiveEffect r s).after.quench := by
  unfold Machine.setLiveEffect
  split
  · exact (h.aside (setAgent_within s _) rfl).applyLive _ _ _
  · exact h

theorem QuenchLaw.timerStart {s : State} (h : QuenchLaw s.quench) {start : State → State}
    (keeps : QuenchLaw (start s).quench) : QuenchLaw (s.timerStart start).after.quench := by
  unfold State.timerStart
  cases s.timer.state with
  | stopped => exact keeps
  | armed => exact h
  | running => exact h

theorem QuenchLaw.timerStopEffect {s : State} (h : QuenchLaw s.quench) (r : Request) :
    QuenchLaw (timerStopEffect r s).after.quench := by
  unfold Machine.timerStopEffect
  cases s.timer.state with
  | stopped => exact h
  | armed => exact h.stopTimer
  | running => exact h.stopTimer

/-! ### Every command and every step -/

/-- A command whose occasion may not hold (log 2). -/
theorem QuenchLaw.ite {s t : State} {c : Prop} [Decidable c] (h : QuenchLaw s.quench)
    (taken : QuenchLaw t.quench) : QuenchLaw (if c then t else s).quench := by
  split
  · exact taken
  · exact h

theorem QuenchLaw.execLinkDown {s : State} (h : QuenchLaw s.quench) (p : Port) :
    ∃ t, execLinkDown p s = .next t ∧ QuenchLaw t.quench := by
  refine ⟨_, rfl, ?_⟩
  split
  · exact h.linkDown p
  · exact h

theorem QuenchLaw.execStartOfFrame {s : State} (h : QuenchLaw s.quench) (p : Port) (f : List Byte) :
    ∃ t, execStartOfFrame p f s = .next t ∧ QuenchLaw t.quench := by
  refine ⟨_, rfl, ?_⟩
  split
  · exact h.aside (updatePort_within s p _) rfl
  · exact h.ite ((h.frameArrives p _).aside (updatePort_within _ p _) rfl)
  · exact h

theorem QuenchLaw.execFrameArrival {s : State} (h : QuenchLaw s.quench) (p : Port) :
    ∃ t, execFrameArrival p s = .next t ∧ QuenchLaw t.quench := by
  refine ⟨_, rfl, ?_⟩
  split
  · exact h.ite (h.frameArrives p _)
  · exact h

theorem QuenchLaw.execWindowClose {s : State} (h : QuenchLaw s.quench) (w : Nat) :
    ∃ t, execWindowClose w s = .next t ∧ QuenchLaw t.quench := by
  refine ⟨_, rfl, ?_⟩
  split
  · exact h.ite (h.takeClose _)
  · exact h

theorem QuenchLaw.execTransmitComplete {s : State} (h : QuenchLaw s.quench) (p : Port) :
    ∃ t, execTransmitComplete p s = .next t ∧ QuenchLaw t.quench := by
  refine ⟨_, rfl, ?_⟩
  split
  · next x _ =>
    have freed : QuenchLaw ((s.countPort p (fun c => { c with transmitted := c.transmitted + 1#32 })).updateEgress
        p (fun e => { e with transmitter := .idle, selectDue := true })).quench := h
    exact h.ite ((freed.completeSent x.sent).aside (releaseFrames_within _) rfl)
  · exact h
  · exact h
  · exact h

/-- Every command answers with a next state, and keeps the law in it: those that reach the quench unit one by
one, and the others by their footprint. -/
theorem QuenchLaw.exec {s : State} (h : QuenchLaw s.quench) (c : Instr) :
    ∃ t, exec c s = .next t ∧ QuenchLaw t.quench := by
  cases leaves : (footprint c).quench with
  | false =>
    obtain ⟨t, answer, same⟩ := exec_keeps_quench leaves s
    exact ⟨t, answer, same.symm ▸ h⟩
  | true =>
    cases c with
    | coldReset strap links level => exact ⟨_, rfl, quenchLaw_cold level⟩
    | quenchLineAsserted => exact ⟨_, rfl, h.pinAt .asserted⟩
    | quenchLineDeasserted => exact ⟨_, rfl, h.pinAt .deasserted⟩
    | linkDown p => exact h.execLinkDown p
    | startOfFrame p f => exact h.execStartOfFrame p f
    | frameArrival p => exact h.execFrameArrival p
    | cycleStart => exact ⟨_, rfl, h.ite h.periodMatch.settleRestart⟩
    | windowClose w => exact h.execWindowClose w
    | guardOpen p => exact ⟨_, rfl, h.ite (h.aside (cutOff_within s p) rfl).settleRestart⟩
    | attributionIntervalClose => exact ⟨_, rfl, h.closeIntervalIfOver⟩
    | transmitComplete p => exact h.execTransmitComplete p
    | restartWaitExpiry => exact ⟨_, rfl, h.ite (quenchLaw_warmRestart s)⟩
    | quench => exact ⟨_, rfl, h.execute (fun _ _ ht => ht.addCause .command)⟩
    | clearQuench => exact ⟨_, rfl, h.execute (fun r _ ht => ht.clearQuenchEffect r)⟩
    | setLive => exact ⟨_, rfl, h.execute (fun r _ ht => ht.setLiveEffect r)⟩
    | timerStartImmediate =>
      exact ⟨_, rfl, h.execute (fun _ t ht =>
        ht.timerStart ((ht.aside (prepareStart_within t .running) rfl).handCycleStart true))⟩
    | timerStop => exact ⟨_, rfl, h.execute (fun r _ ht => ht.timerStopEffect r)⟩
    | _ => exact nomatch leaves

/-- A step on an empty queue moves at most the count of the pin's ticks at the quench unit (log 1). -/
theorem QuenchLaw.idle {s : State} (h : QuenchLaw s.quench) : QuenchLaw s.idle.quench := by
  unfold State.idle
  split
  · exact h.congr rfl rfl rfl rfl rfl
  · exact h
  · exact h

/-- Settles O57: a step is a command on the rest of the queue, or idles. -/
theorem quenchLawKeptByEveryStep : Obligations.QuenchLawKeptByEveryStep := by
  intro s t h e
  unfold step at e
  split at e
  · obtain rfl := Host.Outcome.next.inj e
    exact h.idle
  · next c rest _ =>
    have front : QuenchLaw (s.setPending rest).quench := h
    obtain ⟨u, answer, law⟩ := front.exec c
    obtain rfl := Host.Outcome.next.inj (answer.symm.trans e)
    exact law

end Sys2Proof.Machine
end

section
/-! SUPPORT. The quench unit's equations, one for each row of its tables, and the statements on causes, on
releases, on QUENCH_N and on QUENCH and CLEAR-QUENCH. -/

namespace Sys2Proof.Machine

/-! ### Causes added (R92, R97) -/

/-- A cause that is present is no change. -/
theorem addCause_present {s : State} {c : Cause} (present : s.quench.causes.has c = true) :
    s.addCause c = s :=
  if_pos present

/-- While QS is set an addition changes the quench record alone. -/
theorem addCause_while_set {s : State} (set : s.quench.qs = true) (c : Cause) :
    s.addCause c = s.setQuench (s.addCause c).quench := by
  unfold State.addCause
  split
  · rfl
  · split <;> rfl

/-- While QS is clear no cause is present. -/
theorem QuenchLaw.empty_of_clear {q : Quench} (h : QuenchLaw q) (clear : q.qs = false) :
    q.causes.isEmpty = true := by
  cases e : q.causes.isEmpty with
  | true => rfl
  | false => exact nomatch clear.symm.trans (h.flags_of_cause e).2

/-- An addition while QS is clear raises QUENCH-ON. -/
theorem addCause_rise {s : State} (h : QuenchLaw s.quench) (clear : s.quench.qs = false) (c : Cause) :
    s.addCause c = (s.setQuench (s.quench.withCause c)).raise (occQuenchOn c) := by
  have empty := h.empty_of_clear clear
  have absent : ¬ s.quench.causes.has c = true := fun present =>
    nomatch empty.symm.trans (causeSet_not_empty present)
  unfold State.addCause
  rw [if_neg absent, if_pos empty, if_neg (by simp [clear])]

/-- Settles O9: under the law the record after an addition is one equation, and QS says whether QUENCH-ON is
raised. -/
theorem addingACauseSetsQuench : Obligations.AddingACauseSetsQuench := by
  refine ⟨fun s c law => ?_, fun x b => ⟨⟨rfl, rfl, rfl, rfl, rfl, rfl⟩, rfl, rfl, rfl, rfl, rfl, rfl⟩⟩
  have record := addCause_quench_of_law c law
  rw [record]
  refine ⟨rfl, rfl, rfl, rfl, rfl, addCause_rise law (c := c), fun set => ?_, addCause_present⟩
  rw [← record]
  exact addCause_while_set set c

/-! ### Causes removed and QF clear (R98, Table 6-4) -/

section
variable {s : State}

theorem releaseRow_immediate (mode : s.quench.releaseMode = .immediate) : s.releaseRow = .inr 1#16 := by
  rw [State.releaseRow, mode]

theorem releaseRow_not_running (mode : s.quench.releaseMode ≠ .immediate) (idle : s.timer.state ≠ .running) :
    s.releaseRow = .inr 2#16 := by
  have off : s.running = false := decide_eq_false idle
  unfold State.releaseRow
  cases m : s.quench.releaseMode with
  | immediate => exact absurd m mode
  | cycle => simp [off]
  | mark => simp [off]

theorem releaseRow_cycle (mode : s.quench.releaseMode = .cycle) (running : s.timer.state = .running) :
    s.releaseRow = .inl .cycle := by
  rw [State.releaseRow, mode]
  exact if_pos (decide_eq_true running)

/-- While RUNNING the mode of the current cycle is that of its recorded parameters (R63). -/
theorem inFollowCycle_eq {c : CycleParams} (running : s.timer.state = .running)
    (current : s.timer.current = some c) : s.inFollowCycle = decide (c.follow = .follow) := by
  simp [State.inFollowCycle, State.running, running, current]

theorem releaseRow_mark {c : CycleParams} (mode : s.quench.releaseMode = .mark)
    (running : s.timer.state = .running) (current : s.timer.current = some c) :
    s.releaseRow = if c.follow = .follow then .inl .mark else .inr 3#16 := by
  rw [State.releaseRow, mode, inFollowCycle_eq running current]
  simp [State.running, running]

variable {cs : List Cause} (present : s.quench.causes.isEmpty = false)
  (gone : (s.quench.causes.removeAll cs).isEmpty = true)
include present gone

/-- The last cause goes and QS falls at once. -/
theorem removeCauses_falls {code : Half} (row : s.releaseRow = .inr code) :
    s.removeCauses cs =
      (s.setQuench { s.quench with causes := s.quench.causes.removeAll cs, qf := false }).quenchFalls
        code := by
  have row : (s.setQuench { s.quench with causes := s.quench.causes.removeAll cs }).releaseRow =
    .inr code := row
  rw [removeCauses_last present gone, State.release, row]
  rfl

/-- The last cause goes and the unit waits in RELEASING. -/
theorem removeCauses_waits {w : ReleaseWait} (row : s.releaseRow = .inl w) :
    s.removeCauses cs = s.setQuench { s.quench with
      causes := s.quench.causes.removeAll cs, qf := false, unit := .releasing, wait := some w } := by
  have row : (s.setQuench { s.quench with causes := s.quench.causes.removeAll cs }).releaseRow =
    .inl w := row
  rw [removeCauses_last present gone, State.release, row]
  rfl

end

/-! ### The ends of a release wait (R99, R100) -/

section
variable {s : State}

/-- Without a wait, cycle starts, marks and stops are nothing to the quench unit. -/
theorem quenchUnit_no_wait (absent : s.quench.wait = none) :
    s.quenchCycleStart = s ∧ s.quenchOnTimeMark = s ∧ s.quenchTimerStop = s := by
  refine ⟨?_, ?_, quenchTimerStop_idle absent⟩
  · rw [State.quenchCycleStart, absent]
  · rw [State.quenchOnTimeMark, absent]

/-- A TIMER-STOP ends any wait. -/
theorem quenchTimerStop_falls {w : ReleaseWait} (wait : s.quench.wait = some w) :
    s.quenchTimerStop = s.quenchFalls 6#16 := by
  rw [State.quenchTimerStop, wait]

theorem quenchUnit_cycle_wait (wait : s.quench.wait = some .cycle) :
    s.quenchCycleStart = s.quenchFalls 4#16 ∧ s.quenchOnTimeMark = s := by
  constructor
  · rw [State.quenchCycleStart, wait]
  · rw [State.quenchOnTimeMark, wait]

theorem quenchOnTimeMark_falls (wait : s.quench.wait = some .mark) :
    s.quenchOnTimeMark = s.quenchFalls 5#16 := by
  rw [State.quenchOnTimeMark, wait]

/-- A cycle start ends a MARK wait where the cycle that begins is not a FOLLOW cycle. -/
theorem quenchCycleStart_mark_wait (wait : s.quench.wait = some .mark) :
    s.quenchCycleStart = if s.inFollowCycle then s else s.quenchFalls 3#16 := by
  rw [State.quenchCycleStart, wait]

end

/-- Settles O10: what a removal leaves, the rows of Table 6-4, and the ends of the two waits. -/
theorem lastCauseGoneFollowsReleaseMode : Obligations.LastCauseGoneFollowsReleaseMode := by
  refine ⟨fun s cs => ?_, fun s cs present gone unit set => ⟨fun mode => ?_, fun mode idle => ?_,
      fun mode running => ?_, fun c mode running current => ⟨fun free => ?_, fun follow => ?_⟩⟩,
    fun s => ⟨quenchUnit_no_wait, fun wait => ?_, fun wait => ?_⟩⟩
  · have taken := removeAll_eq s.quench.causes cs
    refine ⟨taken, (removeCauses_causes s cs).trans taken, causeSet_isEmpty_iff _, fun left => ?_,
      removeCauses_empty cs⟩
    rw [← taken] at left ⊢
    exact removeCauses_left left
  · exact removeCauses_falls present gone (releaseRow_immediate mode)
  · exact removeCauses_falls present gone (releaseRow_not_running mode idle)
  · exact removeCauses_waits present gone (releaseRow_cycle mode running)
  · refine removeCauses_falls present gone ((releaseRow_mark mode running current).trans ?_)
    rw [free]
    rfl
  · refine removeCauses_waits present gone ((releaseRow_mark mode running current).trans ?_)
    rw [follow]
    rfl
  · obtain ⟨start, mark⟩ := quenchUnit_cycle_wait wait
    exact ⟨start, mark, quenchTimerStop_falls wait⟩
  · refine ⟨quenchOnTimeMark_falls wait, quenchTimerStop_falls wait, fun c running current => ?_⟩
    rw [quenchCycleStart_mark_wait wait, inFollowCycle_eq running current]
    constructor <;> intro mode <;> rw [mode] <;> rfl

/-! ### The line (R93, R94) -/

section
variable {s : State}

theorem judgeLine_active (level : s.quench.level = .asserted) (enabled : s.quench.lineEnable = true) :
    s.judgeLine = s.addCause .line :=
  if_pos (by simp [Quench.lineActive, level, enabled])

/-- The line is deasserted or not enabled: LINE goes in AUTO mode and stays in LATCHED mode. -/
theorem judgeLine_inactive (inactive : s.quench.lineActive = false) :
    s.judgeLine = match s.quench.lineMode with
      | .auto => s.removeCauses [.line]
      | .latched => s := by
  rw [State.judgeLine, inactive]
  rfl

/-- LINE alone is taken out where it leaves in AUTO mode. -/
theorem judgeLine_auto_causes (inactive : s.quench.lineActive = false) (mode : s.quench.lineMode = .auto) :
    s.judgeLine.quench.causes = { s.quench.causes with line := false } := by
  rw [judgeLine_inactive inactive, mode]
  exact removeCauses_causes s [.line]

theorem judgeLine_latched (inactive : s.quench.lineActive = false) (mode : s.quench.lineMode = .latched) :
    s.judgeLine = s := by
  rw [judgeLine_inactive inactive, mode]

/-- The pin keeps its level. -/
theorem pinAt_same {l : LineLevel} (pin : s.quench.pin = l) : s.pinAt l = s.settleLine := if_pos pin

/-- The pin changes: its two ticks begin, behind what has stood its own. -/
theorem pinAt_change {l : LineLevel} (pin : s.quench.pin ≠ l) :
    s.pinAt l = s.settleLine.setQuench { s.settleLine.quench with pin := l, pinTicks := 0 } := if_neg pin

/-- The level l has stood its two ticks on the pin and is taken. -/
theorem settleLine_to {l m : LineLevel} (opposite : l ≠ m) (pin : s.quench.pin = l)
    (level : s.quench.level = m) (ticks : 2 ≤ s.quench.pinTicks) :
    s.settleLine = (s.setQuench { s.quench with level := l }).judgeLine := by
  subst pin level
  exact settleLine_takes ticks opposite

/-- A pin at l of which nothing is to be taken. -/
theorem settleLine_rests {l : LineLevel} (pin : s.quench.pin = l)
    (rests : s.quench.pinTicks < 2 ∨ s.quench.level = l) : s.settleLine = s :=
  settleLine_idle (rests.imp_right fun level => pin.trans level.symm)

/-- The pin stays at l, of which nothing is to be taken: no change. -/
theorem pinAt_rests {l : LineLevel} (pin : s.quench.pin = l)
    (rests : s.quench.pinTicks < 2 ∨ s.quench.level = l) : s.pinAt l = s :=
  (pinAt_same pin).trans (settleLine_rests pin rests)

/-- The pin leaves m, of which nothing is to be taken: the change starts the count. -/
theorem pinAt_starts_count {l m : LineLevel} (opposite : m ≠ l) (pin : s.quench.pin = m)
    (rests : s.quench.pinTicks < 2 ∨ s.quench.level = m) :
    s.pinAt l = s.setQuench { s.quench with pin := l, pinTicks := 0 } := by
  rw [pinAt_change (pin.symm ▸ opposite), settleLine_rests pin rests]

/-- The pin leaves m, which has stood its two ticks: it is taken first, as where the pin stays (log 11). -/
theorem pinAt_takes_first {l m : LineLevel} (opposite : m ≠ l) (pin : s.quench.pin = m)
    (ticks : 2 ≤ s.quench.pinTicks) (level : s.quench.level = l) :
    (s.pinAt m).quench.level = m ∧ (s.pinAt m).quench.pin = m ∧
      s.pinAt l = (s.pinAt m).setQuench { (s.pinAt m).quench with pin := l, pinTicks := 0 } := by
  have taken := settleLine_to opposite pin level ticks
  obtain ⟨levelAfter, pinAfter, -⟩ := judgeLine_line (s.setQuench { s.quench with level := m })
  rw [pinAt_same pin, pinAt_change (pin.symm ▸ opposite), taken]
  exact ⟨levelAfter, pinAfter.trans pin, rfl⟩

end

/-- Settles O8: the level taken is judged by line enable and line mode, and the pin decides when it is taken. -/
theorem quenchLineMovesLineCause : Obligations.QuenchLineMovesLineCause := by
  refine ⟨fun s pin ticks level enabled => ⟨s.pinAt .asserted, rfl, ?_⟩,
    fun s pin ticks level disabled => ⟨s.pinAt .asserted, rfl, ?_⟩,
    fun s pin ticks level => ⟨s.pinAt .deasserted, rfl, ?_⟩,
    fun s => ⟨fun pin rests => ?_, fun pin rests => ?_, fun pin ticks level => ?_,
      fun pin ticks level => ?_, fun pin rests => ?_, fun pin rests => ?_, fun pin level ticks => ?_,
      fun pin level ticks => ?_⟩⟩
  · rw [pinAt_same pin, settleLine_to (by decide) pin level ticks,
      judgeLine_active (s := s.setQuench { s.quench with level := .asserted }) rfl enabled]
    obtain ⟨-, lineMode, releaseMode, levelAfter⟩ :=
      addCause_modes (s.setQuench { s.quench with level := .asserted }) .line
    refine ⟨levelAfter, addCause_causes _ _, fun law => ?_, lineMode, releaseMode⟩
    have law : QuenchLaw (s.setQuench { s.quench with level := .asserted }).quench :=
      law.congr rfl rfl rfl rfl rfl
    rw [addCause_quench_of_law .line law]
    exact ⟨rfl, rfl, rfl, rfl⟩
  · have inactive : (s.setQuench { s.quench with level := .asserted }).quench.lineActive = false := by
      simp [Quench.lineActive, disabled]
    rw [pinAt_same pin, settleLine_to (by decide) pin level ticks]
    obtain ⟨levelAfter, -, -⟩ := judgeLine_line (s.setQuench { s.quench with level := .asserted })
    exact ⟨levelAfter, judgeLine_auto_causes inactive, judgeLine_latched inactive⟩
  · have inactive : (s.setQuench { s.quench with level := .deasserted }).quench.lineActive = false := rfl
    rw [pinAt_same pin, settleLine_to (by decide) pin level ticks]
    obtain ⟨levelAfter, -, -⟩ := judgeLine_line (s.setQuench { s.quench with level := .deasserted })
    refine ⟨levelAfter, judgeLine_auto_causes inactive, fun latched => ?_⟩
    rw [judgeLine_latched inactive latched]
    exact ⟨rfl, rfl, rfl⟩
  · exact congrArg Host.Outcome.next (pinAt_starts_count (by decide) pin rests)
  · exact congrArg Host.Outcome.next (pinAt_starts_count (by decide) pin rests)
  · obtain ⟨levelAfter, pinAfter, first⟩ := pinAt_takes_first (l := .asserted) (by decide) pin ticks level
    exact ⟨_, rfl, levelAfter, pinAfter, congrArg Host.Outcome.next first⟩
  · obtain ⟨levelAfter, pinAfter, first⟩ := pinAt_takes_first (l := .deasserted) (by decide) pin ticks level
    exact ⟨_, rfl, levelAfter, pinAfter, congrArg Host.Outcome.next first⟩
  · exact congrArg Host.Outcome.next (pinAt_rests pin rests)
  · exact congrArg Host.Outcome.next (pinAt_rests pin rests)
  · exact (mem_dueNow_iff s _).2 (.inl (.lineAsserted
      ((lineDue_to_iff s.quench (m := .deasserted) (by decide)).2 ⟨pin, level, ticks⟩)))
  · exact (mem_dueNow_iff s _).2 (.inl (.lineDeasserted
      ((lineDue_to_iff s.quench (m := .asserted) (by decide)).2 ⟨pin, level, ticks⟩)))

/-! ### QUENCH and CLEAR-QUENCH (R95, R96) -/

/-- The items of a counted list of bytes behind a head, in the request's argument bytes (R180). -/
theorem counted_byte {r : Request} {head n k : Nat} (carries : Carries r (head + n)) (inside : k < n) :
    ((r.args.drop head).take n)[k]? = some (byteAt r.args (head + k)) := by
  have held : head + k < r.args.length := by rw [args_length carries]; omega
  rw [List.getElem?_take_of_lt inside, List.getElem?_drop, List.getElem?_eq_getElem held, byteAt,
    List.getD_eq_getElem _ _ held]

theorem counted_length {r : Request} {head n : Nat} (carries : Carries r (head + n)) :
    ((r.args.drop head).take n).length = n := by
  simp [args_length carries]

/-- A byte is read as the cause whose code it carries (Table 12-4). -/
theorem readCause_iff_code (b : Byte) (c : Cause) : readCause b = some c ↔ b.toNat = causeCode c := by
  have small : causeCode c < 2 ^ 8 := by cases c <;> decide
  rw [readCause_eq_some, ← BitVec.toNat_inj, BitVec.toNat_ofNat, Nat.mod_eq_of_lt small]

theorem namedCauses_iff {r : Request} (carries : Carries r (1 + r.arg 0)) (cs : List Cause) :
    namedCauses r = some cs ↔ cs.length = r.arg 0 ∧
      ∀ (k : Nat) (c : Cause), cs[k]? = some c → r.arg (1 + k) = causeCode c := by
  rw [namedCauses, readAll_eq_some, counted_length carries]
  refine and_congr_right fun length => forall_congr' fun k => ?_
  constructor
  · intro each c named
    have inside : k < r.arg 0 := length ▸ (List.getElem?_eq_some_iff.1 named).1
    exact (readCause_iff_code _ c).1 (each _ c (counted_byte carries inside) named)
  · intro each x c byte named
    have inside : k < r.arg 0 := length ▸ (List.getElem?_eq_some_iff.1 named).1
    obtain rfl := Option.some.inj ((counted_byte carries inside).symm.trans byte)
    exact (readCause_iff_code _ c).2 (each c named)

theorem formCounted_of_carries {r : Request} {n : Nat} (carries : Carries r (1 + n)) (count : r.arg 0 = n) :
    formCounted 1 0 1 r.args = true := by
  have length : r.args.length = 1 + n := args_length carries
  have byte : (byteAt r.args 0).toNat = n := count
  simp [formCounted, length, byte]

/-- CLEAR-QUENCH of the owner with a list of causes is answered by the quench unit. -/
theorem exec_clearQuench_of_owner {s : State} {r : Request} {rest : List Request} {cs : List Cause}
    {reply : Reply} (taken : Takes s .clearQuench r rest) (carries : Carries r (1 + r.arg 0))
    (owns : s.ownsGate r = true) (named : namedCauses r = some cs)
    (answer : (s.entered rest).clearCauses cs = reply) :
    exec .clearQuench s = .next (reply.after.conclude r reply.status reply.result false) := by
  have effect : clearQuenchRow.effect r (s.entered rest) = reply := by
    show clearQuenchEffect r (s.entered rest) = reply
    rw [clearQuenchEffect, named]
    exact answer
  have ranges : clearQuenchRow.ranges r = true := by
    show (namedCauses r).isSome = true
    rw [named]
    rfl
  refine congrArg Host.Outcome.next ?_
  rw [execute_passes (row := clearQuenchRow) taken
    (bodyOk_of_carries carries (formCounted_of_carries carries rfl)) (fun _ => owns) ranges, effect]
  rfl

theorem exec_quench_of_owner {s : State} {r : Request} {rest : List Request}
    (taken : Takes s .quench r rest) (carries : Carries r 0) (owns : s.ownsGate r = true) :
    exec .quench s = .next (((s.entered rest).addCause .command).conclude r .ok
      ((s.entered rest).addCause .command).quenchResult false) :=
  congrArg _ (execute_of_owner (row := quenchRow) taken carries owns rfl rfl rfl rfl)

section
variable {s : State} {cs : List Cause}

theorem clearCauses_active (level : s.quench.level = .asserted) (enabled : s.quench.lineEnable = true)
    (named : Cause.line ∈ cs) :
    s.clearCauses cs =
      { status := .stillActive
        result := (s.removeCauses (cs.filter (fun c => decide (c ≠ .line)))).quenchResult
        after := s.removeCauses (cs.filter (fun c => decide (c ≠ .line))) } :=
  if_pos (by simp [Quench.lineActive, level, enabled, named])

theorem clearCauses_all
    (goes : ¬ (s.quench.level = .asserted ∧ s.quench.lineEnable = true ∧ Cause.line ∈ cs)) :
    s.clearCauses cs = .ok (s.removeCauses cs) (s.removeCauses cs).quenchResult :=
  if_neg (by simpa [Quench.lineActive, and_assoc] using goes)

/-- Where LINE stays present, the other named causes go and nothing else changes. -/
theorem removeCauses_but_line (present : s.quench.causes.line = true) :
    s.removeCauses (cs.filter (fun c => decide (c ≠ .line))) = s.setQuench { s.quench with causes :=
      { line := true
        command := s.quench.causes.command && decide (Cause.command ∉ cs)
        stream := s.quench.causes.stream && decide (Cause.stream ∉ cs)
        mark := s.quench.causes.mark && decide (Cause.mark ∉ cs)
        startup := s.quench.causes.startup && decide (Cause.startup ∉ cs)
        restart := s.quench.causes.restart && decide (Cause.restart ∉ cs) } } := by
  have left : s.quench.causes.removeAll (cs.filter (fun c => decide (c ≠ .line))) =
      { line := true
        command := s.quench.causes.command && decide (Cause.command ∉ cs)
        stream := s.quench.causes.stream && decide (Cause.stream ∉ cs)
        mark := s.quench.causes.mark && decide (Cause.mark ∉ cs)
        startup := s.quench.causes.startup && decide (Cause.startup ∉ cs)
        restart := s.quench.causes.restart && decide (Cause.restart ∉ cs) } := by
    rw [removeAll_eq]
    simp [List.mem_filter, present]
  rw [removeCauses_left (by rw [left]; rfl), left]

/-- While a cause stays, nothing but the set changes. -/
theorem removeCauses_stays {c : Cause} (present : s.quench.causes.has c = true) (stays : c ∉ cs) :
    s.removeCauses cs = s.setQuench { s.quench with causes := (s.removeCauses cs).quench.causes } := by
  have has : (s.quench.causes.removeAll cs).has c = true := by simp [removeAll_has, present, stays]
  rw [removeCauses_causes]
  exact removeCauses_left (causeSet_not_empty has)

end

/-- Settles O51: both requests of the owner are answered by the quench unit, and the named causes are read from
the list bytes. -/
theorem quenchAndClearQuench : Obligations.QuenchAndClearQuench := by
  refine ⟨fun s r rest owns => ⟨fun taken carries => ?_, fun cs taken carries named =>
    ⟨fun ⟨level, enabled, line⟩ => ?_, fun goes => ?_⟩⟩, fun r cs carries => namedCauses_iff carries cs⟩
  · exact ⟨_, rfl, exec_quench_of_owner taken carries owns⟩
  · have answer := exec_clearQuench_of_owner taken carries owns named
      (clearCauses_active (s := s.entered rest) level enabled line)
    exact ⟨_, rfl, removeCauses_but_line (s := s.entered rest), answer⟩
  · have answer := exec_clearQuench_of_owner taken carries owns named
      (clearCauses_all (s := s.entered rest) goes)
    refine ⟨_, rfl, fun c => ?_, fun c => removeCauses_stays (s := s.entered rest), answer⟩
    rw [removeCauses_causes]
    exact removeAll_has _ cs c

end Sys2Proof.Machine
end

section
/-! SUPPORT. Quench at the transmit start: what the arbiter of a quenched port can put on the wire. -/

namespace Sys2Proof.Machine

/-- What quench holds back at a port of the quench egress set: a REAL or a background frame (R103, R104). -/
def Sent.heldByQuench : Sent → Bool
  | .real _ => true
  | .background _ => true
  | .mark _ => false
  | .substitute _ => false
  | .response _ => false
  | .notification => false

theorem Sent.heldByQuench_false {x : Sent} (free : x.heldByQuench = false) :
    (∀ ref, x ≠ .real ref) ∧ (∀ ref, x ≠ .background ref) := by
  constructor <;> rintro ref rfl <;> cases free

/-- A port is quenched, and its wire carries nothing that quench holds back. -/
structure QuenchedWire (s : State) (p : Port) : Prop where
  quenched : s.quenchedPort p = true
  free : ∀ x, (s.egress.get p).transmitter = .sending x → x.sent.heldByQuench = false

section
variable {s : State} {p : Port}

/-- A change of the egress unit that leaves what is on the wire. -/
theorem QuenchedWire.updateEgress (h : QuenchedWire s p) {f : Egress → Egress}
    (wire : ∀ e x, (f e).transmitter = .sending x → e.transmitter = .sending x) :
    QuenchedWire (s.updateEgress p f) p where
  quenched := h.quenched
  free x sending := by
    rw [updateEgress_egress, perPort_get_set_same] at sending
    exact h.free x (wire _ x sending)

/-- The port begins to send what quench does not hold back. -/
theorem QuenchedWire.beginSending (h : QuenchedWire s p) {x : Sent} (free : x.heldByQuench = false)
    (f : List Byte) (b : Option Bool) : QuenchedWire (s.beginSending p x f b) p where
  quenched := h.quenched
  free y sending := by
    rw [State.beginSending, updateEgress_egress, perPort_get_set_same] at sending
    cases sending
    exact free

theorem QuenchedWire.rest (h : QuenchedWire s p) : QuenchedWire (s.rest p) p :=
  h.updateEgress (fun e x sending => by dsimp only at sending; split at sending <;> cases sending)

/-- A substitute starts or is suppressed (R83). -/
theorem QuenchedWire.startSubstitute (h : QuenchedWire s p) (i : StreamIx) (c : Phase) :
    QuenchedWire (s.startSubstitute p i c).1 p := by
  unfold State.startSubstitute
  cases s.substituteFrame i c with
  | some frame => exact h.beginSending (x := .substitute i) rfl _ _
  | none => exact ⟨h.quenched, h.free⟩

/-- In the place of a REAL entry a quenched port starts a substitute (R103). -/
theorem QuenchedWire.startCyclic (h : QuenchedWire s p) (e : CyclicEntry) :
    QuenchedWire (s.startCyclic p e).1 p := by
  cases e with
  | real i c ref =>
    rw [State.startCyclic, if_pos h.quenched]
    exact h.startSubstitute i c
  | substitute i c => exact h.startSubstitute i c
  | mark ref => exact h.beginSending (x := .mark ref) rfl _ _

/-- A quenched port discards a background frame (R104). -/
theorem QuenchedWire.startBackground (h : QuenchedWire s p) (ref : Nat) :
    QuenchedWire (s.startBackground p ref).1 p := by
  rw [State.startBackground, if_pos h.quenched]
  exact ⟨h.quenched, h.free⟩

theorem QuenchedWire.selectMgmt (h : QuenchedWire s p) {t : State} (selected : s.selectMgmt p = some t) :
    QuenchedWire t p := by
  unfold State.selectMgmt at selected
  split at selected
  · next m rest _ =>
    split at selected
    · obtain rfl := Option.some.inj selected
      have dequeued : QuenchedWire (s.updateEgress p (fun e => { e with mgmt := rest })) p :=
        h.updateEgress (fun _ _ sending => sending)
      exact dequeued.beginSending (x := m.sent) (by cases m <;> rfl) _ _
    · cases selected
  · cases selected

/-- A suppressed or discarded entry starts nothing and the arbiter selects again, so what ends the rounds is one
of the starts above, or rest (R146). -/
theorem QuenchedWire.selectRounds (h : QuenchedWire s p) (n : Nat) :
    QuenchedWire (State.selectRounds p n s) p := by
  induction n generalizing s with
  | zero => exact h.rest
  | succ n ih =>
    rw [selectRounds_succ]
    cases (s.egress.get p).cyclic with
    | cons e rest =>
      have dequeued : QuenchedWire (s.updateEgress p (fun x => { x with cyclic := rest })) p :=
        h.updateEgress (fun _ _ sending => sending)
      have started := dequeued.startCyclic e
      dsimp only
      split
      · exact started
      · exact ih started
    | nil =>
      cases selected : s.selectMgmt p with
      | some t => exact h.selectMgmt selected
      | none =>
        cases s.fittingBackground p with
        | none => exact h.rest
        | some entry =>
          have dequeued : QuenchedWire (s.updateEgress p (fun x => { x with background := entry.2 })) p :=
            h.updateEgress (fun _ _ sending => sending)
          have started := dequeued.startBackground entry.1
          dsimp only
          split
          · exact started
          · exact ih started

theorem QuenchedWire.select (h : QuenchedWire s p) : QuenchedWire (s.select p) p :=
  (h.updateEgress (f := fun e => { e with selectDue := false }) (fun _ _ sending => sending)).selectRounds _

end

/-- Nothing is on the wire of a port that is not sending. -/
theorem not_sending {e : Egress} (quiet : e.isSending = false) (x : Transmission) :
    e.transmitter ≠ .sending x := by
  intro sending
  rw [Egress.isSending, sending] at quiet
  cases quiet

/-- Settles O30: a selection leaves on the wire of a quenched port only what quench does not hold back. -/
theorem noRealStartsWhileQuenched : Obligations.NoRealStartsWhileQuenched := by
  intro s t p x set member quiet answer sending
  have start : QuenchedWire s p :=
    ⟨Bool.and_eq_true_iff.2 ⟨set, member⟩, fun y onWire => absurd onWire (not_sending quiet y)⟩
  obtain rfl : (if (s.egress.get p).maySelect then (s.select p).releaseFrames else s) = t :=
    Host.Outcome.next.inj answer
  split at sending
  · exact Sent.heldByQuench_false (start.select.free x sending)
  · exact absurd sending (not_sending quiet x)

end Sys2Proof.Machine
end

section
/-! SUPPORT. The laws at power-up. -/

namespace Sys2Proof.Machine

theorem reset_port (p : Port) :
    State.reset.ports.get p = PortUnit.cold .down ∧ State.reset.egress.get p = Egress.cold .down := by
  cases p <;> exact ⟨rfl, rfl⟩

theorem capacityLaw_reset : CapacityLaw State.reset where
  cyclic p := by rw [(reset_port p).2]; exact Nat.zero_le _
  mgmt p := by rw [(reset_port p).2]; exact Nat.zero_le _
  background p := by rw [(reset_port p).2]; exact Nat.zero_le _
  intake := Nat.zero_le _
  records := Nat.zero_le _
  cache := Nat.zero_le _
  addresses := List.nodup_nil

/-- Every port is DOWN, and nothing is queued, sent or in reception. -/
theorem linkLaw_reset : LinkLaw State.reset where
  transmitter p := by
    obtain ⟨port, egress⟩ := reset_port p
    rw [State.link, port, egress]
    exact iff_of_true rfl rfl
  cyclic p _ := by rw [(reset_port p).2]; rfl
  mgmt p _ := by rw [(reset_port p).2]; rfl
  background p _ := by rw [(reset_port p).2]; rfl
  reception p _ := by rw [(reset_port p).1]; rfl

/-- No frame is held, and no port refers to one. -/
theorem referenceLaw_reset : ReferenceLaw State.reset where
  named := nofun
  distinct := List.nodup_nil
  held p ref refers := by
    rw [(reset_port p).2] at refers
    cases refers

/-- Nothing is on a wire, so nothing is to be cut off. -/
theorem guardLaw_reset : GuardLaw State.reset := by
  intro p due
  obtain ⟨-, x, sending, -⟩ := (cutDue_iff _ p).1 due
  rw [(reset_port p).2] at sending
  cases sending

/-- Settles O7: the two states have the same blocks, and each law is read off them. -/
theorem powerUpIsAColdResetAndLawful : Obligations.PowerUpIsAColdResetAndLawful :=
  ⟨rfl, capacityLaw_reset, quenchLaw_cold .deasserted, streamLaw_reset.sets, streamLaw_reset, linkLaw_reset,
    referenceLaw_reset, guardLaw_reset⟩

end Sys2Proof.Machine
end

section
/-! SUPPORT. The law of the valid sets: what it reads, the changes that leave it, and the staging controller's
own operations. -/

namespace Sys2Proof.Machine

/-! ### What the law reads -/

/-- The changes that leave the staging controller and both banks. -/
def Footprint.besideSets : Footprint :=
  { Footprint.wide with strap := true, staging := false, banks := false }

section
variable {s t : State}

theorem ValidSetLaw.congr (h : ValidSetLaw s) (staging : t.staging = s.staging)
    (banks : t.bankA = s.bankA ∧ t.bankB = s.bankB) : ValidSetLaw t := by
  have active : t.active = s.active := by simp only [State.active, State.bank, staging, banks]
  have staged : t.staged = s.staged := by simp only [State.staged, State.bank, staging, banks]
  exact ⟨staging ▸ h.staging, active ▸ h.active, by rw [staging, staged]; exact h.staged⟩

/-- A change beside the staging controller and the banks keeps the law. -/
theorem ValidSetLaw.beside {f : Footprint} (h : ValidSetLaw s) (w : Within f s t)
    (le : f.le .besideSets = true) : ValidSetLaw t :=
  h.congr ((w.mono le).staging rfl) ((w.mono le).banks rfl)

/-- A command whose occasion may not hold (log 2). -/
theorem ValidSetLaw.ite {c : Prop} [Decidable c] (h : ValidSetLaw s) (taken : c → ValidSetLaw t) :
    ValidSetLaw (if c then t else s) := by
  split
  · next hc => exact taken hc
  · exact h

/-- Two effects of one moment, in whichever order they come (log 14). -/
theorem ValidSetLaw.inEitherOrder (h : ValidSetLaw s) (both : Bool) {f g : State → State}
    (hf : ∀ u, ValidSetLaw u → ValidSetLaw (f u)) (hg : ∀ u, ValidSetLaw u → ValidSetLaw (g u)) :
    ValidSetLaw (inEitherOrder both f g s) := by
  have drawn : ValidSetLaw (s.draw 1) := h.beside (draw_within s 1) rfl
  unfold Machine.inEitherOrder
  split
  · split
    · exact hg _ (hf _ drawn)
    · exact hf _ (hg _ drawn)
  · exact hg _ (hf _ h)

/-! ### The staging controller -/

/-- A change of the staging record that leaves the roles of the banks. -/
theorem ValidSetLaw.setStaging (h : ValidSetLaw s) {g : Staging} (law : StagingLaw g)
    (staged : g.state = .pending → validate s.staged = none) (roles : g.active = s.staging.active) :
    ValidSetLaw (s.setStaging g) where
  staging := law
  active := by rw [State.active, setStaging_staging, roles]; exact h.active
  staged := by rw [State.staged, setStaging_staging, roles]; exact staged

/-- A write into the staged set, outside PENDING. -/
theorem ValidSetLaw.setStaged (h : ValidSetLaw s) (hs : s.staging.state ≠ .pending) (b : Bank) :
    ValidSetLaw (s.setStaged b) where
  staging := by rw [setStaged_staging]; exact h.staging
  active := by rw [setStaged_active]; exact h.active
  staged := by rw [setStaged_staging]; exact fun hc => absurd hc hs

theorem ValidSetLaw.markDirty (h : ValidSetLaw s) (test : StreamIx → Bool) : ValidSetLaw (s.markDirty test) :=
  h.setStaging ⟨h.staging.commit, h.staging.reason⟩ h.staged rfl

/-- A restage begins, or goes on, with the active set as it is: no commit is pending in it. -/
theorem validSetLaw_beginRestage (commit : s.staging.commit = none)
    (reason : s.staging.state = .restaging → s.staging.reason.isSome = true)
    (valid : validate s.active = none) (why : RestageReason) : ValidSetLaw (s.beginRestage why) := by
  by_cases hs : s.staging.state = .restaging
  · rw [beginRestage_restaging hs]
    exact ⟨⟨by simp [commit, hs], by simp [reason hs, hs]⟩, valid, by simp [hs]⟩
  · rw [beginRestage_starts hs]
    exact ⟨⟨by simp [commit], by simp⟩, valid, by simp⟩

theorem ValidSetLaw.beginRestage (h : ValidSetLaw s) (idle : s.staging.state ≠ .pending)
    (why : RestageReason) : ValidSetLaw (s.beginRestage why) :=
  validSetLaw_beginRestage (h.staging.no_commit idle) h.staging.reason.2 h.active why

/-- After an apply the active set is the staged set of before, which has passed every check (R120). -/
theorem validSetLaw_applyCommit (hs : s.staging.state ≠ .restaging) (valid : validate s.staged = none) :
    ValidSetLaw s.applyCommit := by
  rw [applyCommit_steps]
  refine (validSetLaw_beginRestage ?_ ?_ ?_ _).beside (callSelections_within _) rfl
  · rw [raise_staging]; rfl
  · rw [raise_staging]; exact fun hc => absurd hc hs
  · rw [raise_active]; exact valid

theorem ValidSetLaw.withdrawCommit (h : ValidSetLaw s) (pending : s.staging.state = .pending) (code : Half) :
    ValidSetLaw (s.withdrawCommit code) := by
  have reason := h.staging.no_reason (by simp [pending])
  have withdrawn : ValidSetLaw (s.setStaging { s.staging with commit := none, state := .ready }) :=
    h.setStaging ⟨by simp, by simp [reason]⟩ (fun hc => nomatch hc) rfl
  exact (withdrawn.beside (raise_within _ _) rfl).beside (callSelections_within _) rfl

theorem withdrawCommit_state (s : State) (code : Half) : (s.withdrawCommit code).staging.state = .ready := by
  rw [State.withdrawCommit, callSelections_staging, raise_staging]
  rfl

/-- A commit is made pending on a valid staged set (R117). -/
theorem ValidSetLaw.makePending (h : ValidSetLaw s) (ready : s.staging.state = .ready)
    (valid : validate s.staged = none) (target : CommitTarget) : ValidSetLaw (s.makePending target) := by
  have reason := h.staging.no_reason (by simp [ready])
  exact (h.setStaging (g := { s.staging with
      state := .pending
      commit := some { target := target, owner := s.agent.owner.map (fun o => o.holder)
                       requestedAt := s.timer.cycleCount } })
    ⟨by simp, by simp [reason]⟩ (fun _ => valid) rfl).beside (callSelections_within _) rfl

/-- A cycle start that meets the target of a pending commit applies it (R119). -/
theorem ValidSetLaw.stagingCycleStart (h : ValidSetLaw s) : ValidSetLaw s.stagingCycleStart :=
  h.ite (fun ⟨pending, _⟩ => validSetLaw_applyCommit (by simp [pending]) (h.staged pending))

/-- A stop of the timer applies or withdraws a pending commit, by its target (R125). -/
theorem ValidSetLaw.stagingTimerStop (h : ValidSetLaw s) : ValidSetLaw s.stagingTimerStop := by
  cases commit : s.staging.commit with
  | none => rw [stagingTimerStop_idle commit]; exact h
  | some c =>
    have pending : s.staging.state = .pending := h.staging.commit.1 (by simp [commit])
    rw [stagingTimerStop_pending pending commit]
    cases c.target with
    | nextStart => exact validSetLaw_applyCommit (by simp [pending]) (h.staged pending)
    | atCycle n => exact h.withdrawCommit pending _

/-- A lease expiry begins a restage in READY, and in PENDING withdraws its owner's commit first (R125). -/
theorem ValidSetLaw.stagingLeaseExpiry (h : ValidSetLaw s) (a : StationAddr) :
    ValidSetLaw (s.stagingLeaseExpiry a) := by
  unfold State.stagingLeaseExpiry
  cases hs : s.staging.state with
  | restaging => exact h
  | ready => exact h.beginRestage (by simp [hs]) .lease
  | pending =>
    cases s.staging.commit with
    | none => exact h
    | some c =>
      exact h.ite (fun _ =>
        (h.withdrawCommit hs _).beginRestage (by rw [withdrawCommit_state]; decide) .lease)

theorem ValidSetLaw.stagingYield (h : ValidSetLaw s) : ValidSetLaw s.stagingYield := by
  unfold State.stagingYield
  cases commit : s.staging.commit with
  | none => exact h
  | some c =>
    have pending : s.staging.state = .pending := h.staging.commit.1 (by simp [commit])
    exact h.setStaging ⟨by simp [pending], h.staging.reason⟩ h.staged rfl

/-- The staging controller and the sets after a restage has completed (R123). -/
theorem completeRestage_sets (s : State) :
    s.completeRestage.staging = { s.staging with state := .ready, restageEnd := none, reason := none } ∧
    s.completeRestage.bankA = (s.setStaged s.active).bankA ∧
    s.completeRestage.bankB = (s.setStaged s.active).bankB := by
  have w := raiseStageReady_within ((s.setStaged s.active).setStaging
    { s.staging with state := .ready, restageEnd := none })
  obtain ⟨bankA, bankB⟩ := w.banks rfl
  refine ⟨?_, bankA, bankB⟩
  rw [State.completeRestage, setStaging_staging, w.staging rfl]
  rfl

theorem ValidSetLaw.completeRestage (h : ValidSetLaw s) (restaging : s.staging.state = .restaging) :
    ValidSetLaw s.completeRestage := by
  have commit := h.staging.no_commit (by simp [restaging])
  obtain ⟨staging, banks⟩ := completeRestage_sets s
  refine ((h.setStaged (by simp [restaging]) s.active).setStaging (g := { s.staging with
    state := .ready, restageEnd := none, reason := none }) ⟨by simp [commit], by simp⟩
    (fun hc => nomatch hc) (by rw [setStaged_staging])).congr staging banks

/-! ### The resets -/

/-- The warm restart drops a pending commit and begins a restage (R126). -/
theorem ValidSetLaw.warmRestart (h : ValidSetLaw s) : ValidSetLaw s.warmRestart := by
  have reason : s.restartBlocks.staging.state = .restaging →
      s.restartBlocks.staging.reason.isSome = true := by
    show s.staging.restarted.state = _ → s.staging.reason.isSome = true
    rw [h.staging.reason]
    cases hs : s.staging.state <;> simp [Staging.restarted, hs]
  have base : ValidSetLaw s.restartBase :=
    (validSetLaw_beginRestage (s := s.restartBlocks) rfl reason h.active .restart).beside
      (releaseFrames_within _) rfl
  exact base.congr (warmRestart_keeps State.staging raise_staging draw_staging s)
    ⟨warmRestart_keeps State.bankA raise_bankA draw_bankA s,
      warmRestart_keeps State.bankB raise_bankB draw_bankB s⟩

theorem ValidSetLaw.settleRestart (h : ValidSetLaw s) : ValidSetLaw s.settleRestart := by
  unfold State.settleRestart
  cases s.agent.restartWait with
  | none => exact h
  | some w => exact h.ite (fun _ => h.warmRestart)

end

end Sys2Proof.Machine
end

section
/-! SUPPORT. The law of the valid sets through the timer, the arrival of a frame and the requests: every command
keeps it. -/

namespace Sys2Proof.Machine

/-! ### The timer -/

section
variable {s : State}

theorem ValidSetLaw.handCycleStart (h : ValidSetLaw s) (first : Bool) : ValidSetLaw (s.handCycleStart first) :=
  h.stagingCycleStart.beside (handCycleStart_after_staging s first) rfl

theorem ValidSetLaw.periodMatch (h : ValidSetLaw s) : ValidSetLaw s.periodMatch := by
  rw [periodMatch_eq]
  exact (h.beside (counted_within s) rfl).handCycleStart false

theorem ValidSetLaw.startOnMark (h : ValidSetLaw s) (len : Nat) : ValidSetLaw (s.startOnMark len) := by
  have begun := (h.beside (setTimer_within s { s.timer with
    state := .running, cycleCount := 0#32, counter := wireTime len }) rfl).handCycleStart true
  unfold State.startOnMark
  dsimp only
  split
  · exact (begun.beside (setTimer_within _ _) rfl).beside (onTimeMark_within _) rfl
  · exact begun.beside (setTimer_within _ _) rfl

/-- Of the marks only the one that starts an ARMED timer is a cycle start (R67). -/
theorem ValidSetLaw.timerTakesMark (h : ValidSetLaw s) (r : StartRecord) (len : Nat) :
    ValidSetLaw (s.timerTakesMark r len) := by
  cases state : s.timer.state with
  | stopped => rw [timerTakesMark_stopped state]; exact h
  | armed => rw [timerTakesMark_armed state]; exact h.ite (fun _ => h.startOnMark len)
  | running => rw [timerTakesMark_running state]; exact h.beside (judgeMark_within s r len) rfl

theorem ValidSetLaw.stopTimer (h : ValidSetLaw s) : ValidSetLaw s.stopTimer := by
  have halted : ValidSetLaw s.halted := h.congr rfl ⟨rfl, rfl⟩
  by_cases running : s.timer.state = .running
  · rw [stopTimer_running running]
    exact halted.inEitherOrder _ (fun u hu => hu.stagingTimerStop)
      (fun u hu => hu.beside (quenchTimerStop_within u) rfl)
  · rw [stopTimer_not_running running]
    exact h.beside (setTimer_within s _) rfl

/-! ### Frames, links and transmissions -/

theorem streamFrame_beside_sets (s : State) (i : StreamIx) (p : Port) (r : StartRecord) (f : List Byte) :
    Within .besideSets s (s.streamFrame i p r f) := by
  unfold State.streamFrame
  cases s.admission i p r with
  | misplaced code => exact (countStream_within s i _).comp (raise_within _ _) rfl rfl
  | surplus => exact (countStream_within s i _).comp (raise_within _ _) rfl rfl
  | admitted =>
    exact ((updateStream_within s i _).comp (holdFrame_within _ p f) (k := .besideSets) rfl rfl).trans
      ((admittedFrame_within _ i p _ _).mono rfl)

theorem streamData_beside_sets (s : State) (p : Port) (r : StartRecord) (f : List Byte) :
    Within .besideSets s (s.streamData p r f) := by
  unfold State.streamData
  cases s.lookupTag (frameTag f) with
  | some i => exact streamFrame_beside_sets s i p r f
  | none => exact (countPort_within s p _).comp (raise_within _ _) rfl rfl

theorem managementRequest_beside_sets (s : State) (p : Port) (f : List Byte) :
    Within .besideSets s (s.managementRequest p f) := by
  unfold State.managementRequest
  split
  · exact (countPort_within s p _).comp (intakeRequest_within _ _) rfl rfl
  · exact (countPort_within s p _).comp (raise_within _ _) rfl rfl

theorem backgroundFrame_beside_sets (s : State) (p : Port) (f : List Byte) :
    Within .besideSets s (s.backgroundFrame p f) := by
  unfold State.backgroundFrame
  dsimp only
  split
  · exact (countPort_within s p _).comp (countPort_within _ p _) rfl rfl
  · exact ((countPort_within s p _).comp (holdFrame_within _ p f) (k := .besideSets) rfl rfl).trans
      ((Within.foldl _ (fun t q => offerBackground_within t _ q) _ _).mono rfl)

theorem ValidSetLaw.cycleMark (h : ValidSetLaw s) (p : Port) (r : StartRecord) (f : List Byte) :
    ValidSetLaw (s.cycleMark p r f) :=
  (((h.beside (countPort_within s p _) rfl).beside (holdFrame_within _ p f) rfl).beside
    (offerCyclicTo_within _ _ _) rfl).timerTakesMark r f.length

/-- Of the paths of a good frame only that of a mark can reach the staging controller (R134). -/
theorem ValidSetLaw.goodFrame (h : ValidSetLaw s) (p : Port) (r : StartRecord) (f : List Byte) :
    ValidSetLaw (s.goodFrame p r f) := by
  unfold State.goodFrame
  cases s.classify p f with
  | malformed => exact h.beside (countPort_within s p _) rfl
  | request => exact h.beside (managementRequest_beside_sets s p f) rfl
  | mark => exact h.cycleMark p r f
  | streamData => exact h.beside (streamData_beside_sets s p r f) rfl
  | background => exact h.beside (backgroundFrame_beside_sets s p f) rfl

theorem ValidSetLaw.receiveFrame (h : ValidSetLaw s) (p : Port) (r : StartRecord) (f : List Byte) :
    ValidSetLaw (s.receiveFrame p r f) := by
  unfold State.receiveFrame
  split
  · exact h.beside (countPort_within s p _) rfl
  · split
    · exact h.beside (countPort_within s p _) rfl
    · split
      · exact h.beside (countPort_within s p _) rfl
      · exact (h.beside (countPort_within s p _) rfl).goodFrame p r f

/-- What follows when a frame has left reception. -/
theorem ValidSetLaw.afterReception (h : ValidSetLaw s) (before : State) (p : Port) (r : Option Reception) :
    ValidSetLaw (before.noteAdvanceEnd (before.endHolds s p r)).settleRestart.releaseFrames :=
  (((h.beside (endHolds_within before s p r) rfl).beside (noteAdvanceEnd_within before _) rfl).settleRestart).beside
    (releaseFrames_within _) rfl

theorem ValidSetLaw.frameArrives (h : ValidSetLaw s) (p : Port) (r : Reception) :
    ValidSetLaw (s.frameArrives p r) := by
  have cleared : ValidSetLaw (s.clearReception p) :=
    h.beside (updatePort_within s p (fun u => { u with reception := none })) rfl
  exact (cleared.receiveFrame p r.start r.frame).afterReception s p (some r)

theorem ValidSetLaw.linkDown (h : ValidSetLaw s) (p : Port) : ValidSetLaw (s.linkDown p) := by
  have lowered : ValidSetLaw (s.setLink p .down) :=
    h.beside (updatePort_within s p (fun u => { u with link := .down })) rfl
  exact (((lowered.beside (abortReception_within _ p) rfl).beside (flushDown_within _ p) rfl).beside
    (raise_within _ (occLink p .down)) rfl).afterReception s p _

/-- The completion of a transmission reaches the staging controller by a warm restart only (R177). -/
theorem ValidSetLaw.completeSent (h : ValidSetLaw s) (x : Sent) : ValidSetLaw (s.completeSent x) := by
  cases x with
  | substitute i => unfold State.completeSent; exact h.beside (countStream_within s i _) rfl
  | response isRestart =>
    cases isRestart with
    | true => exact h.warmRestart
    | false => exact h
  | real _ => exact h
  | mark _ => exact h
  | background _ => exact h
  | notification => exact h

theorem ValidSetLaw.completeTransmission (h : ValidSetLaw s) (p : Port) (t : Transmission) :
    ValidSetLaw (s.completeTransmission p t) :=
  (((h.beside (countPort_within s p _) rfl).beside (updateEgress_within _ p _) rfl).completeSent t.sent).beside
    (releaseFrames_within _) rfl

/-! ### The requests -/

/-- What the agent's execution of a request of a row comes to: an answer alone, or the row's effect on a state
that differs in the agent only, and its answer (R167). -/
theorem execute_cases (row : RequestRow) (s : State) :
    Within .answer s (row.execute s) ∨
    ∃ r t, Within { agent := true } s t ∧ Within .answer (row.effect r t).after (row.execute s) := by
  unfold RequestRow.execute State.agentExecutes
  split
  · next r rest _ _ =>
    have taken : Within { agent := true } s (s.tookRequest rest) := tookRequest_within s rest
    have counted := taken.trans (countExecuted_within _)
    have concluded (status : Status) (result : List Byte) (isRestart : Bool) :
        Within .answer s ((s.tookRequest rest).countExecuted.conclude r status result isRestart) :=
      counted.comp (conclude_within _ r status result isRestart) rfl rfl
    split
    · split
      · exact .inl (taken.comp (answerUnreadable_within _ _) rfl rfl)
      · split
        · exact .inl (taken.comp (answerFromCache_within _ _ _) rfl rfl)
        · unfold RequestRow.judge
          split
          · exact .inl (concluded _ _ _)
          · split
            · exact .inl (concluded _ _ _)
            · split
              · exact .inl (concluded _ _ _)
              · exact .inr ⟨r, _, counted, conclude_within _ _ _ _ _⟩
    · exact .inl (.refl _ s)
  · exact .inl (.refl _ s)
  · exact .inl (.refl _ s)

/-- The requests of a row keep the law when the row's effect does. -/
theorem ValidSetLaw.execute (h : ValidSetLaw s) {row : RequestRow}
    (keeps : ∀ r t, ValidSetLaw t → ValidSetLaw (row.effect r t).after) : ValidSetLaw (row.execute s) := by
  obtain answered | ⟨r, t, entered, concluded⟩ := execute_cases row s
  · exact h.beside answered rfl
  · exact (keeps r t (h.beside entered rfl)).beside concluded rfl

/-- So do the requests of a row whose effect leaves staging controller and banks. -/
theorem ValidSetLaw.execute_beside (h : ValidSetLaw s) {f : Footprint} {row : RequestRow}
    (effect : ∀ r t, Within f t (row.effect r t).after) (le : f.le .besideSets = true) :
    ValidSetLaw (row.execute s) :=
  h.execute (fun r t ht => ht.beside (effect r t) le)

/-- A staged write takes place in READY only (R112). -/
theorem ValidSetLaw.stagedWrite (h : ValidSetLaw s) {write : State → State}
    (keeps : s.staging.state ≠ .pending → ValidSetLaw (write s)) : ValidSetLaw (stagedWrite write s).after := by
  unfold Machine.stagedWrite
  cases hs : s.staging.state with
  | ready => exact keeps (by simp [hs])
  | pending => exact h
  | restaging => exact h

theorem ValidSetLaw.writeSettings (h : ValidSetLaw s) (hs : s.staging.state ≠ .pending) (r : Request) :
    ValidSetLaw (s.writeSettings r) := by
  unfold State.writeSettings
  split
  · exact h.setStaged hs _
  · exact h

theorem ValidSetLaw.writeWindows (h : ValidSetLaw s) (hs : s.staging.state ≠ .pending) (r : Request) :
    ValidSetLaw (s.writeWindows r) := by
  unfold State.writeWindows
  split
  · exact h.setStaged hs _
  · exact h

theorem ValidSetLaw.writeStreams (h : ValidSetLaw s) (hs : s.staging.state ≠ .pending) (r : Request) :
    ValidSetLaw (s.writeStreams r) := by
  unfold State.writeStreams
  split
  · exact (h.setStaged hs _).markDirty _
  · exact h

theorem ValidSetLaw.writeSteps (h : ValidSetLaw s) (hs : s.staging.state ≠ .pending) (r : Request) :
    ValidSetLaw (s.writeSteps r) := by
  unfold State.writeSteps
  split
  · exact (h.setStaged hs _).markDirty _
  · exact h

theorem ValidSetLaw.commitValid (h : ValidSetLaw s) (ready : s.staging.state = .ready)
    (valid : validate s.staged = none) (target : CommitTarget) : ValidSetLaw (s.commitValid target).after := by
  unfold State.commitValid
  split
  · cases target with
    | nextStart => exact h.makePending ready valid _
    | atCycle n =>
      dsimp only
      split
      · exact h.makePending ready valid _
      · exact h
  · exact validSetLaw_applyCommit (by simp [ready]) valid

/-- COMMIT reaches an apply or a pending commit with a set that has passed every check only (R115). -/
theorem ValidSetLaw.commitEffect (h : ValidSetLaw s) (target : CommitTarget) :
    ValidSetLaw (s.commitEffect target).after := by
  unfold State.commitEffect
  cases ready : s.staging.state with
  | pending => exact h
  | restaging => exact h
  | ready =>
    cases valid : validate s.staged with
    | none => exact h.commitValid ready valid target
    | some f => exact h.setStaging ⟨h.staging.commit, h.staging.reason⟩ h.staged rfl

theorem ValidSetLaw.withdrawEffect (h : ValidSetLaw s) (r : Request) :
    ValidSetLaw (withdrawEffect r s).after := by
  unfold Machine.withdrawEffect
  cases hs : s.staging.state with
  | pending => exact h.withdrawCommit hs _
  | ready => exact h
  | restaging => exact h

theorem ValidSetLaw.timerStart (h : ValidSetLaw s) {start : State → State} (keeps : ValidSetLaw (start s)) :
    ValidSetLaw (s.timerStart start).after := by
  unfold State.timerStart
  cases s.timer.state with
  | stopped => exact keeps
  | armed => exact h
  | running => exact h

theorem ValidSetLaw.timerStopEffect (h : ValidSetLaw s) (r : Request) :
    ValidSetLaw (timerStopEffect r s).after := by
  unfold Machine.timerStopEffect
  cases s.timer.state with
  | stopped => exact h
  | armed => exact h.stopTimer
  | running => exact h.stopTimer

/-- CLEAR-QUENCH and SET-LIVE act on the quench unit and the agent. -/
theorem clearQuenchEffect_within (r : Request) (s : State) :
    Within .quenching s (clearQuenchEffect r s).after := by
  unfold clearQuenchEffect State.clearCauses
  split
  · split <;> exact removeCauses_within s _
  · exact .refl _ s

theorem setLiveEffect_within (r : Request) (s : State) :
    Within { Footprint.quenching with agent := true } s (setLiveEffect r s).after := by
  unfold setLiveEffect
  split
  · exact (setAgent_within s _).comp (applyLive_within _ _ _ _) rfl rfl
  · exact .refl _ s

/-! ### Every command -/

theorem execWindowClose_within (w : Nat) (s : State) :
    ∃ t, execWindowClose w s = .next t ∧ Within .closing s t := by
  refine ⟨_, rfl, ?_⟩
  split
  · exact .ite (takeClose_within s _)
  · exact .refl _ s

theorem ValidSetLaw.execLinkDown (h : ValidSetLaw s) (p : Port) :
    ∃ t, execLinkDown p s = .next t ∧ ValidSetLaw t := by
  refine ⟨_, rfl, ?_⟩
  split
  · exact h.linkDown p
  · exact h

theorem ValidSetLaw.execStartOfFrame (h : ValidSetLaw s) (p : Port) (f : List Byte) :
    ∃ t, execStartOfFrame p f s = .next t ∧ ValidSetLaw t := by
  refine ⟨_, rfl, ?_⟩
  split
  · exact h.beside (updatePort_within s p _) rfl
  · exact h.ite (fun _ => (h.frameArrives p _).beside (updatePort_within _ p _) rfl)
  · exact h

theorem ValidSetLaw.execFrameArrival (h : ValidSetLaw s) (p : Port) :
    ∃ t, execFrameArrival p s = .next t ∧ ValidSetLaw t := by
  refine ⟨_, rfl, ?_⟩
  split
  · exact h.ite (fun _ => h.frameArrives p _)
  · exact h

theorem ValidSetLaw.execTransmitComplete (h : ValidSetLaw s) (p : Port) :
    ∃ t, execTransmitComplete p s = .next t ∧ ValidSetLaw t := by
  refine ⟨_, rfl, ?_⟩
  split
  · exact h.ite (fun _ => h.completeTransmission p _)
  · exact h
  · exact h
  · exact h

theorem ValidSetLaw.leaseExpires (h : ValidSetLaw s) (o : Owner) : ValidSetLaw (s.leaseExpires o) :=
  ((h.beside (setAgent_within s _) rfl).beside (raise_within _ _) rfl).stagingLeaseExpiry o.holder

theorem ValidSetLaw.execLeaseExpiry (h : ValidSetLaw s) :
    ∃ t, execLeaseExpiry s = .next t ∧ ValidSetLaw t := by
  refine ⟨_, rfl, ?_⟩
  split
  · exact h.ite (fun _ => h.leaseExpires _)
  · exact h

/-- A command that answers within a footprint beside the sets. -/
theorem ValidSetLaw.of_within (h : ValidSetLaw s) {f : Footprint} {answer : Result}
    (within : ∃ t, answer = .next t ∧ Within f s t) (le : f.le .besideSets = true) :
    ∃ t, answer = .next t ∧ ValidSetLaw t := by
  obtain ⟨t, answers, touched⟩ := within
  exact ⟨t, answers, h.beside touched le⟩

theorem validSetLaw_coldReset (s : State) (strap : BitVec 4) (links : PerPort LinkState) (level : LineLevel) :
    ValidSetLaw (s.coldReset strap links level) := (streamLaw_coldReset s strap links level).sets

/-- Every command answers with a next state, and keeps the law in it. -/
theorem ValidSetLaw.exec (h : ValidSetLaw s) (c : Instr) : ∃ t, exec c s = .next t ∧ ValidSetLaw t := by
  cases c with
  | coldReset strap links level => exact ⟨_, rfl, validSetLaw_coldReset s strap links level⟩
  | quenchLineAsserted => exact ⟨_, rfl, h.beside (pinAt_within s .asserted) rfl⟩
  | quenchLineDeasserted => exact ⟨_, rfl, h.beside (pinAt_within s .deasserted) rfl⟩
  | linkUp p => exact h.of_within (execLinkUp_within p s) rfl
  | linkDown p => exact h.execLinkDown p
  | startOfFrame p f => exact h.execStartOfFrame p f
  | frameArrival p => exact h.execFrameArrival p
  | cycleStart => exact ⟨_, rfl, h.ite (fun _ => h.periodMatch.settleRestart)⟩
  | windowClose w => exact h.of_within (execWindowClose_within w s) rfl
  | guardOpen p => exact ⟨_, rfl, h.ite (fun _ => (h.beside (cutOff_within s p) rfl).settleRestart)⟩
  | guardClose w => exact h.of_within (execGuardClose_within w s) rfl
  | attributionIntervalClose => exact ⟨_, rfl, h.beside (closeIntervalIfOver_within s) rfl⟩
  | pendingAdvanceEnd => exact ⟨_, rfl, h.ite (fun _ => h.beside (endAdvance_within s) rfl)⟩
  | transmitStart p =>
    exact ⟨_, rfl, h.ite (fun _ => (h.beside (select_within s p) rfl).beside (releaseFrames_within _) rfl)⟩
  | transmitComplete p => exact h.execTransmitComplete p
  | notificationOffer p => exact ⟨_, rfl, h.beside (offerNotifications_within s p) rfl⟩
  | retryTimerExpiry l q => exact h.of_within (execRetryTimerExpiry_within l q s) rfl
  | leaseExpiry => exact h.execLeaseExpiry
  | restageCompletion =>
    refine ⟨_, rfl, h.ite (fun done => ?_)⟩
    obtain ⟨restaging, -⟩ := (restageDone_iff s).1 done
    exact h.completeRestage restaging
  | restartWaitExpiry => exact ⟨_, rfl, h.ite (fun _ => h.warmRestart)⟩
  | discover => exact ⟨_, rfl, h.execute (fun _ _ ht => ht)⟩
  | claim => exact ⟨_, rfl, h.execute_beside claimEffect_within rfl⟩
  | yieldOwnership =>
    exact ⟨_, rfl, h.execute (fun _ t ht => (ht.beside (setAgent_within t _) rfl).stagingYield)⟩
  | readStatus => exact ⟨_, rfl, h.execute (fun _ _ ht => ht)⟩
  | readSet => exact ⟨_, rfl, h.execute_beside readSetEffect_within rfl⟩
  | readStreamState => exact ⟨_, rfl, h.execute (fun _ _ ht => ht)⟩
  | readCounters => exact ⟨_, rfl, h.execute (fun _ _ ht => ht)⟩
  | readCountersClear => exact ⟨_, rfl, h.execute_beside (fun r t => zeroCounters_within t r) rfl⟩
  | readFlags => exact ⟨_, rfl, h.execute (fun _ _ ht => ht)⟩
  | readFault => exact ⟨_, rfl, h.execute (fun _ _ ht => ht)⟩
  | writeSettings =>
    exact ⟨_, rfl, h.execute (fun r _ ht => ht.stagedWrite (fun hs => ht.writeSettings hs r))⟩
  | writeWindows => exact ⟨_, rfl, h.execute (fun r _ ht => ht.stagedWrite (fun hs => ht.writeWindows hs r))⟩
  | writeStreams => exact ⟨_, rfl, h.execute (fun r _ ht => ht.stagedWrite (fun hs => ht.writeStreams hs r))⟩
  | writeSteps => exact ⟨_, rfl, h.execute (fun r _ ht => ht.stagedWrite (fun hs => ht.writeSteps hs r))⟩
  | writeTemplate => exact ⟨_, rfl, h.execute (fun _ _ ht => ht.stagedWrite (fun hs => ht.setStaged hs _))⟩
  | commitNext => exact ⟨_, rfl, h.execute (fun _ _ ht => ht.commitEffect _)⟩
  | commitAt => exact ⟨_, rfl, h.execute (fun _ _ ht => ht.commitEffect _)⟩
  | withdraw => exact ⟨_, rfl, h.execute (fun r _ ht => ht.withdrawEffect r)⟩
  | holdStream => exact ⟨_, rfl, h.execute_beside holdEffect_within rfl⟩
  | releaseStreamResume => exact ⟨_, rfl, h.execute_beside resumeEffect_within rfl⟩
  | releaseStreamRearm => exact ⟨_, rfl, h.execute_beside rearmEffect_within rfl⟩
  | quench => exact ⟨_, rfl, h.execute_beside (fun _ t => addCause_within t .command) rfl⟩
  | clearQuench => exact ⟨_, rfl, h.execute_beside clearQuenchEffect_within rfl⟩
  | setLive => exact ⟨_, rfl, h.execute_beside setLiveEffect_within rfl⟩
  | setListener => exact ⟨_, rfl, h.execute_beside setListenerEffect_within rfl⟩
  | setNotify => exact ⟨_, rfl, h.execute_beside setNotifyEffect_within rfl⟩
  | clearFlags => exact ⟨_, rfl, h.execute_beside clearFlagsEffect_within rfl⟩
  | raiseFlag => exact ⟨_, rfl, h.execute_beside raiseFlagEffect_within rfl⟩
  | timerStartImmediate =>
    exact ⟨_, rfl, h.execute (fun _ t ht =>
      ht.timerStart ((ht.beside (prepareStart_within t .running) rfl).handCycleStart true))⟩
  | timerStartOnMark =>
    exact ⟨_, rfl, h.execute_beside (fun _ t => timerStart_within (prepareStart_within t .armed)) rfl⟩
  | timerStop => exact ⟨_, rfl, h.execute (fun r _ ht => ht.timerStopEffect r)⟩
  | restart => exact ⟨_, rfl, h.execute_beside (fun _ t => setAgent_within t _) rfl⟩
  | ackNotify => exact ⟨_, rfl, h.execute_beside ackNotifyEffect_within rfl⟩
  | unknownRequest =>
    exact ⟨_, rfl, h.beside (agentExecutes_within s _ _ rfl (fun r t => conclude_within t r _ _ _)) rfl⟩

/-- A step on an empty queue moves neither staging controller nor banks (log 1). -/
theorem ValidSetLaw.idle (h : ValidSetLaw s) : ValidSetLaw s.idle := by
  have same := idle_streamPart s
  simp only [State.streamPart, Prod.mk.injEq] at same
  obtain ⟨-, staging, banks⟩ := same
  exact h.congr staging banks

end

/-- Settles O58: a step is a command on the rest of the queue, or idles. -/
theorem activeSetStaysValid : Obligations.ActiveSetStaysValid := by
  intro s t h e
  unfold step at e
  split at e
  · obtain rfl := Host.Outcome.next.inj e
    exact h.idle
  · next c rest _ =>
    have front : ValidSetLaw (s.setPending rest) := h.congr rfl ⟨rfl, rfl⟩
    obtain ⟨u, answer, law⟩ := front.exec c
    obtain rfl := Host.Outcome.next.inj (answer.symm.trans e)
    exact law

end Sys2Proof.Machine
end

section
/-! SUPPORT. The statements on validation and on the restage. -/

namespace Sys2Proof.Machine

/-! ### The checks that a set fails (R115, R116, Table 7-5) -/

section
variable {b : Bank}

/-- Check 1 failing is reported before all else. -/
theorem checkSettings_fails {x : Settings} (fails : ¬ x.meets 1) :
    checkSettings x = some { part := .settings, index := none, stream := none, check := 1 } := by
  simp only [Settings.meets] at fails
  exact if_pos (by omega)

/-- Where check 1 holds, four times the tolerance lies below the least period. -/
theorem Settings.meets_two {x : Settings} (first : x.meets 1) : x.meets 2 := by
  simp only [Settings.meets] at first ⊢
  omega

theorem checkWindow_fails_three {w : WindowIx} (valid : b.windows[w].valid = true)
    (fails : ¬ b.windowMeets w 3) :
    checkWindow b w = some { part := .window, index := some w.val, stream := none, check := 3 } := by
  simp only [Bank.windowMeets, Nat.not_lt] at fails
  rw [checkWindow, valid, Bool.not_true, if_neg Bool.false_ne_true, if_pos fails]

theorem checkWindow_fails_four {w : WindowIx} (valid : b.windows[w].valid = true)
    (ordered : b.windowMeets w 3) (fails : ¬ b.windowMeets w 4) :
    checkWindow b w = some { part := .window, index := some w.val, stream := none, check := 4 } := by
  simp only [Bank.windowMeets, Nat.not_le] at ordered fails
  rw [checkWindow, valid, Bool.not_true, if_neg Bool.false_ne_true, if_neg (Nat.not_le.2 ordered),
    if_pos fails]

/-- Check 5 can report nothing but itself, at its window. -/
theorem checkOverlap_fails {w : WindowIx} (valid : b.windows[w].valid = true) (fails : ¬ b.windowMeets w 5) :
    checkOverlap b w = some { part := .window, index := some w.val, stream := none, check := 5 } := by
  have found : checkOverlap b w ≠ none := fun none => fails ((checkOverlap_none b w).1 none valid)
  unfold checkOverlap at found ⊢
  split at found
  · next overlaps => exact if_pos overlaps
  · exact absurd rfl found

/-! ### What is reported: the first failure in the order of R115 -/

theorem validate_window {w : WindowIx} {f : FaultRecord} (settings : b.settingsPass)
    (before : ∀ v : WindowIx, v.val < w.val → b.windowPasses v) (fails : checkWindow b w = some f) :
    validate b = some f := by
  obtain ⟨-, windows, -, -⟩ := validate_some b (f := f)
  exact windows settings (findSome_first fails fun v hv => (checkWindow_none b v).2 (before v hv))

theorem validate_overlap {w : WindowIx} {f : FaultRecord} (settings : b.settingsPass)
    (windows : ∀ v, b.windowPasses v) (before : ∀ v : WindowIx, v.val < w.val → b.lanePasses v)
    (fails : checkOverlap b w = some f) : validate b = some f := by
  obtain ⟨-, -, lanes, -⟩ := validate_some b (f := f)
  exact lanes settings windows (findSome_first fails fun v hv => (checkOverlap_none b v).2 (before v hv))

theorem validate_stream {i : StreamIx} {f : FaultRecord} (settings : b.settingsPass)
    (windows : ∀ w, b.windowPasses w) (lanes : ∀ w, b.lanePasses w)
    (before : ∀ j : StreamIx, j.val < i.val → b.streamPasses j) (fails : checkStream b i = some f) :
    validate b = some f := by
  obtain ⟨-, -, -, streams⟩ := validate_some b (f := f)
  exact streams settings windows lanes
    (findSome_first fails fun j hj => (checkStream_none b j).2 (before j hj))

/-! ### What a valid set promises -/

/-- Check 5 compares a window with those before it, and so every pair once. -/
theorem lanes_apart (lanes : ∀ w, b.lanePasses w) {v w : WindowIx} (other : v ≠ w)
    (hv : b.windows[v].valid = true) (hw : b.windows[w].valid = true)
    (kind : b.windows[v].kind = b.windows[w].kind) (port : b.windows[v].port = b.windows[w].port) :
    b.windows[v].closeOff ≤ b.windows[w].openOff ∨ b.windows[w].closeOff ≤ b.windows[v].openOff := by
  rcases Nat.lt_or_gt_of_ne (Fin.val_ne_of_ne other) with before | after
  · exact lanes w hw v before hv kind port
  · exact (lanes v hv w after hw kind.symm port.symm).symm

/-- Check 13 compares a tag with those of the enabled streams before it, and so every pair once. -/
theorem tags_differ (streams : ∀ i, b.streamPasses i) {i j : StreamIx} (other : j ≠ i)
    (hi : b.streams[i].enabled = true) (hj : b.streams[j].enabled = true) :
    b.streams[j].tag ≠ b.streams[i].tag := by
  rcases Nat.lt_or_gt_of_ne (Fin.val_ne_of_ne other) with before | after
  · exact streams i hi 13 j before hj
  · exact (streams j hj 13 i after hi).symm

end

/-- Settles O49: each pass of validation finds nothing exactly when its checks hold, and reports its first
failure. -/
theorem validSetsPassTheChecks : Obligations.ValidSetsPassTheChecks := by
  refine ⟨fun b valid => ?_, validate_none, fun b => ⟨fun fails => ?_, Settings.meets_two⟩,
    fun b w settings valid before => ⟨fun fails => ?_, fun ordered fails => ?_⟩,
    fun b w settings windows valid before fails => ?_, fun b i settings windows lanes on before => ?_⟩
  · obtain ⟨settings, windows, lanes, streams⟩ := (validate_none b).1 valid
    obtain ⟨least, most, tolerance, one, fifteen⟩ := settings 1
    refine ⟨⟨least, most, tolerance, one, fifteen, settings 2⟩, windows,
      fun v w other hv hw => lanes_apart lanes other hv hw, fun i on => ?_⟩
    have meets := streams i on
    obtain ⟨window, admitting⟩ := meets 6
    obtain ⟨two, sixteen⟩ := meets 8
    obtain ⟨oneFrame, fourFrames⟩ := meets 11
    exact ⟨window, admitting, meets 7, two, sixteen, meets 9, oneFrame, fourFrames, meets 10, meets 12,
      fun j other hj => tags_differ streams other on hj⟩
  · obtain ⟨report, -, -, -⟩ := validate_some b (f := ⟨.settings, none, none, 1⟩)
    exact report (checkSettings_fails fails)
  · exact validate_window settings before (checkWindow_fails_three valid fails)
  · exact validate_window settings before (checkWindow_fails_four valid ordered fails)
  · exact validate_overlap settings windows before (checkOverlap_fails valid fails)
  · obtain ⟨checks, codes, -⟩ := checkStream_fails b i on
    exact ⟨fun n hn held fails => validate_stream settings windows lanes before (checks n hn held fails),
      fun k held hk differs same =>
        validate_stream settings windows lanes before (codes k held hk differs same)⟩

/-! ### The restage (R123) -/

/-- At the end of a restage with its reason, STAGE-READY is raised over the copied bank, READY, and the reason
goes. -/
theorem completeRestage_eq {s : State} {why : RestageReason} (reason : s.staging.reason = some why) :
    s.completeRestage =
      (((s.setStaged s.active).setStaging { s.staging with state := .ready, restageEnd := none }).raise
        (occStageReady why)).setStaging
          { s.staging with state := .ready, restageEnd := none, reason := none } := by
  have raised : State.raiseStageReady ((s.setStaged s.active).setStaging
      { s.staging with state := .ready, restageEnd := none }) =
      ((s.setStaged s.active).setStaging { s.staging with state := .ready, restageEnd := none }).raise
        (occStageReady why) := by
    rw [State.raiseStageReady, setStaging_staging, reason]
  rw [State.completeRestage, raised, raise_staging]
  rfl

/-- The active set after a restage is the one before, and the staged set equals it (R123). -/
theorem completeRestage_roles (s : State) :
    s.completeRestage.active = s.active ∧ s.completeRestage.staged = s.active := by
  obtain ⟨staging, bankA, bankB⟩ := completeRestage_sets s
  have active : s.completeRestage.active = (s.setStaged s.active).active := by
    simp only [State.active, State.bank, staging, bankA, bankB, setStaged_staging]
  have staged : s.completeRestage.staged = (s.setStaged s.active).staged := by
    simp only [State.staged, State.bank, staging, bankA, bankB, setStaged_staging]
  exact ⟨active.trans (setStaged_active s _), staged.trans (setStaged_staged s _)⟩

/-- Settles O35: a restage begins once, and its completion copies the active set and raises STAGE-READY. -/
theorem restageRunsAndCompletes : Obligations.RestageRunsAndCompletes := by
  refine ⟨fun s why => ⟨fun runs => beginRestage_restaging runs why, fun idle =>
    ⟨beginRestage_starts idle why, fun i => ?_⟩⟩, fun s moment why restaging ends passed reason => ?_⟩
  · rw [beginRestage_starts idle why, setStaging_staging]
    exact Vector.getElem_replicate i.isLt
  · have done : s.restageDone = true := by
      refine (restageDone_iff s).2 ⟨restaging, fun t ht => ?_⟩
      obtain rfl := Option.some.inj (ends.symm.trans ht)
      exact passed
    obtain ⟨active, staged⟩ := completeRestage_roles s
    obtain ⟨staging, -, -⟩ := completeRestage_sets s
    have steps := completeRestage_eq reason
    refine ⟨s.completeRestage, congrArg Host.Outcome.next (if_pos done), staged.trans active.symm, active,
      by rw [staging], by rw [staging], by rw [staging], ?_, ?_⟩
    · rw [steps]
      exact raise_sets_flag _ (occStageReady why)
    · rw [steps]
      cases why <;> rfl

end Sys2Proof.Machine
end

section
/-! SUPPORT. The statement on READ-SET and READ-STREAM-STATE. -/

namespace Sys2Proof.Machine

/-! ### READ-SET (R114, R174) -/

/-- A request that needs no owner, its body and ranges in order, is answered by its row's effect. -/
theorem execute_open {row : RequestRow} {s : State} {r : Request} {rest : List Request} {n : Nat}
    {reply : Reply} (taken : Takes s row.command r rest) (carries : Carries r n)
    (ranges : row.ranges r = true) (effect : row.effect r (s.entered rest) = reply)
    (form : row.form = formBytes n) (unowned : row.needsOwner = false) (plain : row.isRestart = false) :
    row.execute s = reply.after.conclude r reply.status reply.result false := by
  rw [execute_passes taken (bodyOk_of_carries carries (by rw [form]; exact formBytes_of_carries carries))
    (by simp [unowned]) ranges, effect, plain]
  rfl

/-- Part, first index and count within their part, as R174 and R181 give them. -/
theorem readSetFits_iff (part first count : Nat) :
    readSetFits part first count = true ↔
      part = 0 ∧ first = 0 ∧ count = 1 ∨ part = 1 ∧ 1 ≤ count ∧ first + count ≤ 64 ∨
      part = 2 ∧ 1 ≤ count ∧ count ≤ 92 ∧ first + count ≤ 128 ∨
      part = 3 ∧ 1 ≤ count ∧ count ≤ 697 ∧ first + count ≤ 1024 ∨
      part = 4 ∧ count = 1 ∧ first < 32 := by
  unfold readSetFits
  split_ifs <;> simp <;> omega

/-- READ-SET in its ranges is answered by the set its role names. -/
theorem exec_readSet_fits {s : State} {r : Request} {rest : List Request} {reply : Reply}
    (taken : Takes s .readSet r rest) (carries : Carries r 6) (role : r.arg 0 ≤ 1)
    (fits : readSetFits (r.arg 1) (natAt r.args 2 2) (natAt r.args 4 2) = true)
    (answer : readSetEffect r (s.entered rest) = reply) :
    exec .readSet s = .next (reply.after.conclude r reply.status reply.result false) := by
  have ranges : readSetRow.ranges r = true := Bool.and_eq_true_iff.2 ⟨decide_eq_true role, fits⟩
  exact congrArg _ (execute_open (row := readSetRow) taken carries ranges answer rfl rfl rfl)

section
variable {s : State} {r : Request}

theorem readSetEffect_active (role : r.arg 0 = 0) :
    readSetEffect r s = .ok s (s.active.setResult r) := if_pos role

theorem readSetEffect_staged (role : r.arg 0 = 1) (outside : s.staging.state ≠ .restaging) :
    readSetEffect r s = .ok s (s.staged.setResult r) := by
  rw [readSetEffect, if_neg (by simp [role])]
  cases state : s.staging.state with
  | ready => rfl
  | pending => rfl
  | restaging => exact absurd state outside

theorem readSetEffect_busy (role : r.arg 0 = 1) (restaging : s.staging.state = .restaging) :
    readSetEffect r s = .refuse s .busy [] := by
  rw [readSetEffect, if_neg (by simp [role]), restaging]

end

/-- The head of the result repeats the six argument bytes. -/
theorem setResult_eq {r : Request} (carries : Carries r 6) (b : Bank) :
    b.setResult r = r.args ++ b.partBytes (r.arg 1) (natAt r.args 2 2) (natAt r.args 4 2) := by
  rw [Bank.setResult, List.take_of_length_le (args_length carries).le]

/-! ### READ-STREAM-STATE (R174) -/

/-- Every runtime record travels in 16 bytes. -/
theorem streamRunBytes_length (i : Nat) (x : StreamRun) (dirty : Bool) :
    (streamRunBytes i x dirty).length = 16 := rfl

section
variable {α β : Type} {f : α → List β} {n : Nat} (size : ∀ x, (f x).length = n)
include size

/-- Blocks of one size make a list of so many times that size. -/
theorem flatMap_length_of_size (l : List α) : (l.flatMap f).length = n * l.length := by
  induction l with
  | nil => rfl
  | cons x xs ih => rw [List.flatMap_cons, List.length_append, ih, size, List.length_cons, Nat.mul_succ,
      Nat.add_comm]

/-- Block k of blocks of one size. -/
theorem flatMap_block {l : List α} {k : Nat} {x : α} (kth : l[k]? = some x) :
    ((l.flatMap f).drop (n * k)).take n = f x := by
  induction l generalizing k with
  | nil => cases kth
  | cons y ys ih =>
    rw [List.flatMap_cons]
    cases k with
    | zero =>
      obtain rfl := Option.some.inj kth
      exact List.take_left' (size y)
    | succ k =>
      have skip : n * (k + 1) = (f y).length + n * k := by rw [size, Nat.mul_succ, Nat.add_comm]
      rw [skip, List.drop_length_add_append]
      exact ih kth

end

/-- Record k of a run of streams. -/
theorem allStreams_run {first count k : Nat} {i : StreamIx} (inside : k < count) (named : i.val = first + k) :
    ((allStreams.drop first).take count)[k]? = some i := by
  rw [List.getElem?_take_of_lt inside, List.getElem?_drop, ← named, allStreams,
    List.getElem?_eq_getElem (by rw [List.length_finRange]; exact i.isLt)]
  simp

theorem allStreams_run_length {first count : Nat} (fits : first + count ≤ 128) :
    ((allStreams.drop first).take count).length = count := by
  rw [List.length_take, List.length_drop, allStreams, List.length_finRange]
  omega

/-- The 16 bytes of a stream's runtime record and dirty mark. -/
def State.runBlock (s : State) (i : StreamIx) : List Byte := streamRunBytes i.val s.streams[i] s.staging.dirty[i]

theorem runBlock_length (s : State) (i : StreamIx) : (s.runBlock i).length = 16 :=
  streamRunBytes_length _ _ _

/-- The head of the result repeats the two argument bytes. -/
theorem streamStateResult_eq {r : Request} (carries : Carries r 2) (s : State) :
    s.streamStateResult r = r.args ++ ((allStreams.drop (r.arg 0)).take (r.arg 1)).flatMap s.runBlock := by
  rw [State.streamStateResult, List.take_of_length_le (args_length carries).le]
  rfl

/-- Settles O42: both reads are answered by their rows, and the runtime records stand in blocks of 16 bytes. -/
theorem setAndStreamStateReads : Obligations.SetAndStreamStateReads := by
  refine ⟨fun s r rest taken carries fits => ?_, fun s r rest taken carries one most ends => ?_⟩
  · have fits := (readSetFits_iff _ _ _).2 fits
    refine ⟨fun role => ?_, fun role outside => ?_, fun role restaging => ?_⟩
    · refine (exec_readSet_fits taken carries (by omega) fits (readSetEffect_active role)).trans ?_
      rw [setResult_eq carries]
      rfl
    · refine (exec_readSet_fits taken carries (by omega) fits (readSetEffect_staged role outside)).trans ?_
      rw [setResult_eq carries]
      rfl
    · exact exec_readSet_fits taken carries (by omega) fits (readSetEffect_busy role restaging)
  · have length := args_length carries
    refine ⟨r.args ++ ((allStreams.drop (r.arg 0)).take (r.arg 1)).flatMap s.runBlock, ?_, ?_,
      fun k i inside named => ?_, congrArg _ (execute_open (row := readStreamStateRow) taken carries
        (decide_eq_true ⟨one, most, ends⟩)
        (congrArg (Reply.ok _) (streamStateResult_eq carries (s.entered rest))) rfl rfl rfl)⟩
    · rw [List.length_append, length, flatMap_length_of_size (runBlock_length s), allStreams_run_length ends]
    · exact List.take_left' length
    · rw [← length, List.drop_length_add_append]
      exact flatMap_block (runBlock_length s) (allStreams_run inside named)

end Sys2Proof.Machine
end

section
/-! SUPPORT. The statements on the staged writes: what a run of records leaves in its table, the marks, and the
refusals outside READY. -/

namespace Sys2Proof.Machine

/-! ### A request of the owner that passes steps 4 to 6 (R167) -/

/-- The request's body and ranges are in order for a row that is not RESTART's. -/
structure RequestRow.Passes (row : RequestRow) (r : Request) : Prop where
  body : row.bodyOk r = true
  ranges : row.ranges r = true
  plain : row.isRestart = false

/-- It is answered by the row's effect. -/
theorem RequestRow.Passes.execute {row : RequestRow} {s : State} {r : Request} {rest : List Request}
    {reply : Reply} (passes : row.Passes r) (taken : Takes s row.command r rest) (owns : s.ownsGate r = true)
    (effect : row.effect r (s.entered rest) = reply) :
    row.execute s = reply.after.conclude r reply.status reply.result false := by
  rw [execute_passes taken passes.body (fun _ => owns) passes.ranges, effect, passes.plain]
  rfl

/-- A list of items of one size behind a head that holds their number has the form of a counted list. -/
theorem formCounted_of_length {r : Request} {head place size : Nat}
    (length : r.args.length = head + size * r.arg place) : formCounted head place size r.args = true := by
  have count : (byteAt r.args place).toNat = r.arg place := rfl
  simp [formCounted, length, count]

section
variable {r : Request}

theorem writeSettings_passes (carries : Carries r 14) (read : (readSettings r.args).isSome = true) :
    writeSettingsRow.Passes r :=
  ⟨bodyOk_of_carries carries (formBytes_of_carries carries), read, rfl⟩

theorem runFits_of {first count size : Nat} (one : 1 ≤ count) (most : count ≤ 64)
    (ends : first + count ≤ size) : runFits first count size = true :=
  decide_eq_true ⟨one, most, ends⟩

theorem writeWindows_passes (carries : Carries r (2 + 7 * r.arg 1)) (one : 1 ≤ r.arg 1) (most : r.arg 1 ≤ 64)
    (ends : r.arg 0 + r.arg 1 ≤ 64) (read : (carriedWindows r).isSome = true) : writeWindowsRow.Passes r :=
  ⟨bodyOk_of_carries carries (formCounted_of_length (args_length carries)),
    Bool.and_eq_true_iff.2 ⟨runFits_of one most ends, read⟩, rfl⟩

theorem writeStreams_passes (carries : Carries r (2 + 15 * r.arg 1)) (one : 1 ≤ r.arg 1) (most : r.arg 1 ≤ 64)
    (ends : r.arg 0 + r.arg 1 ≤ 128) (read : (carriedStreams r).isSome = true) : writeStreamsRow.Passes r :=
  ⟨bodyOk_of_carries carries (formCounted_of_length (args_length carries)),
    Bool.and_eq_true_iff.2 ⟨runFits_of one most ends, read⟩, rfl⟩

theorem writeSteps_passes (carries : Carries r (3 + 2 * r.arg 2)) (one : 1 ≤ r.arg 2) (most : r.arg 2 ≤ 64)
    (ends : natAt r.args 0 2 + r.arg 2 ≤ 1024) (read : (carriedSteps r).isSome = true) :
    writeStepsRow.Passes r :=
  ⟨bodyOk_of_carries carries (formCounted_of_length (args_length carries)),
    Bool.and_eq_true_iff.2 ⟨runFits_of one most ends, read⟩, rfl⟩

theorem writeTemplate_passes (carries : Carries r (3 + r.arg 2)) (index : r.arg 0 < 32)
    (image : r.arg 1 = 0 ∧ r.arg 2 = 0 ∨ r.arg 1 = 1 ∧ 60 ≤ r.arg 2 ∧ r.arg 2 ≤ 128) :
    writeTemplateRow.Passes r := by
  refine ⟨bodyOk_of_carries carries (formCounted_of_length ((args_length carries).trans (by omega))), ?_, rfl⟩
  show writeTemplateRanges r = true
  rcases image with ⟨absent, length⟩ | ⟨present, least, most⟩
  · simp [writeTemplateRanges, index, absent, length]
  · simp [writeTemplateRanges, index, present, least, most]

theorem commitNext_passes (carries : Carries r 5) (target : r.arg 0 ≤ 1) : commitNextRow.Passes r :=
  ⟨bodyOk_of_carries carries (formBytes_of_carries carries), decide_eq_true target, rfl⟩

theorem commitAt_passes (carries : Carries r 5) (target : r.arg 0 ≤ 1) : commitAtRow.Passes r :=
  ⟨bodyOk_of_carries carries (formBytes_of_carries carries), decide_eq_true target, rfl⟩

end

/-! ### Refusals outside READY (R112, R117) -/

/-- A row whose effect is refused PENDING in PENDING and BUSY in RESTAGING. -/
structure RequestRow.NeedsReady (row : RequestRow) (r : Request) : Prop where
  pending : ∀ t : State, t.staging.state = .pending → row.effect r t = .refuse t .pending []
  restaging : ∀ t : State, t.staging.state = .restaging → row.effect r t = .refuse t .busy []

theorem needsReady_of_stagedWrite {row : RequestRow} {r : Request} {write : State → State}
    (effect : row.effect r = stagedWrite write) : row.NeedsReady r where
  pending t ht := by rw [effect, stagedWrite, ht]
  restaging t ht := by rw [effect, stagedWrite, ht]

theorem needsReady_of_commitEffect {row : RequestRow} {r : Request} {target : CommitTarget}
    (effect : row.effect r = fun t => t.commitEffect target) : row.NeedsReady r where
  pending t ht := by rw [effect]; dsimp only; rw [State.commitEffect, ht]
  restaging t ht := by rw [effect]; dsimp only; rw [State.commitEffect, ht]

theorem RequestRow.NeedsReady.refused {row : RequestRow} {s : State} {r : Request} {rest : List Request}
    (needs : row.NeedsReady r) (passes : row.Passes r) (taken : Takes s row.command r rest)
    (owns : s.ownsGate r = true) {c : Instr} (runs : exec c s = .next (row.execute s)) :
    (s.staging.state = .pending → exec c s = .next ((s.entered rest).conclude r .pending [] false)) ∧
    (s.staging.state = .restaging → exec c s = .next ((s.entered rest).conclude r .busy [] false)) := by
  refine ⟨fun state => ?_, fun state => ?_⟩
  · rw [runs, passes.execute taken owns (needs.pending _ state)]
    rfl
  · rw [runs, passes.execute taken owns (needs.restaging _ state)]
    rfl

/-- Settles O45: each of the requests passes steps 4 to 6 and meets the refusals of its effect. -/
theorem stagedWritesRefusedOutsideReady : Obligations.StagedWritesRefusedOutsideReady := by
  intro c s r rest taken owns request
  rcases request with ⟨rfl, carries, read⟩ | ⟨rfl, carries, index, image⟩ |
    ⟨rfl, carries, one, most, ends, read⟩ | ⟨rfl, carries, one, most, ends, read⟩ |
    ⟨rfl, carries, one, most, ends, read⟩ | ⟨rfl | rfl, carries, target⟩
  · exact (needsReady_of_stagedWrite rfl).refused (writeSettings_passes carries read) taken owns rfl
  · exact (needsReady_of_stagedWrite rfl).refused (writeTemplate_passes carries index image) taken owns rfl
  · exact (needsReady_of_stagedWrite rfl).refused (writeWindows_passes carries one most ends read) taken owns rfl
  · exact (needsReady_of_stagedWrite rfl).refused (writeStreams_passes carries one most ends read) taken owns rfl
  · exact (needsReady_of_stagedWrite rfl).refused (writeSteps_passes carries one most ends read) taken owns rfl
  · exact (needsReady_of_commitEffect rfl).refused (commitNext_passes carries target) taken owns rfl
  · exact (needsReady_of_commitEffect rfl).refused (commitAt_passes carries target) taken owns rfl

/-! ### The staged writes in READY (R112, R113) -/

/-- A run of records replaces its places in the table and leaves the others. -/
theorem writeRun_getElem {α : Type} {n : Nat} (xs : List α) (v : Vector α n) (first : Nat) (i : Fin n) :
    (writeRun v first xs)[i] = if first ≤ i.val then (xs[i.val - first]?).getD v[i] else v[i] := by
  induction xs generalizing v first with
  | nil => simp [writeRun]
  | cons x xs ih =>
    rw [writeRun, ih]
    rcases Nat.lt_trichotomy first i.val with below | rfl | above
    · have next : i.val - first = i.val - (first + 1) + 1 := by omega
      rw [if_pos (Nat.succ_le_of_lt below), if_pos below.le, next, List.getElem?_cons_succ, dif_pos (below.trans i.isLt)]
      simp [below.ne]
    · simp
    · rw [if_neg (by omega), if_neg (by omega)]
      split
      · simp [above.ne']
      · rfl

theorem writeRun_one {α : Type} {n : Nat} (v : Vector α n) (k : Fin n) (x : α) :
    writeRun v k.val [x] = v.set k x := dif_pos k.isLt

theorem stagedWrite_ready {s : State} (ready : s.staging.state = .ready) (write : State → State) :
    stagedWrite write s = .ok (write s) [] := by
  rw [stagedWrite, ready]

/-- A staged write of the owner in READY is taken. -/
theorem RequestRow.Passes.written {row : RequestRow} {s : State} {r : Request} {rest : List Request}
    {write : State → State} {u : State} (passes : row.Passes r) (taken : Takes s row.command r rest)
    (owns : s.ownsGate r = true) (ready : s.staging.state = .ready)
    (effect : row.effect r = stagedWrite write) (after : write (s.entered rest) = u) :
    row.execute s = u.conclude r .ok [] false := by
  subst after
  exact passes.execute taken owns ((congrFun effect _).trans (stagedWrite_ready (s := s.entered rest) ready write))

theorem markDirty_dirty (s : State) (test : StreamIx → Bool) (i : StreamIx) :
    (s.markDirty test).staging.dirty[i] = (s.staging.dirty[i] || test i) :=
  tableOf_getElem _ i.val i.isLt

theorem markDirty_active (s : State) (test : StreamIx → Bool) : (s.markDirty test).active = s.active := rfl

theorem markDirty_staged (s : State) (test : StreamIx → Bool) : (s.markDirty test).staged = s.staged := rfl

section
variable {s : State} {r : Request}

theorem writeSettings_eq {x : Settings} (read : readSettings r.args = some x) :
    s.writeSettings r = s.setStaged { s.staged with settings := x } := by
  rw [State.writeSettings, read]

theorem writeWindows_eq {xs : List WindowRec} (read : carriedWindows r = some xs) :
    s.writeWindows r = s.setStaged { s.staged with windows := writeRun s.staged.windows (r.arg 0) xs } := by
  rw [State.writeWindows, read]

theorem writeStreams_eq {xs : List StreamRec} (read : carriedStreams r = some xs) :
    s.writeStreams r =
      (s.setStaged { s.staged with streams := writeRun s.staged.streams (r.arg 0) xs }).markDirty
        (fun i => decide (r.arg 0 ≤ i.val) && decide (i.val < r.arg 0 + r.arg 1)) := by
  rw [State.writeStreams, read]

theorem writeSteps_eq {xs : List StepRec} (read : carriedSteps r = some xs) :
    s.writeSteps r =
      (s.setStaged { s.staged with steps := writeRun s.staged.steps (natAt r.args 0 2) xs }).markDirty
        (fun i => ringCovers s.staged.streams[i] (natAt r.args 0 2) (r.arg 2)) := by
  rw [State.writeSteps, read]
  rfl

theorem writeTemplate_eq {k : TemplateIx} (index : r.arg 0 = k.val) {image : Option (List Byte)}
    (carried : carriedTemplate r = image) :
    s.writeTemplate r = s.setStaged { s.staged with templates := s.staged.templates.set k image } := by
  rw [State.writeTemplate, index, carried, writeRun_one]

theorem carriedTemplate_present (carries : Carries r (3 + r.arg 2)) (present : r.arg 1 = 1) :
    carriedTemplate r = some (r.args.drop 3) := by
  have length : (r.args.drop 3).length = r.arg 2 := by rw [List.length_drop, args_length carries]; omega
  rw [carriedTemplate, if_neg (by simp [present]), List.take_of_length_le length.le]

theorem carriedTemplate_absent (absent : r.arg 1 = 0) : carriedTemplate r = none := if_pos absent

end

/-- The written windows are in the staged set, and nothing else of the sets has changed. -/
theorem writeWindows_records {s : State} {r : Request} {xs : List WindowRec}
    (read : carriedWindows r = some xs) :
    (s.writeWindows r).active = s.active ∧ (s.writeWindows r).staging = s.staging ∧
    (s.writeWindows r).staged = { s.staged with windows := (s.writeWindows r).staged.windows } ∧
    ∀ w : WindowIx, (s.writeWindows r).staged.windows[w] =
      if r.arg 0 ≤ w.val then (xs[w.val - r.arg 0]?).getD s.staged.windows[w] else s.staged.windows[w] := by
  rw [writeWindows_eq read, setStaged_active, setStaged_staging, setStaged_staged]
  exact ⟨rfl, rfl, rfl, writeRun_getElem xs _ _⟩

/-- The written streams are in the staged set with their marks, and nothing else of the sets has changed. -/
theorem writeStreams_records {s : State} {r : Request} {xs : List StreamRec}
    (read : carriedStreams r = some xs) :
    (s.writeStreams r).active = s.active ∧
    (s.writeStreams r).staged = { s.staged with streams := (s.writeStreams r).staged.streams } ∧
    (∀ i : StreamIx, (s.writeStreams r).staged.streams[i] =
      if r.arg 0 ≤ i.val then (xs[i.val - r.arg 0]?).getD s.staged.streams[i] else s.staged.streams[i]) ∧
    (s.writeStreams r).staging = { s.staging with dirty := (s.writeStreams r).staging.dirty } ∧
    ∀ i : StreamIx, (s.writeStreams r).staging.dirty[i] = (s.staging.dirty[i] ||
      decide (r.arg 0 ≤ i.val ∧ i.val < r.arg 0 + r.arg 1)) := by
  rw [writeStreams_eq read, markDirty_active, markDirty_staged, setStaged_active, setStaged_staged]
  refine ⟨rfl, rfl, writeRun_getElem xs _ _, ?_, fun i => ?_⟩
  · rw [State.markDirty, setStaging_staging, setStaged_staging]
  · rw [markDirty_dirty, setStaged_staging, Bool.decide_and]

/-- The written steps are in the staged set, with the marks of the streams whose staged ring covers one of
them, and nothing else of the sets has changed. -/
theorem writeSteps_records {s : State} {r : Request} {xs : List StepRec}
    (read : carriedSteps r = some xs) :
    (s.writeSteps r).active = s.active ∧
    (s.writeSteps r).staged = { s.staged with steps := (s.writeSteps r).staged.steps } ∧
    (∀ k : StepIx, (s.writeSteps r).staged.steps[k] =
      if natAt r.args 0 2 ≤ k.val then (xs[k.val - natAt r.args 0 2]?).getD s.staged.steps[k]
      else s.staged.steps[k]) ∧
    (s.writeSteps r).staging = { s.staging with dirty := (s.writeSteps r).staging.dirty } ∧
    ∀ i : StreamIx, (s.writeSteps r).staging.dirty[i] = (s.staging.dirty[i] ||
      decide (s.staged.streams[i].ringBase.val < natAt r.args 0 2 + r.arg 2 ∧
        natAt r.args 0 2 < s.staged.streams[i].ringBase.val + s.staged.streams[i].ringLength)) := by
  rw [writeSteps_eq read, markDirty_active, markDirty_staged, setStaged_active, setStaged_staged]
  refine ⟨rfl, rfl, writeRun_getElem xs _ _, ?_, fun i => ?_⟩
  · rw [State.markDirty, setStaging_staging, setStaged_staging]
  · rw [markDirty_dirty, setStaged_staging, ringCovers, Bool.decide_and]

/-- Settles O44: each write of the owner is taken in READY, and leaves the records and marks it names. -/
theorem stagedWritesReplaceRecords : Obligations.StagedWritesReplaceRecords := by
  refine ⟨fun s r rest owns ready => ⟨fun x taken carries read => ?_, fun k taken carries index =>
      ⟨fun present least most => ?_, fun absent length => ?_⟩⟩,
    fun s r rest owns ready => ⟨fun xs taken carries one most ends read => ?_,
      fun xs taken carries one most ends read => ?_, fun xs taken carries one most ends read => ?_⟩⟩
  · have passes := writeSettings_passes carries (Option.isSome_of_eq_some read)
    exact congrArg _ (passes.written taken owns ready rfl (writeSettings_eq (s := s.entered rest) read))
  · have passes := writeTemplate_passes carries (index ▸ k.isLt) (.inr ⟨present, least, most⟩)
    exact congrArg _ (passes.written taken owns ready rfl
      (writeTemplate_eq (s := s.entered rest) index (carriedTemplate_present carries present)))
  · have passes := writeTemplate_passes carries (index ▸ k.isLt) (.inl ⟨absent, length⟩)
    exact congrArg _ (passes.written taken owns ready rfl
      (writeTemplate_eq (s := s.entered rest) index (carriedTemplate_absent absent)))
  · have passes := writeWindows_passes carries one most ends (Option.isSome_of_eq_some read)
    exact ⟨_, congrArg _ (passes.written taken owns ready rfl rfl),
      writeWindows_records (s := s.entered rest) read⟩
  · have passes := writeStreams_passes carries one most ends (Option.isSome_of_eq_some read)
    exact ⟨_, congrArg _ (passes.written taken owns ready rfl rfl),
      writeStreams_records (s := s.entered rest) read⟩
  · have passes := writeSteps_passes carries one most ends (Option.isSome_of_eq_some read)
    exact ⟨_, congrArg _ (passes.written taken owns ready rfl rfl),
      writeSteps_records (s := s.entered rest) read⟩

end Sys2Proof.Machine
end

section
/-! SUPPORT. The statements on COMMIT and WITHDRAW: a commit that becomes pending, one that applies at once, one
that is invalid, and a withdrawal. -/

namespace Sys2Proof.Machine

/-! ### The answers to COMMIT (R115, R117) -/

section
variable {s : State} {r : Request} {rest : List Request} {reply : Reply}

theorem exec_commitNext_of_owner (taken : Takes s .commitNext r rest) (carries : Carries r 5)
    (owns : s.ownsGate r = true) (answer : (s.entered rest).commitEffect .nextStart = reply) :
    exec .commitNext s = .next (reply.after.conclude r reply.status reply.result false) := by
  have target : r.arg 0 ≤ 1 := by rw [command_commitNext taken.row]; decide
  exact congrArg _ ((commitNext_passes carries target).execute taken owns answer)

theorem exec_commitAt_of_owner (taken : Takes s .commitAt r rest) (carries : Carries r 5)
    (owns : s.ownsGate r = true) (target : r.arg 0 ≤ 1)
    (answer : (s.entered rest).commitEffect (.atCycle (wordAt r.args 1)) = reply) :
    exec .commitAt s = .next (reply.after.conclude r reply.status reply.result false) :=
  congrArg _ ((commitAt_passes carries target).execute taken owns answer)

/-- An answer that does not depend on the target is the answer of both rows. -/
theorem exec_commit_of_owner {c : Instr} (taken : Takes s c r rest) (commits : c = .commitNext ∨ c = .commitAt)
    (carries : Carries r 5) (target : r.arg 0 ≤ 1) (owns : s.ownsGate r = true)
    (answer : ∀ t, (s.entered rest).commitEffect t = reply) :
    exec c s = .next (reply.after.conclude r reply.status reply.result false) := by
  rcases commits with rfl | rfl
  · exact exec_commitNext_of_owner taken carries owns (answer _)
  · exact exec_commitAt_of_owner taken carries owns target (answer _)

theorem commitEffect_valid (ready : s.staging.state = .ready) (valid : validate s.staged = none)
    (t : CommitTarget) : s.commitEffect t = s.commitValid t := by
  rw [State.commitEffect, ready]
  dsimp only
  rw [valid]

theorem commitEffect_invalid {f : FaultRecord} (ready : s.staging.state = .ready)
    (invalid : validate s.staged = some f) (t : CommitTarget) : s.commitEffect t = s.commitInvalid f := by
  rw [State.commitEffect, ready]
  dsimp only
  rw [invalid]

theorem running_of_state (running : s.timer.state = .running) : s.running = true := decide_eq_true running

theorem commitValid_next (running : s.timer.state = .running) :
    s.commitValid .nextStart = .ok (s.makePending .nextStart) (s.makePending .nextStart).commitResult :=
  if_pos (running_of_state running)

theorem commitValid_ahead {n : Word} (running : s.timer.state = .running)
    (least : 1 ≤ (n - s.timer.cycleCount).toNat) (most : (n - s.timer.cycleCount).toNat ≤ 2147483648) :
    s.commitValid (.atCycle n) =
      .ok (s.makePending (.atCycle n)) (s.makePending (.atCycle n)).commitResult :=
  (if_pos (running_of_state running)).trans (if_pos (decide_eq_true ⟨least, most⟩))

theorem commitValid_late {n : Word} (running : s.timer.state = .running)
    (behind : (n - s.timer.cycleCount).toNat = 0 ∨ 2147483648 < (n - s.timer.cycleCount).toNat) :
    s.commitValid (.atCycle n) = .refuse s .late s.lateResult := by
  have notAhead : ¬ s.targetAhead n = true := by
    simp only [State.targetAhead, decide_eq_true_eq]
    omega
  exact (if_pos (running_of_state running)).trans (if_neg notAhead)

theorem commitValid_stopped (idle : s.timer.state ≠ .running) (t : CommitTarget) :
    s.commitValid t = .ok s.applyCommit s.applyCommit.commitResult :=
  if_neg (by simp [State.running, idle])

end

/-- Bytes without a value are as many as the format has places for them (log 8). -/
theorem unstatedBytes_length (s : State) (place n : Nat) : (s.unstatedBytes place n).length = n := by
  simp [State.unstatedBytes]

/-! ### A commit becomes pending (R117) -/

/-- A request that owns the gate comes from the holder (R170). -/
theorem holder_of_ownsGate {s : State} {r : Request} (owns : s.ownsGate r = true) :
    s.agent.owner.map (fun o => o.holder) = some r.source := by
  unfold State.ownsGate at owns
  cases owner : s.agent.owner with
  | none => rw [owner] at owns; cases owns
  | some o =>
    rw [owner] at owns
    simp only [Bool.and_eq_true, decide_eq_true_eq] at owns
    rw [Option.map_some, owns.1]

/-- The pending commit record holds the address of the station that sent the request. -/
theorem makePending_of_owner {s : State} {r : Request} {rest : List Request} (owns : s.ownsGate r = true)
    (t : CommitTarget) :
    (s.entered rest).makePending t =
      ((s.entered rest).setStaging { s.staging with
        state := .pending
        commit := some { target := t, owner := some r.source, requestedAt := s.timer.cycleCount } }).setEgress
        (s.egress.map (fun e => { e with selectDue := true })) := by
  rw [State.makePending, show (s.entered rest).agent.owner.map _ = _ from holder_of_ownsGate owns]
  rfl

/-- Settles O46: a valid set is made pending for its target, or refused LATE. -/
theorem commitBecomesPending : Obligations.CommitBecomesPending := by
  intro s r rest carries owns ready valid running n pending
  have effect (t : CommitTarget) : (s.entered rest).commitEffect t = (s.entered rest).commitValid t :=
    commitEffect_valid (s := s.entered rest) ready valid t
  have made (t : CommitTarget) : (s.entered rest).makePending t = pending t := makePending_of_owner owns t
  refine ⟨fun taken => ⟨(pending .nextStart).unstatedBytes 0 4, unstatedBytes_length _ _ _, ?_⟩,
    fun taken target least most => ?_, fun taken target behind => ?_⟩
  · rw [exec_commitNext_of_owner taken carries owns
      ((effect _).trans (commitValid_next (s := s.entered rest) running)), made]
    rfl
  · rw [exec_commitAt_of_owner taken carries owns target.le
      ((effect _).trans (commitValid_ahead (s := s.entered rest) running least most)), made]
    rfl
  · rw [exec_commitAt_of_owner taken carries owns target.le
      ((effect _).trans (commitValid_late (s := s.entered rest) running behind))]
    rfl

/-! ### A commit applies (R120 to R122) -/

/-- A dirty stream's runtime record after its reseat from a record of the new set (R121). -/
theorem seated_eq (x : StreamRun) (cfg : StreamRec) :
    x.seated cfg =
      { state := if cfg.enabled then .armed else .disabled
        position := cfg.entryStep, admittedCount := 0, absenceRun := 0
        holdCause := none, lastAdvance := none, spacing := none, counters := x.counters } := rfl

/-- The state in which the staging controller raises COMMIT: roles changed, dirty streams reseated, and the
pending commit and fault records gone. -/
theorem swapped_eq (s : State) :
    s.swapBanks.reseatDirty.dropCommit =
      (s.setStaging { s.staging with
        active := s.staging.active.other, commit := none, fault := none }).setStreams
          s.swapBanks.reseatDirty.streams := rfl

/-- An apply, in the order of R120, where the arbiters are called over the queues that COMMIT has entered. -/
theorem applyCommit_eq (s : State) :
    s.applyCommit = ((s.swapBanks.reseatDirty.dropCommit.raise (occCommit 0x0100#16)).beginRestage
        .apply).setEgress
      ((s.swapBanks.reseatDirty.dropCommit.raise (occCommit 0x0100#16)).egress.map
        (fun e => { e with selectDue := true })) := by
  rw [applyCommit_steps, State.callSelections, (beginRestage_within _ _).egress rfl]

section
variable {s : State}

/-- The staging controller after a commit has applied while no restage ran. -/
theorem applyCommit_staging_idle (idle : s.staging.state ≠ .restaging) :
    s.applyCommit.staging =
      { active := s.staging.active.other, state := .restaging, commit := none
        dirty := Vector.replicate 128 false, fault := none, reason := some .apply
        restageEnd := some (s.base + Config.restageTicks) } := by
  have begins : (s.swapBanks.reseatDirty.dropCommit.raise (occCommit 0x0100#16)).staging.state ≠ .restaging := by
    rw [raise_staging]
    exact idle
  rw [applyCommit_steps, beginRestage_starts begins, callSelections_staging, setStaging_staging,
    raise_staging, raise_base]
  rfl

theorem applyCommit_roles_idle (idle : s.staging.state ≠ .restaging) :
    s.applyCommit.active = s.staged ∧ s.applyCommit.staged = s.active := by
  obtain ⟨bankA, bankB⟩ := (applyCommit_within s).banks rfl
  unfold State.active State.staged State.bank
  rw [applyCommit_staging_idle idle, bankA, bankB]
  cases s.staging.active <;> exact ⟨rfl, rfl⟩

/-- The answer to a COMMIT that applied: RESTAGING, no target, and an N that is not given (log 8). -/
theorem applyCommit_result (idle : s.staging.state ≠ .restaging) :
    s.applyCommit.commitResult =
      [2#8, 0xFF#8] ++ s.applyCommit.unstatedBytes 0 4 ++ be32 s.timer.cycleCount := by
  have timer : s.applyCommit.timer = s.timer := (applyCommit_within s).timer rfl
  rw [State.commitResult, State.targetBytes, applyCommit_staging_idle idle, timer]
  rfl

/-- The runtime records after an apply, in the words of Table 1-8. -/
theorem applyCommit_streams_by_mark (s : State) :
    (∀ i : StreamIx, s.staging.dirty[i] = false → s.applyCommit.streams[i] = s.streams[i]) ∧
    (∀ i : StreamIx, s.staging.dirty[i] = true →
      s.applyCommit.streams[i] = s.streams[i].seated s.staged.streams[i]) := by
  refine ⟨fun i clean => ?_, fun i dirty => ?_⟩
  · rw [applyCommit_stream, clean, if_neg Bool.false_ne_true]
  · rw [applyCommit_stream, dirty, if_pos rfl]

end

/-- Settles O47: COMMIT while the timer is not RUNNING answers over the applied commit, whose steps are those
of R120. -/
theorem commitAppliesWhileStopped : Obligations.CommitAppliesWhileStopped := by
  refine ⟨fun c s r rest taken commits carries target owns ready valid idle => ?_, fun s => ?_⟩
  · have outside : (s.entered rest).staging.state ≠ .restaging := fun h => nomatch ready.symm.trans h
    have answer := exec_commit_of_owner taken commits carries target owns (fun t =>
      (commitEffect_valid (s := s.entered rest) ready valid t).trans
        (commitValid_stopped (s := s.entered rest) idle t))
    rw [applyCommit_result outside] at answer
    have concluded := conclude_within (s.entered rest).applyCommit r .ok
      ([2#8, 0xFF#8] ++ (s.entered rest).applyCommit.unstatedBytes 0 4 ++ be32 s.timer.cycleCount) false
    have staging := (concluded.staging rfl).trans (applyCommit_staging_idle outside)
    obtain ⟨active, staged⟩ := applyCommit_roles_idle outside
    obtain ⟨clean, dirty⟩ := applyCommit_streams_by_mark (s.entered rest)
    have streams := concluded.streams rfl
    refine ⟨_, answer, (concluded.active rfl rfl).trans active, (concluded.staged rfl rfl).trans staged,
      ?_, ?_, ?_, ?_, ?_, fun i => ?_, ?_, fun i hi => ?_, fun i hi => ?_,
      ⟨_, unstatedBytes_length _ _ _, rfl⟩⟩
    · exact congrArg Staging.active staging
    · exact congrArg Staging.state staging
    · exact congrArg Staging.reason staging
    · exact congrArg Staging.commit staging
    · exact congrArg Staging.fault staging
    · refine (congrArg (fun g : Staging => g.dirty[i]) staging).trans ?_
      exact Vector.getElem_replicate i.isLt
    · exact (congrArg (fun e : EventUnit => e.flags.getLsbD 9) (concluded.events rfl)).trans
        (applyCommit_flag (s.entered rest))
    · exact (congrArg (fun v : Vector StreamRun 128 => v[i]) streams).trans (clean i hi)
    · exact ((congrArg (fun v : Vector StreamRun 128 => v[i]) streams).trans (dirty i hi)).trans
        (seated_eq _ _)
  · have records (i : StreamIx) := reseatDirty_swapBanks s i
    refine ⟨s.swapBanks.reseatDirty.streams, fun i clean => ?_, fun i dirty => ?_, applyCommit_eq s⟩
    · rw [records, clean, if_neg Bool.false_ne_true]
    · rw [records, dirty, if_pos rfl, seated_eq]

/-! ### An invalid set, and WITHDRAW (R115, R116, R124) -/

section
variable {s : State}

theorem withdrawEffect_pending (pending : s.staging.state = .pending) (r : Request) :
    withdrawEffect r s = .ok (s.withdrawCommit 0x0201#16) [0#8] := by
  rw [withdrawEffect, pending]
  rfl

theorem withdrawEffect_ready (ready : s.staging.state = .ready) (r : Request) :
    withdrawEffect r s = .refuse s .state [0#8] := by
  rw [withdrawEffect, ready]
  rfl

theorem withdrawEffect_restaging (restaging : s.staging.state = .restaging) (r : Request) :
    withdrawEffect r s = .refuse s .state [2#8] := by
  rw [withdrawEffect, restaging]
  rfl

/-- A withdrawal leaves the sets and the streams, and of the staging record all but state and commit (R124). -/
theorem withdrawCommit_leaves (s : State) (code : Half) :
    (s.withdrawCommit code).staging = { s.staging with state := .ready, commit := none } ∧
    (s.withdrawCommit code).staged = s.staged ∧ (s.withdrawCommit code).active = s.active ∧
    (s.withdrawCommit code).streams = s.streams ∧
    (s.withdrawCommit code).events.flags.getLsbD 9 = true := by
  unfold State.withdrawCommit
  rw [callSelections_staging, raise_staging, callSelections_staged, raise_staged, callSelections_active,
    raise_active, callSelections_streams, raise_streams, callSelections_events]
  exact ⟨rfl, rfl, rfl, rfl, raise_sets_flag _ (occCommit code)⟩

end

theorem exec_withdraw_of_owner {s : State} {r : Request} {rest : List Request} {reply : Reply}
    (taken : Takes s .withdraw r rest) (carries : Carries r 0) (owns : s.ownsGate r = true)
    (answer : withdrawEffect r (s.entered rest) = reply) :
    exec .withdraw s = .next (reply.after.conclude r reply.status reply.result false) :=
  congrArg _ (execute_of_owner (row := withdrawRow) taken carries owns rfl answer rfl rfl)

/-- Settles O48: both requests are answered by the staging controller, by the outcome of validation or by the
staging state. -/
theorem invalidSetsAndWithdrawals : Obligations.InvalidSetsAndWithdrawals := by
  refine ⟨fun c s r rest f taken commits carries target owns ready invalid => ?_,
    fun s r rest taken carries owns => ⟨fun pending => ?_, fun ready => ?_, fun restaging => ?_⟩⟩
  · exact exec_commit_of_owner taken commits carries target owns
      (commitEffect_invalid (s := s.entered rest) ready invalid)
  · have answer := exec_withdraw_of_owner taken carries owns
      (withdrawEffect_pending (s := s.entered rest) pending r)
    obtain ⟨staging, staged, active, streams, flag⟩ := withdrawCommit_leaves (s.entered rest) 0x0201#16
    have concluded := conclude_within ((s.entered rest).withdrawCommit 0x0201#16) r .ok [0#8] false
    exact ⟨_, answer, (concluded.staging rfl).trans staging, (concluded.staged rfl rfl).trans staged,
      (concluded.active rfl rfl).trans active, (concluded.streams rfl).trans streams,
      (congrArg (fun e : EventUnit => e.flags.getLsbD 9) (concluded.events rfl)).trans flag, rfl⟩
  · exact exec_withdraw_of_owner taken carries owns (withdrawEffect_ready (s := s.entered rest) ready r)
  · exact exec_withdraw_of_owner taken carries owns
      (withdrawEffect_restaging (s := s.entered rest) restaging r)

end Sys2Proof.Machine
end

section
/-! SUPPORT. The judgement of a frame and the classes of a good frame; the statements on malformed frames,
requests, unknown tags and background frames. -/

namespace Sys2Proof.Machine

/-! ### The judgement of a frame (R131) -/

section
variable {s : State} {p : Port} {r : StartRecord} {f : List Byte}

theorem countPort_countPort (s : State) (p : Port) (f g : PortCounters → PortCounters) :
    (s.countPort p f).countPort p g = s.countPort p (fun c => g (f c)) :=
  updatePort_updatePort s p _ _

theorem receiveFrame_runt (short : f.length < 64) (s : State) (p : Port) (r : StartRecord) :
    s.receiveFrame p r f = s.countPort p (fun c => { c with runts := c.runts + 1#32 }) :=
  if_pos short

theorem receiveFrame_giant (long : 1522 < f.length) (s : State) (p : Port) (r : StartRecord) :
    s.receiveFrame p r f = s.countPort p (fun c => { c with giants := c.giants + 1#32 }) :=
  (if_neg (by omega)).trans (if_pos long)

theorem receiveFrame_fcsError (least : 64 ≤ f.length) (most : f.length ≤ 1522)
    (wrong : fcsMatches f = false) (s : State) (p : Port) (r : StartRecord) :
    s.receiveFrame p r f = s.countPort p (fun c => { c with fcsErrors := c.fcsErrors + 1#32 }) :=
  ((if_neg (by omega)).trans (if_neg (by omega))).trans (if_pos (by rw [wrong]; rfl))

theorem receiveFrame_good (least : 64 ≤ f.length) (most : f.length ≤ 1522) (sound : fcsMatches f = true)
    (s : State) (p : Port) (r : StartRecord) :
    s.receiveFrame p r f = (s.countPort p (fun c => { c with good := c.good + 1#32 })).goodFrame p r f :=
  ((if_neg (by omega)).trans (if_neg (by omega))).trans (if_neg (by rw [sound]; exact Bool.false_ne_true))

/-! ### The classes of a good frame (R134, Table 8-3) -/

theorem isGateFrame_of (gate : halfAt f 12 = 0x88B5#16) : isGateFrame f = true := beq_iff_eq.2 gate

theorem classify_malformed (gate : halfAt f 12 = 0x88B5#16) (bad : frameVersion f ≠ 1 ∨ 4 < frameKind f)
    (s : State) (p : Port) : s.classify p f = .malformed :=
  (if_pos (isGateFrame_of gate)).trans (if_pos bad)

/-- A management request (rows 2 and 3): to the station address, or a DISCOVER to the broadcast address. -/
def State.isRequest (s : State) (f : List Byte) : Prop :=
  frameKind f = 2 ∧ (frameDest f = s.stationAddr ∨ frameDest f = 0xFFFFFFFFFFFF#48 ∧
    2 ≤ (requestBody f).length ∧ natAt (requestBody f) 0 2 = 0x0001)

/-- A gate frame with a sound header is not malformed (row 1). -/
theorem not_malformed (version : frameVersion f = 1) (kind : frameKind f ≤ 4) :
    ¬ (frameVersion f ≠ 1 ∨ 4 < frameKind f) := by omega

theorem classify_request (gate : halfAt f 12 = 0x88B5#16) (version : frameVersion f = 1)
    (asks : s.isRequest f) (p : Port) : s.classify p f = .request := by
  obtain ⟨kind, address⟩ := asks
  rw [State.classify, if_pos (isGateFrame_of gate), if_neg (not_malformed version (by omega))]
  rcases address with direct | discover
  · exact if_pos ⟨kind, direct⟩
  · rw [if_pos (c := _ ∧ frameDest f = broadcast ∧ _) ⟨kind, discover⟩, ite_self]

/-- The gate frames that are neither request nor mark nor stream data. -/
theorem classify_background (gate : halfAt f 12 = 0x88B5#16) (version : frameVersion f = 1)
    (kind : frameKind f ≤ 4) (noData : frameKind f ≠ 0) (noRequest : ¬ s.isRequest f)
    (noMark : frameKind f = 1 → p ≠ s.markPort) : s.classify p f = .background := by
  rw [State.classify, if_pos (isGateFrame_of gate), if_neg (not_malformed version kind),
    if_neg (fun direct => noRequest ⟨direct.1, .inl direct.2⟩),
    if_neg (fun discover => noRequest ⟨discover.1, .inr discover.2⟩),
    if_neg (fun mark => noMark mark.1 mark.2), if_neg noData]

theorem classify_ungated (ungated : halfAt f 12 ≠ 0x88B5#16) (s : State) (p : Port) :
    s.classify p f = .background :=
  if_neg (by simpa [isGateFrame] using ungated)

theorem goodFrame_malformed (judged : s.classify p f = .malformed) (r : StartRecord) :
    s.goodFrame p r f = s.countPort p (fun c => { c with malformed := c.malformed + 1#32 }) := by
  rw [State.goodFrame, judged]

theorem goodFrame_request (judged : s.classify p f = .request) (r : StartRecord) :
    s.goodFrame p r f = s.managementRequest p f := by
  rw [State.goodFrame, judged]

theorem goodFrame_streamData (judged : s.classify p f = .streamData) (r : StartRecord) :
    s.goodFrame p r f = s.streamData p r f := by
  rw [State.goodFrame, judged]

theorem goodFrame_background (judged : s.classify p f = .background) (r : StartRecord) :
    s.goodFrame p r f = s.backgroundFrame p f := by
  rw [State.goodFrame, judged]

/-- Settles O14: row 1 of Table 8-3 comes before every reading of address and port. -/
theorem malformedFramesAreDiscarded : Obligations.MalformedFramesAreDiscarded := by
  intro s p r f least most sound gate bad
  refine ⟨by decide, ?_, ?_⟩
  · rw [frameContent, List.length_take]
    omega
  · rw [receiveFrame_good least most sound, goodFrame_malformed (classify_malformed gate bad _ p),
      countPort_countPort]

/-! ### Requests, unknown tags and background frames (R135, R137, R138, R166) -/

theorem managementRequest_accepted (inside : s.agent.mgmtPorts.getLsbD p.index = true) (f : List Byte) :
    s.managementRequest p f =
      (s.countPort p (fun c => { c with requestsAccepted := c.requestsAccepted + 1#32 })).intakeRequest
        (requestOf p f) :=
  if_pos inside

theorem managementRequest_foreign (outside : s.agent.mgmtPorts.getLsbD p.index = false) (f : List Byte) :
    s.managementRequest p f =
      (s.countPort p (fun c => { c with foreign := c.foreign + 1#32 })).raise (occForeign p (foreignCode f)) :=
  if_neg (by rw [PortSet.has, outside]; exact Bool.false_ne_true)

theorem intakeRequest_taken (room : s.agent.intake.length < 4) (x : Request) :
    s.intakeRequest x = s.setAgent { s.agent with intake := s.agent.intake ++ [x] } :=
  if_pos room

theorem intakeRequest_discarded (full : 4 ≤ s.agent.intake.length) (x : Request) :
    s.intakeRequest x = s.setAgent { s.agent with intakeDiscards := s.agent.intakeDiscards + 1#32 } :=
  if_neg (by omega)

/-- A tag that no enabled stream of the active set carries is not found (R7, R137). -/
theorem lookupTag_unknown {tag : Half}
    (unknown : ∀ i : StreamIx, (s.streamRec i).enabled = true → (s.streamRec i).tag ≠ tag) :
    s.lookupTag tag = none := by
  refine List.find?_eq_none.2 fun i _ meets => ?_
  simp only [Bool.and_eq_true, decide_eq_true_eq] at meets
  obtain ⟨enabled, carries⟩ := meets
  exact unknown i enabled carries

theorem streamData_unknown (unknown : s.lookupTag (frameTag f) = none) (p : Port) (r : StartRecord) :
    s.streamData p r f =
      (s.countPort p (fun c => { c with unknownTag := c.unknownTag + 1#32 })).raise
        (occUnknown p (frameTag f)) := by
  rw [State.streamData, unknown]

theorem backgroundFrame_unforwarded (nowhere : s.backgroundPorts p = []) (f : List Byte) :
    s.backgroundFrame p f =
      (s.countPort p (fun c => { c with background := c.background + 1#32 })).countPort p (fun c => { c with
        backgroundUnforwarded := c.backgroundUnforwarded + 1#32 }) :=
  if_pos (List.isEmpty_iff.2 nowhere)

theorem backgroundFrame_forwarded (somewhere : s.backgroundPorts p ≠ []) (f : List Byte) :
    s.backgroundFrame p f =
      (s.backgroundPorts p).foldl (fun t q => t.offerBackground s.nextFrame q)
        ((s.countPort p (fun c => { c with background := c.background + 1#32 })).holdFrame p f) :=
  if_neg (fun empty => somewhere (List.isEmpty_iff.1 empty))

end

theorem backgroundRoom_iff (s : State) (q : Port) :
    s.backgroundRoom q = true ↔ s.link q = .up ∧ (s.egress.get q).background.length < 16 := by
  simp [State.backgroundRoom, State.hasRoom]

/-- The body is shorter than the payload length where the bytes before the FCS are (R180). -/
theorem requestOf_eq (p : Port) (f : List Byte) :
    requestOf p f =
      { port := p, source := addrAt f 6, body := requestBody f
        overrun := decide (f.length - 4 - 22 < natAt f 18 2) } := by
  have content : ((frameContent f).drop 22).length = f.length - 4 - 22 := by simp [frameContent]
  rw [requestOf, content]
  rfl

/-- The conditions of the statement on background frames, over the classes of Table 8-3. -/
theorem classify_background_of {s : State} {p : Port} {f : List Byte}
    (other : halfAt f 12 ≠ 0x88B5#16 ∨ frameVersion f = 1 ∧
      (frameKind f = 1 ∧ p ≠ s.active.settings.markPort ∨ frameKind f = 3 ∨ frameKind f = 4 ∨
        frameKind f = 2 ∧ frameDest f ≠ s.stationAddr ∧
          ¬ (frameDest f = 0xFFFFFFFFFFFF#48 ∧ 2 ≤ (requestBody f).length ∧
            natAt (requestBody f) 0 2 = 0x0001))) : s.classify p f = .background := by
  by_cases gate : halfAt f 12 = 0x88B5#16
  · obtain ungated | ⟨version, kinds⟩ := other
    · exact absurd gate ungated
    · have other_kind (k : frameKind f ≠ 2) : ¬ s.isRequest f := fun asks => k asks.1
      rcases kinds with ⟨kind, port⟩ | kind | kind | ⟨kind, direct, discover⟩
      · exact classify_background gate version (by omega) (by omega) (other_kind (by omega)) (fun _ => port)
      · exact classify_background gate version (by omega) (by omega) (other_kind (by omega)) (by omega)
      · exact classify_background gate version (by omega) (by omega) (other_kind (by omega)) (by omega)
      · exact classify_background gate version (by omega) (by omega) (fun asks => asks.2.elim direct discover)
          (by omega)
  · exact classify_ungated gate s p

/-- Settles O15, class by class, then the offer of a background frame and the reading of a request. -/
theorem requestsAndUnknownTagsAreSorted : Obligations.RequestsAndUnknownTagsAreSorted := by
  refine ⟨fun s p r f gate version kind address => ?_, fun s p r f gate version kind unknown => ?_,
    fun s p r f other => ?_, fun s ref q => ⟨fun up room => ?_, fun closed => ?_⟩,
    fun p f => ⟨rfl, requestOf_eq p f, fun short => if_pos short, fun long => if_neg (by omega)⟩⟩
  · have path := goodFrame_request (classify_request gate version ⟨kind, address⟩ p) r
    refine ⟨fun inside room => ?_, fun inside full => ?_, fun outside => ?_⟩
    · rw [path, managementRequest_accepted inside]
      exact intakeRequest_taken (s := s.countPort p _) room _
    · rw [path, managementRequest_accepted inside]
      exact intakeRequest_discarded (s := s.countPort p _) full _
    · rw [path, managementRequest_foreign outside]
      rfl
  · rw [goodFrame_streamData (classify_streamData gate version kind s p),
      streamData_unknown (lookupTag_unknown unknown)]
    rfl
  · have path := goodFrame_background (classify_background_of other) r
    exact ⟨fun nowhere => path.trans (backgroundFrame_unforwarded nowhere f),
      fun somewhere => path.trans (backgroundFrame_forwarded somewhere f)⟩
  · exact if_pos ((backgroundRoom_iff s q).2 ⟨up, room⟩)
  · refine if_neg fun room => ?_
    obtain ⟨up, room⟩ := (backgroundRoom_iff s q).1 room
    rcases closed with down | full
    · exact nomatch up.symm.trans down
    · omega

end Sys2Proof.Machine
end

section
/-! SUPPORT. What the path of a frame leaves of every port unit and of a restart wait, operation by operation;
then the statement on the arrival of a frame. -/

namespace Sys2Proof.Machine

/-! ### What the judgement of a frame keeps -/

/-- The link states, the receptions and the good counters stay, and no restart wait begins. -/
structure JudgementKeeps (s t : State) : Prop where
  link : ∀ q : Port, t.link q = s.link q
  reception : ∀ q : Port, (t.ports.get q).reception = (s.ports.get q).reception
  good : ∀ q : Port, (t.ports.get q).counters.good = (s.ports.get q).counters.good
  wait : s.agent.restartWait = none → t.agent.restartWait = none

theorem JudgementKeeps.refl (s : State) : JudgementKeeps s s :=
  ⟨fun _ => rfl, fun _ => rfl, fun _ => rfl, id⟩

section
variable {s t u : State}

theorem JudgementKeeps.trans (h : JudgementKeeps s t) (k : JudgementKeeps t u) : JudgementKeeps s u :=
  ⟨fun q => (k.link q).trans (h.link q), fun q => (k.reception q).trans (h.reception q),
    fun q => (k.good q).trans (h.good q), fun none => k.wait (h.wait none)⟩

/-- A change that touches no port unit keeps them, whatever it does to the agent beside the wait. -/
theorem JudgementKeeps.of_ports (ports : t.ports = s.ports)
    (wait : s.agent.restartWait = none → t.agent.restartWait = none) : JudgementKeeps s t :=
  ⟨fun q => congrArg (fun v => (PerPort.get v q).link) ports,
    fun q => congrArg (fun v => (PerPort.get v q).reception) ports,
    fun q => congrArg (fun v => (PerPort.get v q).counters.good) ports, wait⟩

/-- What follows and touches neither ports nor agent. -/
theorem JudgementKeeps.aside (h : JudgementKeeps s t) {f : Footprint} (k : Within f t u)
    (beside : (f.ports || f.agent) = false) : JudgementKeeps s u := by
  obtain ⟨ports, agent⟩ := Bool.or_eq_false_iff.1 beside
  exact h.trans (.of_ports (k.ports ports) (fun none => (k.agent agent).symm ▸ none))

theorem judgementKeeps_of_within {f : Footprint} (k : Within f s t)
    (beside : (f.ports || f.agent) = false) : JudgementKeeps s t :=
  (JudgementKeeps.refl s).aside k beside

/-- A list of changes, each of which keeps the port units. -/
theorem JudgementKeeps.foldl {α : Type} {change : State → α → State}
    (keeps : ∀ t x, JudgementKeeps t (change t x)) (l : List α) (s : State) :
    JudgementKeeps s (l.foldl change s) :=
  List.foldlRecOn (motive := JudgementKeeps s) l change (.refl s) (fun t h x _ => h.trans (keeps t x))

end

/-- A port counter other than that of good frames counts. -/
theorem countPort_keeps (s : State) (p : Port) {f : PortCounters → PortCounters}
    (good : ∀ c, (f c).good = c.good) : JudgementKeeps s (s.countPort p f) := by
  refine ⟨fun q => countPort_link s p q f, fun q => countPort_reception s p q f, fun q => ?_, id⟩
  rw [countPort_ports, perPort_get_set]
  split
  · next same => rw [same]; exact good _
  · rfl

/-- A count on a port unit, and what follows it. -/
theorem JudgementKeeps.counted {s t : State} {p : Port} {f : PortCounters → PortCounters}
    (h : JudgementKeeps (s.countPort p f) t) (good : ∀ c, (f c).good = c.good) : JudgementKeeps s t :=
  (countPort_keeps s p good).trans h

/-! ### Offers (R143) -/

theorem offerCyclic_keeps (s : State) (e : CyclicEntry) (p : Port) : JudgementKeeps s (s.offerCyclic e p) := by
  unfold State.offerCyclic
  split
  · exact judgementKeeps_of_within (updateEgress_within s p _) rfl
  · exact .counted (judgementKeeps_of_within (raise_within _ _) rfl) fun _ => rfl

theorem offerCyclicTo_keeps (s : State) (e : CyclicEntry) (ps : List Port) :
    JudgementKeeps s (s.offerCyclicTo e ps) := by
  have drawn : JudgementKeeps s (s.draw 1) := judgementKeeps_of_within (draw_within s 1) rfl
  unfold State.offerCyclicTo
  split
  · exact drawn.trans (.foldl (fun t p => offerCyclic_keeps t e p) _ _)
  · exact .foldl (fun t p => offerCyclic_keeps t e p) _ _

theorem offerBackground_keeps (s : State) (ref : Nat) (p : Port) :
    JudgementKeeps s (s.offerBackground ref p) := by
  unfold State.offerBackground
  split
  · exact judgementKeeps_of_within (updateEgress_within s p _) rfl
  · exact countPort_keeps s p fun _ => rfl

/-! ### The stream table (R13, R23 to R38) -/

theorem forwardReal_keeps (s : State) (i : StreamIx) (p : Port) (c : Phase) (ref : Nat) :
    JudgementKeeps s (s.forwardReal i p c ref) :=
  offerCyclicTo_keeps s _ _

theorem offerSubstitutes_keeps (s : State) (i : StreamIx) (p : Port) :
    JudgementKeeps s (s.offerSubstitutes i p) := by
  unfold State.offerSubstitutes
  cases (s.streamRec i).template with
  | some _ => exact offerCyclicTo_keeps s _ _
  | none => exact .refl s

theorem updateStream_keeps (s : State) (i : StreamIx) (f : StreamRun → StreamRun) :
    JudgementKeeps s (s.updateStream i f) :=
  judgementKeeps_of_within (updateStream_within s i f) rfl

theorem seek_keeps (s : State) (i : StreamIx) : JudgementKeeps s (s.seek i) := by
  unfold State.seek
  exact updateStream_keeps s i _

theorem enterHeld_keeps (s : State) (i : StreamIx) (c : HoldCause) : JudgementKeeps s (s.enterHeld i c) :=
  judgementKeeps_of_within (enterHeld_within s i c) rfl

theorem lock_keeps (s : State) (i : StreamIx) (p : Port) (c : Phase) (ref : Nat) :
    JudgementKeeps s (s.lock i p c ref) :=
  ((updateStream_keeps s i _).trans (forwardReal_keeps _ i p c ref)).aside (raise_within _ _) rfl

theorem repeated_keeps (s : State) (i : StreamIx) (p : Port) (c : Phase) (ref : Nat) :
    JudgementKeeps s (s.repeated i p c ref) := by
  unfold State.repeated
  cases (s.streamRec i).repeatPolicy with
  | forward => exact (updateStream_keeps s i _).trans (forwardReal_keeps _ i p c ref)
  | drop => exact updateStream_keeps s i _

theorem advance_keeps (s : State) (i : StreamIx) (p : Port) (c : Phase) (ref : Nat) :
    JudgementKeeps s (s.advance i p c ref) := by
  have forwarded := (updateStream_keeps s i fun r => r.advanced (s.streamRec i) s.timer.cycleCount).trans
    (forwardReal_keeps _ i p c ref)
  unfold State.advance
  dsimp only
  split
  · exact forwarded.aside (raise_within _ _) rfl
  · exact forwarded

theorem stray_keeps (s : State) (i : StreamIx) (p : Port) (c : Phase) : JudgementKeeps s (s.stray i p c) := by
  have strayed : JudgementKeeps s (s.strayed i p c) := (updateStream_keeps s i _).aside (raise_within _ _) rfl
  have held := strayed.trans (enterHeld_keeps _ i .stray)
  unfold State.stray
  cases (s.streamRec i).strayPolicy with
  | count => exact strayed
  | hold => exact held
  | holdAndQuench => exact held.aside (addCause_within _ _) rfl

theorem admittedFrame_keeps (s : State) (i : StreamIx) (p : Port) (c : Phase) (ref : Nat) :
    JudgementKeeps s (s.admittedFrame i p c ref) := by
  unfold State.admittedFrame
  cases s.streams[i].state with
  | disabled => exact .refl s
  | armed =>
    dsimp only
    split
    · exact lock_keeps s i p c ref
    · exact seek_keeps s i
  | running =>
    dsimp only
    split
    · exact repeated_keeps s i p c ref
    · split
      · exact advance_keeps s i p c ref
      · exact stray_keeps s i p c
  | held => exact offerSubstitutes_keeps s i p

theorem stallStream_keeps (s : State) (i : StreamIx) (p : Port) : JudgementKeeps s (s.stallStream i p) := by
  have held : JudgementKeeps s (s.stallHeld i p) :=
    (judgementKeeps_of_within (raise_within s _) rfl).trans (enterHeld_keeps _ i .stall)
  cases policy : (s.streamRec i).stallPolicy with
  | hold => rw [stallStream_hold policy]; exact held
  | holdAndQuench => rw [stallStream_holdAndQuench policy]; exact held.aside (addCause_within _ _) rfl

theorem absentStream_keeps (s : State) (i : StreamIx) (p : Port) : JudgementKeeps s (s.absentStream i p) := by
  have absent := updateStream_keeps s i StreamRun.absent
  have filled : JudgementKeeps s (s.absentFilled i p) := by
    unfold State.absentFilled
    split
    · exact absent.trans (offerSubstitutes_keeps _ i p)
    · exact absent
  rw [absentStream_eq]
  split
  · exact filled.trans (stallStream_keeps _ i p)
  · exact filled

theorem examineStream_keeps (s : State) (w : WindowIx) (i : StreamIx) :
    JudgementKeeps s (s.examineStream w i) := by
  unfold State.examineStream
  split
  · split
    · exact updateStream_keeps s i _
    · exact absentStream_keeps s i _
  · exact .refl s

/-! ### The timer takes a mark (R67, R70 to R74) -/

theorem takeClose_keeps (s : State) (w : WindowIx) : JudgementKeeps s (s.takeClose w) := by
  have noted : JudgementKeeps s (s.noteClose w) := judgementKeeps_of_within (noteClose_within s w) rfl
  unfold State.takeClose
  cases s.active.windows[w].kind with
  | admitting => exact noted.trans (.foldl (fun t i => examineStream_keeps t w i) allStreams _)
  | guard => exact noted.aside (callSelection_within _ _) rfl

/-- The cut-offs hand an outcome to a restart wait, and begin none (R149, R177). -/
theorem cutOffs_keeps (s : State) : JudgementKeeps s s.cutOffs :=
  .of_ports ((cutOffs_within s).ports rfl) fun none =>
    cutOffs_keep_property (P := fun t => t.agent.restartWait = .none) none (fun _ h => h)
      (fun _ p h => cutOff_no_wait p h)

theorem onTimeMark_keeps (s : State) : JudgementKeeps s s.onTimeMark :=
  judgementKeeps_of_within (onTimeMark_within s) rfl

theorem setTimer_keeps (s : State) (v : Timer) : JudgementKeeps s (s.setTimer v) :=
  judgementKeeps_of_within (setTimer_within s v) rfl

theorem earlyMark_keeps (s : State) (o w : Nat) : JudgementKeeps s (s.earlyMark o w) := by
  have moved := setTimer_keeps s { s.timer with counter := w }
  have advanced : JudgementKeeps s (s.advanceCounter w) :=
    ((moved.trans (.foldl takeClose_keeps _ _)).trans (cutOffs_keeps _)).aside (callSelections_within _) rfl
  exact (advanced.trans (setTimer_keeps _ _)).trans (onTimeMark_keeps _)

theorem judgeMark_keeps (s : State) (r : StartRecord) (len : Nat) : JudgementKeeps s (s.judgeMark r len) := by
  obtain e | e | ⟨c, o, e⟩ | ⟨o, w, e⟩ := judgeMark_cases s r len <;> rw [e]
  · exact .refl s
  · exact judgementKeeps_of_within (markFault_within s _) rfl
  · exact judgementKeeps_of_within (lateMark_within s c o) rfl
  · exact earlyMark_keeps s o w

theorem handCycleStart_keeps (s : State) (first : Bool) : JudgementKeeps s (s.handCycleStart first) :=
  .of_ports ((handCycleStart_within s first).ports rfl) (handCycleStart_no_wait first)

theorem startOnMark_keeps (s : State) (len : Nat) : JudgementKeeps s (s.startOnMark len) := by
  have started := (setTimer_keeps s { s.timer with
    state := .running, cycleCount := 0#32, counter := wireTime len }).trans (handCycleStart_keeps _ true)
  unfold State.startOnMark
  dsimp only
  split
  · exact (started.trans (setTimer_keeps _ _)).trans (onTimeMark_keeps _)
  · exact started.trans (setTimer_keeps _ _)

theorem timerTakesMark_keeps (s : State) (r : StartRecord) (len : Nat) :
    JudgementKeeps s (s.timerTakesMark r len) := by
  cases state : s.timer.state with
  | stopped => rw [timerTakesMark_stopped state]; exact .refl s
  | armed =>
    rw [timerTakesMark_armed state]
    split
    · exact startOnMark_keeps s len
    · exact .refl s
  | running => rw [timerTakesMark_running state]; exact judgeMark_keeps s r len

/-! ### The paths of a good frame (R134) -/

theorem streamFrame_keeps (s : State) (i : StreamIx) (p : Port) (r : StartRecord) (f : List Byte) :
    JudgementKeeps s (s.streamFrame i p r f) := by
  cases judged : s.admission i p r with
  | misplaced code =>
    rw [streamFrame_misplaced judged]
    exact (updateStream_keeps s i _).aside (raise_within _ _) rfl
  | surplus =>
    rw [streamFrame_surplus judged]
    exact (updateStream_keeps s i _).aside (raise_within _ _) rfl
  | admitted =>
    rw [streamFrame_admitted judged]
    exact ((updateStream_keeps s i _).aside (holdFrame_within _ p f) rfl).trans (admittedFrame_keeps _ i p _ _)

theorem streamData_keeps (s : State) (p : Port) (r : StartRecord) (f : List Byte) :
    JudgementKeeps s (s.streamData p r f) := by
  cases found : s.lookupTag (frameTag f) with
  | some i => rw [State.streamData, found]; exact streamFrame_keeps s i p r f
  | none =>
    rw [streamData_unknown found]
    exact .counted (judgementKeeps_of_within (raise_within _ _) rfl) fun _ => rfl

/-- The intake queue and its counter are not the restart wait. -/
theorem intakeRequest_keeps (s : State) (x : Request) : JudgementKeeps s (s.intakeRequest x) := by
  unfold State.intakeRequest
  split
  · exact .of_ports rfl id
  · exact .of_ports rfl id

theorem managementRequest_keeps (s : State) (p : Port) (f : List Byte) :
    JudgementKeeps s (s.managementRequest p f) := by
  unfold State.managementRequest
  split
  · exact .counted (intakeRequest_keeps _ _) fun _ => rfl
  · exact .counted (judgementKeeps_of_within (raise_within _ _) rfl) fun _ => rfl

theorem cycleMark_keeps (s : State) (p : Port) (r : StartRecord) (f : List Byte) :
    JudgementKeeps s (s.cycleMark p r f) := by
  have counted := countPort_keeps s p (f := fun c => { c with marks := c.marks + 1#32 }) fun _ => rfl
  have forwarded := (counted.aside (holdFrame_within _ p f) rfl).trans
    (offerCyclicTo_keeps _ (.mark s.nextFrame) (s.active.settings.markForward.portsWithout p))
  exact forwarded.trans (timerTakesMark_keeps _ r f.length)

theorem backgroundFrame_keeps (s : State) (p : Port) (f : List Byte) :
    JudgementKeeps s (s.backgroundFrame p f) := by
  have counted := countPort_keeps s p (f := fun c => { c with background := c.background + 1#32 }) fun _ => rfl
  by_cases nowhere : s.backgroundPorts p = []
  · rw [backgroundFrame_unforwarded nowhere]
    exact counted.trans (countPort_keeps _ p fun _ => rfl)
  · rw [backgroundFrame_forwarded nowhere]
    exact (counted.aside (holdFrame_within _ p f) rfl).trans
      (.foldl (fun t q => offerBackground_keeps t _ q) _ _)

theorem goodFrame_keeps (s : State) (p : Port) (r : StartRecord) (f : List Byte) :
    JudgementKeeps s (s.goodFrame p r f) := by
  unfold State.goodFrame
  cases s.classify p f with
  | malformed => exact countPort_keeps s p fun _ => rfl
  | request => exact managementRequest_keeps s p f
  | mark => exact cycleMark_keeps s p r f
  | streamData => exact streamData_keeps s p r f
  | background => exact backgroundFrame_keeps s p f

/-- A judgement counts on the arrival port, a good frame on its counter; the path of a good frame keeps what
that leaves. -/
theorem receiveFrame_counts (s : State) (p : Port) (r : StartRecord) (f : List Byte) :
    ∃ count : PortCounters → PortCounters, JudgementKeeps (s.countPort p count) (s.receiveFrame p r f) ∧
      (64 ≤ f.length → f.length ≤ 1522 → fcsMatches f = true → ∀ c, (count c).good = c.good + 1#32) := by
  have discarded {count : PortCounters → PortCounters} (judged : s.receiveFrame p r f = s.countPort p count) :
      JudgementKeeps (s.countPort p count) (s.receiveFrame p r f) := judged ▸ .refl _
  by_cases short : f.length < 64
  · exact ⟨_, discarded (receiveFrame_runt short s p r), by omega⟩
  by_cases long : 1522 < f.length
  · exact ⟨_, discarded (receiveFrame_giant long s p r), by omega⟩
  have least : 64 ≤ f.length := by omega
  have most : f.length ≤ 1522 := by omega
  cases sound : fcsMatches f with
  | false => exact ⟨_, discarded (receiveFrame_fcsError least most sound s p r), nofun⟩
  | true =>
    rw [receiveFrame_good least most sound]
    exact ⟨_, goodFrame_keeps _ p r f, fun _ _ _ _ => rfl⟩

/-! ### What follows when a frame has left reception (R75, R76, R177) -/

/-- The intervals close and the arbiters are called over port units and agent as they are. -/
theorem afterReception_keeps (before after : State) (p : Port) (r : Option Reception) :
    JudgementKeeps after (before.noteAdvanceEnd (before.endHolds after p r)) :=
  (judgementKeeps_of_within (endHolds_within before after p r) rfl).aside (noteAdvanceEnd_within before _) rfl

/-- Without a restart wait no restart takes place (R177). -/
theorem settleRestart_absent {s : State} (absent : s.agent.restartWait = none) : s.settleRestart = s :=
  settleRestart_waits s fun _ present => nomatch absent.symm.trans present

theorem running_false {s : State} (idle : s.timer.state ≠ .running) : s.running = false :=
  decide_eq_false idle

/-- No advance is pending while the timer is not RUNNING (R76). -/
theorem pendingAdvance_idle {s : State} (idle : s.timer.state ≠ .running) : s.pendingAdvance = 0 := by
  have none : s.candidateStart = none := by
    unfold State.candidateStart
    rw [running_false idle]
    cases (s.ports.get s.markPort).reception <;> rfl
  rw [State.pendingAdvance, State.candidate, none]

theorem noteAdvanceEnd_idle {s t : State} (before : s.timer.state ≠ .running) (after : t.timer.state ≠ .running) :
    s.noteAdvanceEnd t = t :=
  if_pos ((pendingAdvance_idle before).trans (pendingAdvance_idle after).symm)

/-- No interval closes while the timer is not RUNNING (R75). -/
theorem endHolds_idle {t : State} (idle : t.timer.state ≠ .running) (s : State) (p : Port) (r : Reception) :
    s.endHolds t p (some r) = t := by
  have past : t.intervalOver = false := by
    rw [State.intervalOver, running_false idle]
    rfl
  have closed : t.closeIntervalIfOver = t := if_neg (by rw [past]; exact Bool.false_ne_true)
  rw [State.endHolds, closeHeldInterval_free (.inl idle), closed, ite_self]

section
variable {s : State} {p : Port} {r : Reception}

theorem exec_frameArrival_early
    (early : (s.ports.get p).reception = none ∨
      ∃ r, (s.ports.get p).reception = some r ∧ r.elapsed < wireTime r.frame.length) :
    exec (.frameArrival p) s = .next s := by
  show execFrameArrival p s = _
  rw [execFrameArrival]
  rcases early with free | ⟨r, occupied, early⟩
  · rw [free]
  · rw [occupied]
    exact congrArg _ (if_neg (by omega))

/-- While the timer is not RUNNING and no restart waits, nothing follows the judgement of a frame. -/
theorem afterReception_idle {t : State} (before : s.timer.state ≠ .running) (after : t.timer.state ≠ .running)
    (absent : t.agent.restartWait = none) (p : Port) (r : Reception) :
    (s.noteAdvanceEnd (s.endHolds t p (some r))).settleRestart = t := by
  rw [endHolds_idle after, noteAdvanceEnd_idle before after, settleRestart_absent absent]

/-- The arrival of a frame that its judgement discards, where nothing follows the judgement. -/
theorem exec_frameArrival_discarded (occupied : (s.ports.get p).reception = some r)
    (passed : wireTime r.frame.length ≤ r.elapsed) (idle : s.timer.state ≠ .running)
    (absent : s.agent.restartWait = none) {count : PortCounters → PortCounters}
    (judged : (s.clearReception p).receiveFrame p r.start r.frame = (s.clearReception p).countPort p count) :
    exec (.frameArrival p) s = .next
      (s.updatePort p (fun u => { u with reception := none, counters := count u.counters })).releaseFrames := by
  have counted : (s.clearReception p).countPort p count =
      s.updatePort p (fun u => { u with reception := none, counters := count u.counters }) :=
    updatePort_updatePort s p _ _
  rw [exec_frameArrival_passed occupied passed, State.frameArrives, judged, counted,
    afterReception_idle (t := s.updatePort p _) idle idle absent]

theorem clearReception_unit (s : State) (p : Port) :
    (s.clearReception p).ports.get p = { s.ports.get p with reception := none } :=
  perPort_get_set_same _ _ _

/-- An arrival where no restart waits: the port has no frame in reception any more, a good frame is counted,
and the link state stays. -/
theorem frameArrives_unit (absent : s.agent.restartWait = none) (p : Port) (r : Reception) :
    ((s.frameArrives p r).ports.get p).reception = none ∧
    (64 ≤ r.frame.length → r.frame.length ≤ 1522 → fcsMatches r.frame = true →
      ((s.frameArrives p r).ports.get p).counters.good = (s.ports.get p).counters.good + 1#32) ∧
    (s.frameArrives p r).link p = s.link p := by
  obtain ⟨count, judged, good⟩ := receiveFrame_counts (s.clearReception p) p r.start r.frame
  have kept := judged.trans (afterReception_keeps s _ p (some r))
  have unit : ((s.clearReception p).countPort p count).ports.get p =
      { s.ports.get p with reception := none, counters := count (s.ports.get p).counters } := by
    rw [countPort_ports, perPort_get_set_same, clearReception_unit]
  rw [State.frameArrives, settleRestart_absent (kept.wait absent)]
  refine ⟨(kept.reception p).trans (by rw [unit]), fun least most sound => (kept.good p).trans ?_,
    (kept.link p).trans (by rw [State.link, unit, State.link])⟩
  rw [unit]
  exact good least most sound _

end

/-! ### A restart that waited takes place behind the judgement (R177, log 38, log 45) -/

/-- The last two steps of an arrival and of a link down, by what stands of the restart wait. -/
theorem settle_and_release (s : State) :
    ((∀ w, s.agent.restartWait = some w → w.failed = true → s.base < w.deadline) →
      s.settleRestart.releaseFrames = s.releaseFrames) ∧
    (∀ w, s.agent.restartWait = some w → w.failed = true → w.deadline ≤ s.base →
      s.settleRestart.releaseFrames = s.warmRestart.releaseFrames) :=
  ⟨fun waits => congrArg _ (settleRestart_waits s waits),
    fun _ wait failed past => congrArg _ (settleRestart_over wait failed past)⟩

/-- Settles O13: what follows a judgement, the four judgements, what an arrival leaves of its port, a discarded
frame while nothing else is pending, and the time before the arrival. -/
theorem frameArrivalJudgesTheFrame : Obligations.FrameArrivalJudgesTheFrame := by
  refine ⟨fun s p r occupied passed => ?_,
    fun s p r f => ⟨fun short => receiveFrame_runt short s p r, fun long => receiveFrame_giant long s p r,
      fun least most wrong => receiveFrame_fcsError least most wrong s p r,
      fun least most sound => receiveFrame_good least most sound s p r⟩,
    fun s p r occupied passed absent => ⟨_, exec_frameArrival_passed occupied passed, frameArrives_unit absent p r⟩,
    fun s p r occupied passed idle absent => ?_, fun s p early => exec_frameArrival_early early⟩
  · rw [exec_frameArrival_passed occupied passed]
    obtain ⟨waits, ends⟩ := settle_and_release (s.noteAdvanceEnd
      (s.endHolds ((s.clearReception p).receiveFrame p r.start r.frame) p (some r)))
    exact ⟨_, _, _, rfl, rfl, rfl, fun early => congrArg _ (waits early),
      fun w wait failed past => congrArg _ (ends w wait failed past)⟩
  · have discarded {count : PortCounters → PortCounters} :=
      exec_frameArrival_discarded (count := count) occupied passed idle absent
    exact ⟨fun short => discarded (receiveFrame_runt short _ p _),
      fun long => discarded (receiveFrame_giant long _ p _),
      fun least most wrong => discarded (receiveFrame_fcsError least most wrong _ p _)⟩

end Sys2Proof.Machine
end

section
/-! SUPPORT. The statement on link reports: what a change to DOWN does to the port and to its egress unit, and
what follows it. -/

namespace Sys2Proof.Machine

/-! ### The port and its egress unit at a change to DOWN (R129, R150) -/

/-- Two changes that agree on the port unit are one change of the state. -/
theorem updatePort_congr {s : State} {p : Port} {f g : PortUnit → PortUnit}
    (agree : f (s.ports.get p) = g (s.ports.get p)) : s.updatePort p f = s.updatePort p g := by
  rw [State.updatePort, agree, State.updatePort]

theorem updatePort_id (s : State) (p : Port) : s.updatePort p (fun u => u) = s := by
  cases p <;> rfl

/-- A port unit without its frame in reception, which is counted where there was one (R129). -/
def PortUnit.aborted (u : PortUnit) : PortUnit :=
  { u with
    reception := none
    counters := { u.counters with
      abortedReceptions := u.counters.abortedReceptions + (if u.reception.isSome then 1#32 else 0#32) } }

/-- Without a frame in reception nothing is counted. -/
theorem PortUnit.aborted_free {u : PortUnit} (free : u.reception = none) : u.aborted = u := by
  obtain ⟨link, reception, counters⟩ := u
  cases free
  simp [PortUnit.aborted]

theorem abortReception_eq (s : State) (p : Port) : s.abortReception p = s.updatePort p PortUnit.aborted := by
  cases occupied : (s.ports.get p).reception with
  | none =>
    rw [State.abortReception, occupied,
      updatePort_congr (g := fun u => u) (PortUnit.aborted_free occupied), updatePort_id]
  | some r =>
    rw [State.abortReception, occupied]
    refine (updatePort_updatePort s p _ _).trans (updatePort_congr ?_)
    rw [PortUnit.aborted, occupied]
    rfl

/-- A restart wait after its response has met an outcome, or none (R177). -/
def RestartWait.met (w : RestartWait) (outcome : Bool) : RestartWait := { w with failed := w.failed || outcome }

theorem RestartWait.met_or (w : RestartWait) (a b : Bool) : w.met (a || b) = (w.met a).met b := by
  simp [RestartWait.met, Bool.or_assoc]

theorem restartFailed_if (s : State) (outcome : Bool) :
    (if outcome then s.restartFailed else s) =
      s.setAgent { s.agent with restartWait := s.agent.restartWait.map (fun w => w.met outcome) } := by
  have unmet (same : s.agent.restartWait.map (fun w => w.met outcome) = s.agent.restartWait) :
      s.setAgent { s.agent with restartWait := s.agent.restartWait.map (fun w => w.met outcome) } = s := by
    rw [same]
    rfl
  cases outcome with
  | false => exact (unmet (by simp [RestartWait.met])).symm
  | true =>
    rw [if_pos rfl]
    cases wait : s.agent.restartWait with
    | none =>
      rw [← wait, unmet (by rw [wait]; rfl), State.restartFailed, wait]
    | some w =>
      rw [State.restartFailed, wait]
      simp [RestartWait.met]

/-- A port unit after the flush of an egress unit: the flushed entries and the abandoned frame counted (R150). -/
def PortUnit.flushed (e : Egress) (u : PortUnit) : PortUnit :=
  { u with counters := { u.counters with
      linkFlushDrops := u.counters.linkFlushDrops + BitVec.ofNat 32 e.queued
      abandoned := u.counters.abandoned + (if e.isSending then 1#32 else 0#32) } }

/-- The egress unit of a port whose link has gone DOWN (R150). -/
def Egress.flushed : Egress :=
  { cyclic := [], mgmt := [], background := [], transmitter := .down, selectDue := false }

theorem flushDown_eq (s : State) (p : Port) :
    s.flushDown p =
      ((s.updatePort p (PortUnit.flushed (s.egress.get p))).setAgent { s.agent with
        restartWait := s.agent.restartWait.map (fun w =>
          (w.met (s.egress.get p).queuesRestart).met (s.egress.get p).sendsRestart) }).updateEgress p
        (fun _ => Egress.flushed) := by
  have counted : s.countPort p (fun c => { c with
      linkFlushDrops := c.linkFlushDrops + BitVec.ofNat 32 (s.egress.get p).queued
      abandoned := if (s.egress.get p).isSending then c.abandoned + 1#32 else c.abandoned }) =
      s.updatePort p (PortUnit.flushed (s.egress.get p)) := by
    refine updatePort_congr ?_
    cases sending : (s.egress.get p).isSending <;> simp [PortUnit.flushed, sending]
  rw [State.flushDown, counted, restartFailed_if]
  simp only [RestartWait.met_or]
  rfl

/-- Port, egress unit and restart wait after a change to DOWN, before LINK is raised. -/
def State.lowered (s : State) (p : Port) : State := ((s.setLink p .down).abortReception p).flushDown p

/-- The port unit after a change to DOWN, whose egress unit was e. -/
def PortUnit.lowered (e : Egress) (u : PortUnit) : PortUnit :=
  PortUnit.flushed e (PortUnit.aborted { u with link := .down })

theorem lowered_eq (s : State) (p : Port) :
    s.lowered p =
      ((s.updatePort p (PortUnit.lowered (s.egress.get p))).setAgent { s.agent with
        restartWait := s.agent.restartWait.map (fun w =>
          (w.met (s.egress.get p).queuesRestart).met (s.egress.get p).sendsRestart) }).updateEgress p
        (fun _ => Egress.flushed) := by
  have aborted : (s.setLink p .down).abortReception p =
      s.updatePort p (fun u => PortUnit.aborted { u with link := .down }) :=
    (abortReception_eq _ p).trans (updatePort_updatePort s p _ _)
  rw [State.lowered, aborted, flushDown_eq, updatePort_updatePort]
  rfl

section
variable {s : State} {p : Port}

theorem lowered_unit (s : State) (p : Port) :
    (s.lowered p).ports.get p = (s.ports.get p).lowered (s.egress.get p) := by
  rw [lowered_eq]
  exact perPort_get_set_same _ _ _

theorem lowered_other_unit {q : Port} (other : q ≠ p) : (s.lowered p).ports.get q = s.ports.get q := by
  rw [lowered_eq]
  exact perPort_get_set_other _ other _

theorem lowered_egress (s : State) (p : Port) : (s.lowered p).egress.get p = Egress.flushed := by
  rw [lowered_eq]
  exact perPort_get_set_same _ _ _

theorem lowered_streams (s : State) (p : Port) : (s.lowered p).streams = s.streams := by
  rw [lowered_eq]
  rfl

theorem lowered_timer (s : State) (p : Port) : (s.lowered p).timer = s.timer := by
  rw [lowered_eq]
  rfl

theorem lowered_no_wait (absent : s.agent.restartWait = none) (p : Port) :
    (s.lowered p).agent.restartWait = none := by
  rw [lowered_eq]
  exact congrArg (Option.map _) absent

/-! ### The steps of a change to DOWN, in their order (log 35, log 38, log 45) -/

/-- LINK raised over the lowered port, and the intervals that the discarded frame held closed (log 35). -/
def State.linkClosed (s : State) (p : Port) : State :=
  s.endHolds ((s.lowered p).raise (occLink p .down)) p (s.ports.get p).reception

theorem exec_linkDown_up (up : s.link p = .up) :
    exec (.linkDown p) s = .next (s.noteAdvanceEnd (s.linkClosed p)).settleRestart.releaseFrames := by
  show execLinkDown p s = _
  rw [execLinkDown, up]
  rfl

theorem exec_linkDown_down (down : s.link p = .down) : exec (.linkDown p) s = .next s := by
  show execLinkDown p s = _
  rw [execLinkDown, down]

theorem exec_linkUp_up (up : s.link p = .up) : exec (.linkUp p) s = .next s := by
  show execLinkUp p s = _
  rw [execLinkUp, up]

theorem exec_linkUp_down (down : s.link p = .down) : exec (.linkUp p) s = .next (s.linkUp p) := by
  show execLinkUp p s = _
  rw [execLinkUp, down]

/-- What follows the flush touches no port unit and begins no restart wait. -/
theorem linkClosed_keeps (s : State) (p : Port) :
    JudgementKeeps (s.lowered p) (s.noteAdvanceEnd (s.linkClosed p)) :=
  (judgementKeeps_of_within (raise_within _ _) rfl).trans (afterReception_keeps s _ p _)

/-- A change to DOWN where no restart waits. -/
theorem exec_linkDown_no_wait (up : s.link p = .up) (absent : s.agent.restartWait = none) :
    exec (.linkDown p) s = .next (s.noteAdvanceEnd (s.linkClosed p)).releaseFrames := by
  rw [exec_linkDown_up up, settleRestart_absent ((linkClosed_keeps s p).wait (lowered_no_wait absent p))]

end

/-! ### What the closes and the arbiters leave of a port whose link is DOWN -/

theorem closeHeldInterval_down (s : State) (r : Option Reception) (q : Port) (down : s.link q = .down) :
    (s.closeHeldInterval r).egress.get q = s.egress.get q := by
  unfold State.closeHeldInterval
  split
  · split
    · exact markFault_down s _ q down
    · rfl
  · rfl

theorem endHolds_down (before after : State) (p : Port) (r : Option Reception) (q : Port)
    (down : after.link q = .down) : (before.endHolds after p r).egress.get q = after.egress.get q := by
  have held := closeHeldInterval_down after r q down
  have ports : (after.closeHeldInterval r).ports = after.ports := (closeHeldInterval_within after r).ports rfl
  unfold State.endHolds
  dsimp only
  split
  · exact (closeIntervalIfOver_down _ q (by rw [State.link, ports]; exact down)).trans held
  · exact held

theorem endHolds_keeps_flag (before after : State) (p : Port) (r : Option Reception) (n : Nat)
    (set : after.events.flags.getLsbD n = true) :
    (before.endHolds after p r).events.flags.getLsbD n = true := by
  have held : (after.closeHeldInterval r).events.flags.getLsbD n = true := by
    unfold State.closeHeldInterval
    split
    · split
      · exact markFault_keeps_flag after _ n set
      · exact set
    · exact set
  unfold State.endHolds
  dsimp only
  split
  · exact closeIntervalIfOver_keeps_flag _ n held
  · exact held

/-- Of an egress unit the end of a pending advance touches the call for a selection alone (R148). -/
theorem noteAdvanceEnd_egress (before after : State) (q : Port) :
    ∃ due, (before.noteAdvanceEnd after).egress.get q = { after.egress.get q with selectDue := due } := by
  unfold State.noteAdvanceEnd
  split
  · exact ⟨_, rfl⟩
  · exact ⟨true, perPort_get_map _ _ _⟩

/-! ### The port after a change to DOWN -/

section
variable {s : State} {p : Port}

theorem linkDown_egress (s : State) (p : Port) :
    ∃ due, (s.noteAdvanceEnd (s.linkClosed p)).egress.get p = { Egress.flushed with selectDue := due } := by
  have down : ((s.lowered p).raise (occLink p .down)).link p = .down := by
    rw [raise_link, State.link, lowered_unit]
    rfl
  have closed : (s.linkClosed p).egress.get p = Egress.flushed :=
    (endHolds_down s _ p _ p down).trans ((raise_down _ _ p (by rwa [raise_link] at down)).trans
      (lowered_egress s p))
  rw [← closed]
  exact noteAdvanceEnd_egress s (s.linkClosed p) p

theorem linkDown_ports (s : State) (p : Port) :
    (s.noteAdvanceEnd (s.linkClosed p)).ports = (s.lowered p).ports := by
  rw [(noteAdvanceEnd_within s _).ports rfl, State.linkClosed, (endHolds_within s _ p _).ports rfl, raise_ports]

theorem linkDown_streams (s : State) (p : Port) :
    (s.noteAdvanceEnd (s.linkClosed p)).streams = s.streams := by
  rw [(noteAdvanceEnd_within s _).streams rfl, State.linkClosed, (endHolds_within s _ p _).streams rfl,
    raise_streams, lowered_streams]

theorem linkDown_flag (s : State) (p : Port) :
    (s.noteAdvanceEnd (s.linkClosed p)).events.flags.getLsbD 13 = true := by
  rw [(noteAdvanceEnd_within s _).events rfl]
  exact endHolds_keeps_flag s _ p _ 13 (raise_sets_flag _ (occLink p .down))

/-- The timer's record stays where the discarded frame held no interval (R63, R75, log 15). -/
theorem linkDown_timer
    (free : ∀ r, (s.ports.get p).reception = some r → r.holdsEarlier = false ∧
      (p = s.active.settings.markPort → s.holdsInterval r = false)) :
    (s.noteAdvanceEnd (s.linkClosed p)).timer = s.timer := by
  have unclosed : s.linkClosed p = (s.lowered p).raise (occLink p .down) := by
    unfold State.linkClosed
    cases occupied : (s.ports.get p).reception with
    | none => exact endHolds_none _ rfl rfl
    | some r =>
      obtain ⟨earlier, current⟩ := free r occupied
      rw [endHolds_other _ (Decidable.not_or_of_imp current), closeHeldInterval_free (.inr (.inr earlier))]
  rw [(noteAdvanceEnd_within s _).timer rfl, unclosed, raise_timer, lowered_timer]

end

/-! ### The RESTART response in an egress unit (R177) -/

theorem queuesRestart_iff (e : Egress) :
    e.queuesRestart = true ↔ ∃ f : List Byte, .response f true ∈ e.mgmt := by
  unfold Egress.queuesRestart
  rw [List.any_eq_true]
  constructor
  · rintro ⟨m, mem, restarts⟩
    cases m with
    | response f isRestart => cases restarts; exact ⟨f, mem⟩
    | notification f => cases restarts
  · rintro ⟨f, mem⟩
    exact ⟨_, mem, rfl⟩

theorem sendsRestart_iff (e : Egress) :
    e.sendsRestart = true ↔ ∃ x, e.transmitter = .sending x ∧ x.sent = .response true := by
  unfold Egress.sendsRestart
  cases e.transmitter <;> simp

/-- Settles O11: the reports one by one, the port after a change to DOWN, its whole effect in order, the RESTART
response, and the timer's record. -/
theorem linkReportsChangeThePort : Obligations.LinkReportsChangeThePort := by
  refine ⟨fun s p => ⟨exec_linkUp_up, exec_linkUp_down⟩, fun s p up absent => ?_,
    fun s p down => exec_linkDown_down down, fun s p up => ?_,
    fun e => ⟨queuesRestart_iff e, sendsRestart_iff e⟩, fun s => rfl,
    fun s p up absent free => ⟨_, exec_linkDown_no_wait up absent, linkDown_timer free⟩⟩
  · have unit : ((s.noteAdvanceEnd (s.linkClosed p)).ports.get p) = (s.ports.get p).lowered (s.egress.get p) := by
      rw [linkDown_ports, lowered_unit]
    obtain ⟨due, egress⟩ := linkDown_egress s p
    exact ⟨_, exec_linkDown_no_wait up absent, congrArg PortUnit.link unit, congrArg PortUnit.reception unit,
      congrArg Egress.cyclic egress, congrArg Egress.mgmt egress, congrArg Egress.background egress,
      congrArg Egress.transmitter egress, congrArg PortUnit.counters unit, linkDown_flag s p,
      fun q other => (congrArg (fun v => PerPort.get v q) (linkDown_ports s p)).trans (lowered_other_unit other),
      linkDown_streams s p⟩
  · intro e flushed raised closed called
    have closed_eq : closed = s.linkClosed p :=
      congrArg (fun t => s.endHolds (State.raise t (occLink p .down)) p (s.ports.get p).reception)
        (lowered_eq s p).symm
    have called_eq : called = s.noteAdvanceEnd (s.linkClosed p) := congrArg s.noteAdvanceEnd closed_eq
    obtain ⟨waits, ends⟩ := settle_and_release called
    rw [exec_linkDown_up up, ← called_eq]
    exact ⟨fun early => congrArg _ (waits early), fun w wait failed past => congrArg _ (ends w wait failed past)⟩

end Sys2Proof.Machine
end

section
/-! SUPPORT. The laws of capacity, links and references through one change of the state: what they read of an
egress unit, and the rule for each update and offer. -/

namespace Sys2Proof.Machine

/-! ### What an egress unit refers to (R32, R144) -/

theorem cyclicEntry_refersTo_iff (e : CyclicEntry) (ref : Nat) :
    e.refersTo ref = true ↔ (∃ i c, e = .real i c ref) ∨ e = .mark ref := by
  cases e <;> simp [CyclicEntry.refersTo]

theorem sent_refersTo_iff (x : Sent) (ref : Nat) :
    x.refersTo ref = true ↔ x = .real ref ∨ x = .mark ref ∨ x = .background ref := by
  cases x <;> simp [Sent.refersTo]

/-- A unit refers to a frame by an entry of its cyclic or background queue, or by what is on its wire. -/
theorem egress_refersTo_iff (e : Egress) (ref : Nat) :
    e.refersTo ref = true ↔ (∃ c ∈ e.cyclic, c.refersTo ref = true) ∨ ref ∈ e.background ∨
      ∃ x, e.transmitter = .sending x ∧ x.sent.refersTo ref = true := by
  unfold Egress.refersTo
  cases e.transmitter <;> simp [or_assoc]

/-- A unit refers to no more than one whose queues and wire hold at least as much. -/
theorem refersTo_mono {e f : Egress} {ref : Nat} (cyclic : ∀ c ∈ f.cyclic, c ∈ e.cyclic)
    (background : ∀ r ∈ f.background, r ∈ e.background)
    (wire : ∀ x, f.transmitter = .sending x → e.transmitter = .sending x)
    (refers : f.refersTo ref = true) : e.refersTo ref = true := by
  rw [egress_refersTo_iff] at refers ⊢
  obtain ⟨c, mem, named⟩ | mem | ⟨x, sending, named⟩ := refers
  · exact .inl ⟨c, cyclic c mem, named⟩
  · exact .inr (.inl (background ref mem))
  · exact .inr (.inr ⟨x, wire x sending, named⟩)

/-! ### The laws, port by port -/

/-- A port may refer to a frame: it is held and arrived on another port (R144). -/
def State.HeldFor (s : State) (p : Port) (ref : Nat) : Prop := ∃ x ∈ s.frames, x.id = ref ∧ x.port ≠ p

/-- The queues of an egress unit keep within their capacities (R142). -/
structure Egress.Fits (e : Egress) : Prop where
  cyclic : e.cyclic.length ≤ 8
  mgmt : e.mgmt.length ≤ 4
  background : e.background.length ≤ 16

/-- An egress unit has nothing queued. -/
structure Egress.Empty (e : Egress) : Prop where
  cyclic : e.cyclic = []
  mgmt : e.mgmt = []
  background : e.background = []

/-- The law of links at one port. -/
structure PortUnit.Agrees (u : PortUnit) (e : Egress) : Prop where
  transmitter : u.link = .down ↔ e.transmitter = .down
  empty : u.link = .down → e.Empty
  reception : u.link = .down → u.reception = none

/-- The law of capacities at the agent and in the notification queue (R158, R166, R168). -/
structure State.AgentFits (s : State) : Prop where
  intake : s.agent.intake.length ≤ 4
  records : s.events.queue.length ≤ 32
  cache : s.agent.cache.length ≤ 4
  addresses : (s.agent.cache.map (fun e => e.addr)).Nodup

theorem capacityLaw_iff (s : State) :
    CapacityLaw s ↔ (∀ p : Port, (s.egress.get p).Fits) ∧ s.AgentFits :=
  ⟨fun h => ⟨fun p => ⟨h.cyclic p, h.mgmt p, h.background p⟩, h.intake, h.records, h.cache, h.addresses⟩,
    fun ⟨units, agent⟩ => ⟨fun p => (units p).cyclic, fun p => (units p).mgmt, fun p => (units p).background,
      agent.intake, agent.records, agent.cache, agent.addresses⟩⟩

theorem linkLaw_iff (s : State) : LinkLaw s ↔ ∀ p : Port, (s.ports.get p).Agrees (s.egress.get p) :=
  ⟨fun h p => ⟨h.transmitter p, fun down => ⟨h.cyclic p down, h.mgmt p down, h.background p down⟩,
      h.reception p⟩,
    fun h => ⟨fun p => (h p).transmitter, fun p down => ((h p).empty down).cyclic,
      fun p down => ((h p).empty down).mgmt, fun p down => ((h p).empty down).background,
      fun p => (h p).reception⟩⟩

theorem CapacityLaw.congr {s t : State} (h : CapacityLaw s) (egress : t.egress = s.egress)
    (events : t.events = s.events) (agent : t.agent = s.agent) : CapacityLaw t := by
  obtain ⟨cyclic, mgmt, background, intake, records, cache, addresses⟩ := h
  rw [← egress] at cyclic mgmt background
  rw [← agent] at intake cache addresses
  rw [← events] at records
  exact ⟨cyclic, mgmt, background, intake, records, cache, addresses⟩

theorem LinkLaw.congr {s t : State} (h : LinkLaw s) (ports : t.ports = s.ports) (egress : t.egress = s.egress) :
    LinkLaw t := by
  rw [linkLaw_iff] at h ⊢
  rw [ports, egress]
  exact h

/-! ### The relation -/

/-- From s to t the laws of capacities, links and references are carried on. -/
structure CarriesLaws (s t : State) : Prop where
  capacity : CapacityLaw s → CapacityLaw t
  link : LinkLaw s → LinkLaw t
  reference : ReferenceLaw s → ReferenceLaw t

/-- They are, and no transmission starts. -/
structure StartsNothing (s t : State) : Prop extends CarriesLaws s t where
  wire : ∀ p x, (t.egress.get p).transmitter = .sending x → (s.egress.get p).transmitter = .sending x

theorem CarriesLaws.trans {s t u : State} (h : CarriesLaws s t) (k : CarriesLaws t u) : CarriesLaws s u :=
  ⟨fun law => k.capacity (h.capacity law), fun law => k.link (h.link law),
    fun law => k.reference (h.reference law)⟩

theorem StartsNothing.refl (s : State) : StartsNothing s s := ⟨⟨id, id, id⟩, fun _ _ => id⟩

theorem StartsNothing.trans {s t u : State} (h : StartsNothing s t) (k : StartsNothing t u) :
    StartsNothing s u :=
  ⟨h.toCarriesLaws.trans k.toCarriesLaws, fun p x sending => h.wire p x (k.wire p x sending)⟩

theorem CarriesLaws.foldl {α : Type} {change : State → α → State} (carries : ∀ t x, CarriesLaws t (change t x))
    (l : List α) (s : State) : CarriesLaws s (l.foldl change s) :=
  List.foldlRecOn (motive := CarriesLaws s) l change ⟨id, id, id⟩ (fun t h x _ => h.trans (carries t x))

theorem StartsNothing.foldl {α : Type} {change : State → α → State}
    (starts : ∀ t x, StartsNothing t (change t x)) (l : List α) (s : State) :
    StartsNothing s (l.foldl change s) :=
  List.foldlRecOn (motive := StartsNothing s) l change (.refl s) (fun t h x _ => h.trans (starts t x))

/-! ### Changes of the egress units -/

/-- What a change may make of the egress unit of a port. -/
structure UnitKept (s : State) (p : Port) (e f : Egress) : Prop where
  fits : e.Fits → f.Fits
  empty : s.link p = .down → e.Empty → f.Empty
  down : f.transmitter = .down ↔ e.transmitter = .down
  refers : ∀ ref, f.refersTo ref = true → e.refersTo ref = true ∨ s.HeldFor p ref

theorem UnitKept.refl (s : State) (p : Port) (e : Egress) : UnitKept s p e e :=
  ⟨id, fun _ => id, .rfl, fun _ => .inl⟩

/-- A unit whose queues lose entries, and on whose wire nothing new stands. -/
theorem UnitKept.of_sublist {s : State} {p : Port} {e f : Egress} (cyclic : f.cyclic.Sublist e.cyclic)
    (mgmt : f.mgmt.Sublist e.mgmt) (background : f.background.Sublist e.background)
    (down : f.transmitter = .down ↔ e.transmitter = .down)
    (wire : ∀ x, f.transmitter = .sending x → e.transmitter = .sending x) : UnitKept s p e f where
  fits h := ⟨cyclic.length_le.trans h.cyclic, mgmt.length_le.trans h.mgmt,
    background.length_le.trans h.background⟩
  empty _ h := ⟨List.sublist_nil.1 (h.cyclic ▸ cyclic), List.sublist_nil.1 (h.mgmt ▸ mgmt),
    List.sublist_nil.1 (h.background ▸ background)⟩
  down := down
  refers _ refers := .inl (refersTo_mono (fun _ mem => cyclic.subset mem) (fun _ mem => background.subset mem)
    wire refers)

/-- Changes of egress units and notification queue alone. -/
theorem CarriesLaws.of_units {s t : State} (units : ∀ p, UnitKept s p (s.egress.get p) (t.egress.get p))
    (records : s.events.queue.length ≤ 32 → t.events.queue.length ≤ 32) (ports : t.ports = s.ports)
    (frames : t.frames = s.frames ∧ t.nextFrame = s.nextFrame) (agent : t.agent = s.agent) :
    CarriesLaws s t where
  capacity law := by
    obtain ⟨fits, rest⟩ := (capacityLaw_iff s).1 law
    refine (capacityLaw_iff t).2 ⟨fun p => (units p).fits (fits p), ?_, records rest.records, ?_, ?_⟩ <;>
      rw [agent]
    exacts [rest.intake, rest.cache, rest.addresses]
  link law := by
    rw [linkLaw_iff] at law ⊢
    intro p
    rw [ports]
    exact ⟨(law p).transmitter.trans (units p).down.symm,
      fun down => (units p).empty down ((law p).empty down), (law p).reception⟩
  reference law := by
    obtain ⟨held, next⟩ := frames
    refine ⟨by rw [held, next]; exact law.named, by rw [held]; exact law.distinct, fun p ref refers => ?_⟩
    rw [held]
    exact ((units p).refers ref refers).elim (law.held p ref) id

theorem updateEgress_kept {s : State} {p : Port} {f : Egress → Egress}
    (kept : UnitKept s p (s.egress.get p) (f (s.egress.get p))) (q : Port) :
    UnitKept s q (s.egress.get q) ((s.updateEgress p f).egress.get q) := by
  rw [updateEgress_egress, perPort_get_set]
  split
  · next same => rw [same]; exact kept
  · exact .refl s q _

theorem carriesLaws_updateEgress {s : State} {p : Port} {f : Egress → Egress}
    (kept : UnitKept s p (s.egress.get p) (f (s.egress.get p))) : CarriesLaws s (s.updateEgress p f) :=
  .of_units (updateEgress_kept kept) id rfl ⟨rfl, rfl⟩ rfl

theorem updateEgress_wire {s : State} {p : Port} {f : Egress → Egress}
    (wire : ∀ x, (f (s.egress.get p)).transmitter = .sending x → (s.egress.get p).transmitter = .sending x)
    (q : Port) (x : Transmission) (sending : ((s.updateEgress p f).egress.get q).transmitter = .sending x) :
    (s.egress.get q).transmitter = .sending x := by
  rw [updateEgress_egress, perPort_get_set] at sending
  split at sending
  · next same => rw [same]; exact wire x sending
  · exact sending

theorem startsNothing_updateEgress {s : State} {p : Port} {f : Egress → Egress}
    (kept : UnitKept s p (s.egress.get p) (f (s.egress.get p)))
    (wire : ∀ x, (f (s.egress.get p)).transmitter = .sending x → (s.egress.get p).transmitter = .sending x) :
    StartsNothing s (s.updateEgress p f) :=
  ⟨carriesLaws_updateEgress kept, updateEgress_wire wire⟩

/-- A change that touches none of what the laws read. -/
def Footprint.besidePorts : Footprint :=
  { strap := true, timer := true, streams := true, staging := true, banks := true, quench := true, draws := true }

theorem startsNothing_beside {f : Footprint} {s t : State} (w : Within f s t)
    (le : f.le .besidePorts = true) : StartsNothing s t := by
  have beside := w.mono le
  have egress := beside.egress rfl
  refine ⟨.of_units (fun p => ?_) ?_ (beside.ports rfl) (beside.frames rfl) (beside.agent rfl), fun p x => ?_⟩
  · rw [egress]; exact .refl s p _
  · rw [beside.events rfl]; exact id
  · rw [egress]; exact id

/-- A change aside, behind others. -/
theorem StartsNothing.beside {f : Footprint} {s t u : State} (h : StartsNothing s t) (w : Within f t u)
    (le : f.le .besidePorts = true) : StartsNothing s u := h.trans (startsNothing_beside w le)

end Sys2Proof.Machine
end

section
/-! SUPPORT. The laws of capacity, links and references through the shared operations: occurrences and their
records, offers, the agent, held frames, the quench unit. -/

namespace Sys2Proof.Machine

/-! ### Calls for a selection (R146, R148) -/

theorem unitKept_selectDue (s : State) (p : Port) (e : Egress) (due : Bool) :
    UnitKept s p e { e with selectDue := due } :=
  .of_sublist (.refl _) (.refl _) (.refl _) .rfl fun _ sending => sending

theorem startsNothing_callSelection (s : State) (p : Port) : StartsNothing s (s.callSelection p) :=
  startsNothing_updateEgress (unitKept_selectDue s p _ true) fun _ sending => sending

theorem startsNothing_callSelections (s : State) : StartsNothing s s.callSelections := by
  refine ⟨.of_units (fun p => ?_) id rfl ⟨rfl, rfl⟩ rfl, fun p x sending => ?_⟩
  · rw [callSelections_egress, perPort_get_map]
    exact unitKept_selectDue s p _ true
  · rw [callSelections_egress, perPort_get_map] at sending
    exact sending

/-! ### Occurrences and their records (R153, R158 to R160) -/

/-- A change of the event unit that keeps the notification queue within its capacity. -/
theorem startsNothing_setEvents {s : State} {v : EventUnit}
    (records : s.events.queue.length ≤ 32 → v.queue.length ≤ 32) : StartsNothing s (s.setEvents v) :=
  ⟨.of_units (fun p => .refl s p _) records rfl ⟨rfl, rfl⟩ rfl, fun _ _ sending => sending⟩

/-- A queue has room on a port whose link is UP only (R143). -/
theorem link_up_of_hasRoom {s : State} {p : Port} {held capacity : Nat} (room : s.hasRoom p held capacity = true) :
    s.link p = .up := of_decide_eq_true (Bool.and_eq_true_iff.1 room).1

theorem lt_of_hasRoom {s : State} {p : Port} {held capacity : Nat} (room : s.hasRoom p held capacity = true) :
    held < capacity := of_decide_eq_true (Bool.and_eq_true_iff.1 room).2

/-- Offers end where the queue is full. -/
theorem offerRecords_fits (s : State) (p : Port) (l : List NotifRecord) (q : List MgmtEntry)
    (fits : q.length ≤ 4) : (offerRecords s p l q).2.length ≤ 4 := by
  induction l generalizing q with
  | nil => exact fits
  | cons r l ih =>
    unfold offerRecords
    split
    · next offered =>
      refine ih _ ?_
      simp only [Bool.and_eq_true, decide_eq_true_eq] at offered
      rw [List.length_append]
      exact Nat.succ_le_of_lt offered.2
    · exact ih q fits

/-- Entries that join the management queue of a port whose link is UP. -/
theorem unitKept_mgmt {s : State} {p : Port} (up : s.link p = .up) {e : Egress} {q : List MgmtEntry}
    (fits : e.mgmt.length ≤ 4 → q.length ≤ 4) : UnitKept s p e { e with mgmt := q, selectDue := true } where
  fits h := ⟨h.cyclic, fits h.mgmt, h.background⟩
  empty down := absurd (up.symm.trans down) (by decide)
  down := .rfl
  refers _ := .inl

theorem startsNothing_offerNotifications (s : State) (p : Port) : StartsNothing s (s.offerNotifications p) := by
  unfold State.offerNotifications
  split
  · next due =>
    have up : s.link p = .up := link_up_of_hasRoom (Bool.and_eq_true_iff.1 due).1
    have offered : StartsNothing s (s.setEvents
        { s.events with queue := (offerRecords s p s.events.queue (s.egress.get p).mgmt).1 }) :=
      startsNothing_setEvents (Eq.trans_le (offerRecords_length s p _ _))
    refine offered.trans (startsNothing_updateEgress (unitKept_mgmt ?_ ?_) fun _ sending => sending)
    · exact up
    · exact offerRecords_fits s p s.events.queue (s.egress.get p).mgmt
  · exact .refl s

theorem startsNothing_setFlag (s : State) (c : EventClass) : StartsNothing s (s.setFlag c) :=
  startsNothing_setEvents id

/-- A record is generated where the notification queue has room (R159). -/
theorem startsNothing_generate (s : State) (l : ListenerIx) (o : Occurrence) :
    StartsNothing s (s.generate l o) := by
  unfold State.generate
  split
  · split
    · next room =>
      have recorded : StartsNothing s (s.withRecord l o) :=
        startsNothing_setEvents fun _ => by rw [List.length_append]; exact room
      exact recorded.trans (startsNothing_offerNotifications _ _)
    · exact startsNothing_setEvents id
  · exact .refl s

theorem startsNothing_raise (s : State) (o : Occurrence) : StartsNothing s (s.raise o) := by
  unfold State.raise
  split
  · exact (startsNothing_setFlag s _).trans (startsNothing_generate _ _ o)
  · exact startsNothing_setFlag s _

section
variable {s t : State}

theorem StartsNothing.raise (h : StartsNothing s t) (o : Occurrence) : StartsNothing s (t.raise o) :=
  h.trans (startsNothing_raise t o)

theorem StartsNothing.callSelections (h : StartsNothing s t) : StartsNothing s t.callSelections :=
  h.trans (startsNothing_callSelections t)

/-! ### Receptions and counters of ports (R129, R130, R139) -/

/-- Changes of port units that leave the link states, and begin no reception on a port whose link is DOWN. -/
theorem startsNothing_of_ports {v : PerPort PortUnit} (link : ∀ p, (v.get p).link = s.link p)
    (free : ∀ p, s.link p = .down → (s.ports.get p).reception = none → (v.get p).reception = none) :
    StartsNothing s (s.setPorts v) := by
  refine ⟨⟨fun law => law.congr rfl rfl rfl, fun law => ?_,
    fun law => ⟨law.named, law.distinct, law.held⟩⟩, fun _ _ sending => sending⟩
  rw [linkLaw_iff] at law ⊢
  exact fun p => ⟨by rw [setPorts_ports, link]; exact (law p).transmitter,
    fun down => (law p).empty ((link p).symm.trans down),
    fun down => free p ((link p).symm.trans down) ((law p).reception ((link p).symm.trans down))⟩

theorem startsNothing_updatePort {p : Port} {f : PortUnit → PortUnit}
    (link : (f (s.ports.get p)).link = s.link p)
    (free : s.link p = .down → (s.ports.get p).reception = none → (f (s.ports.get p)).reception = none) :
    StartsNothing s (s.updatePort p f) := by
  refine startsNothing_of_ports (fun q => ?_) fun q => ?_ <;> rw [perPort_get_set] <;> split
  · next same => rw [same]; exact link
  · rfl
  · next same => rw [same]; exact free
  · exact fun _ => id

theorem startsNothing_countPort (s : State) (p : Port) (f : PortCounters → PortCounters) :
    StartsNothing s (s.countPort p f) := startsNothing_updatePort rfl fun _ => id

/-! ### The agent (R166 to R168) -/

/-- The reply cache within its bounds (R168). -/
def cacheBounded (cache : List CacheEntry) : Prop :=
  cache.length ≤ 4 ∧ (cache.map (fun e => e.addr)).Nodup

/-- A change of the agent that keeps intake and reply cache within their bounds. -/
theorem startsNothing_setAgent {a : Agent} (intake : s.agent.intake.length ≤ 4 → a.intake.length ≤ 4)
    (cache : cacheBounded s.agent.cache → cacheBounded a.cache) : StartsNothing s (s.setAgent a) := by
  refine ⟨⟨fun law => ?_, fun law => law.congr rfl rfl,
    fun law => ⟨law.named, law.distinct, law.held⟩⟩, fun _ _ sending => sending⟩
  obtain ⟨units, rest⟩ := (capacityLaw_iff s).1 law
  obtain ⟨size, addresses⟩ := cache ⟨rest.cache, rest.addresses⟩
  exact (capacityLaw_iff _).2 ⟨units, intake rest.intake, rest.records, size, addresses⟩

theorem startsNothing_restartFailed (s : State) : StartsNothing s s.restartFailed := by
  unfold State.restartFailed
  split
  · exact startsNothing_setAgent id id
  · exact .refl s

/-- Where a response may fail. -/
theorem StartsNothing.failing (h : StartsNothing s t) (c : Prop) [Decidable c] :
    StartsNothing s (if c then t.restartFailed else t) := by
  split
  · exact h.trans (startsNothing_restartFailed t)
  · exact h

/-- The other addresses' entries hold no entry of an address. -/
theorem addr_not_mem_filter (cache : List CacheEntry) (e : CacheEntry) :
    e.addr ∉ (cache.filter (fun x => decide (x.addr ≠ e.addr))).map (fun x => x.addr) := by
  simp only [List.mem_map, List.mem_filter, decide_eq_true_eq, not_exists, not_and, and_imp]
  exact fun x _ other => other

theorem nodup_replaced {cache : List CacheEntry} (nodup : (cache.map (fun x => x.addr)).Nodup) (e : CacheEntry) :
    ((e :: cache.filter (fun x => decide (x.addr ≠ e.addr))).map (fun x => x.addr)).Nodup :=
  List.nodup_cons.2 ⟨addr_not_mem_filter cache e, nodup.sublist (List.filter_sublist.map _)⟩

theorem storeReply_bounded {cache : List CacheEntry} (h : cacheBounded cache) (e : CacheEntry) :
    cacheBounded (storeReply cache e) :=
  ⟨List.length_take_le 4 _, (nodup_replaced h.2 e).sublist ((List.take_sublist 4 _).map _)⟩

/-- An entry that answers leaves its place for the front (R168). -/
theorem touchReply_bounded {cache : List CacheEntry} (h : cacheBounded cache) {e : CacheEntry} (mem : e ∈ cache) :
    cacheBounded (touchReply cache e) := by
  refine ⟨Nat.succ_le_of_lt (Nat.lt_of_lt_of_le ?_ h.1), nodup_replaced h.2 e⟩
  exact List.length_filter_lt_length_iff_exists.2 ⟨e, mem, by simp⟩

/-! ### Offers (R143) -/

/-- An entry joins a cyclic queue with room; the frame it refers to is held for the port. -/
theorem startsNothing_offerCyclic {e : CyclicEntry} {p : Port}
    (held : ∀ ref, e.refersTo ref = true → s.HeldFor p ref) : StartsNothing s (s.offerCyclic e p) := by
  unfold State.offerCyclic
  split
  · next room =>
    refine startsNothing_updateEgress ⟨fun h => ⟨?_, h.mgmt, h.background⟩, fun down => ?_, .rfl, fun ref => ?_⟩
      fun _ sending => sending
    · rw [List.length_append]
      exact lt_of_hasRoom room
    · exact absurd ((link_up_of_hasRoom room).symm.trans down) (by decide)
    · rw [egress_refersTo_iff, egress_refersTo_iff]
      rintro (⟨c, mem, named⟩ | rest)
      · rcases List.mem_append.1 mem with old | new
        · exact .inl (.inl ⟨c, old, named⟩)
        · rw [List.mem_singleton.1 new] at named
          exact .inr (held ref named)
      · exact .inl (.inr rest)
  · exact (startsNothing_countPort s p _).raise _

theorem offerCyclic_frames (s : State) (e : CyclicEntry) (p : Port) : (s.offerCyclic e p).frames = s.frames :=
  ((offerCyclic_within s e p).frames rfl).1

/-- One entry offered to several ports, for each of which its frame is held (R32). -/
theorem startsNothing_offerCyclicTo {e : CyclicEntry} {ps : List Port}
    (held : ∀ p ∈ ps, ∀ ref, e.refersTo ref = true → s.HeldFor p ref) :
    StartsNothing s (s.offerCyclicTo e ps) := by
  have offers (qs : List Port) (u : State)
      (held : ∀ p ∈ qs, ∀ ref, e.refersTo ref = true → u.HeldFor p ref) :
      StartsNothing u (qs.foldl (fun t p => t.offerCyclic e p) u) := by
    induction qs generalizing u with
    | nil => exact .refl u
    | cons q qs ih =>
      refine (startsNothing_offerCyclic (held q List.mem_cons_self)).trans (ih _ fun p mem ref named => ?_)
      rw [State.HeldFor, offerCyclic_frames]
      exact held p (List.mem_cons_of_mem q mem) ref named
  unfold State.offerCyclicTo
  split
  · refine (startsNothing_beside (draw_within s 1) rfl).trans (offers _ _ fun p mem => ?_)
    exact held p ((arrange_perm _ _).mem_iff.1 mem)
  · exact offers ps s held

/-- A background frame joins a queue with room; it is held for the port. -/
theorem startsNothing_offerBackground {ref : Nat} {p : Port} (held : s.HeldFor p ref) :
    StartsNothing s (s.offerBackground ref p) := by
  unfold State.offerBackground
  split
  · next room =>
    refine startsNothing_updateEgress ⟨fun h => ⟨h.cyclic, h.mgmt, ?_⟩, fun down => ?_, .rfl, fun r => ?_⟩
      fun _ sending => sending
    · rw [List.length_append]
      exact lt_of_hasRoom room
    · exact absurd ((link_up_of_hasRoom room).symm.trans down) (by decide)
    · rw [egress_refersTo_iff, egress_refersTo_iff]
      rintro (entry | mem | wire)
      · exact .inl (.inl entry)
      · rcases List.mem_append.1 mem with old | new
        · exact .inl (.inr (.inl old))
        · rw [List.mem_singleton.1 new]
          exact .inr held
      · exact .inl (.inr (.inr wire))
  · exact startsNothing_countPort s p _

theorem startsNothing_offerResponse (s : State) (p : Port) (f : List Byte) (isRestart : Bool) :
    StartsNothing s (s.offerResponse p f isRestart) := by
  unfold State.offerResponse
  split
  · next room =>
    refine startsNothing_updateEgress (unitKept_mgmt (link_up_of_hasRoom room) fun _ => ?_)
      fun _ sending => sending
    rw [List.length_append]
    exact lt_of_hasRoom room
  · exact (startsNothing_countPort s p _).failing _

/-! ### Held frames (R32, R144) -/

/-- A frame is held under a name that no other has (log 19). -/
theorem startsNothing_holdFrame (s : State) (p : Port) (f : List Byte) : StartsNothing s (s.holdFrame p f) := by
  refine ⟨⟨fun law => law.congr rfl rfl rfl,
    fun law => law.congr rfl rfl, fun law => ⟨?_, ?_, fun q ref refers => ?_⟩⟩,
    fun _ _ sending => sending⟩
  · intro x mem
    rcases List.mem_cons.1 mem with rfl | old
    · exact Nat.lt_succ_self _
    · exact Nat.lt_succ_of_lt (law.named x old)
  · refine List.nodup_cons.2 ⟨fun mem => ?_, law.distinct⟩
    obtain ⟨x, old, same⟩ := List.mem_map.1 mem
    exact absurd same (law.named x old).ne
  · obtain ⟨x, mem, named⟩ := law.held q ref refers
    exact ⟨x, List.mem_cons_of_mem _ mem, named⟩

theorem mem_releaseFrames {s : State} {x : HeldFrame} :
    x ∈ s.releaseFrames.frames ↔ x ∈ s.frames ∧ ∃ p : Port, (s.egress.get p).refersTo x.id = true := by
  simp only [releaseFrames_frames, List.mem_filter, List.any_eq_true, mem_portAll, true_and]

/-- What a port refers to is not released. -/
theorem startsNothing_releaseFrames (s : State) : StartsNothing s s.releaseFrames := by
  refine ⟨⟨fun law => law.congr rfl rfl rfl,
    fun law => law.congr rfl rfl,
    fun law => ⟨fun x mem => law.named x (mem_releaseFrames.1 mem).1,
      law.distinct.sublist (List.filter_sublist.map _), fun p ref refers => ?_⟩⟩, fun _ _ sending => sending⟩
  obtain ⟨x, mem, named, other⟩ := law.held p ref refers
  exact ⟨x, mem_releaseFrames.2 ⟨mem, p, named ▸ refers⟩, named, other⟩

theorem StartsNothing.releaseFrames (h : StartsNothing s t) : StartsNothing s t.releaseFrames :=
  h.trans (startsNothing_releaseFrames t)

end

end Sys2Proof.Machine
end

section
/-! SUPPORT. The laws of capacity, links and references through the quench unit, the stream table, the staging
controller, the guards, the warm restart and the timer. -/

namespace Sys2Proof.Machine

/-! ### The quench unit (R92 to R101) -/

section
variable (s : State)

theorem startsNothing_setQuench (v : Quench) : StartsNothing s (s.setQuench v) :=
  startsNothing_beside (setQuench_within s v) rfl

theorem startsNothing_addCause (c : Cause) : StartsNothing s (s.addCause c) := by
  unfold State.addCause
  split
  · exact .refl s
  · split
    · split
      · exact startsNothing_setQuench s _
      · exact (startsNothing_setQuench s _).raise _
    · exact startsNothing_setQuench s _

theorem startsNothing_quenchFalls (code : Half) : StartsNothing s (s.quenchFalls code) :=
  (startsNothing_setQuench s _).raise _

theorem startsNothing_release : StartsNothing s s.release := by
  unfold State.release
  split
  · exact startsNothing_setQuench s _
  · exact (startsNothing_setQuench s _).trans (startsNothing_quenchFalls _ _)

theorem startsNothing_removeCauses (cs : List Cause) : StartsNothing s (s.removeCauses cs) := by
  unfold State.removeCauses
  dsimp only
  split
  · exact (startsNothing_setQuench s _).trans (startsNothing_release _)
  · exact startsNothing_setQuench s _

theorem startsNothing_quenchCycleStart : StartsNothing s s.quenchCycleStart := by
  unfold State.quenchCycleStart
  split
  · exact startsNothing_quenchFalls s _
  · split
    · exact .refl s
    · exact startsNothing_quenchFalls s _
  · exact .refl s

theorem startsNothing_quenchOnTimeMark : StartsNothing s s.quenchOnTimeMark := by
  unfold State.quenchOnTimeMark
  split
  · exact startsNothing_quenchFalls s _
  · exact .refl s
  · exact .refl s

theorem startsNothing_quenchTimerStop : StartsNothing s s.quenchTimerStop := by
  unfold State.quenchTimerStop
  split
  · exact startsNothing_quenchFalls s _
  · exact .refl s

theorem startsNothing_judgeLine : StartsNothing s s.judgeLine := by
  unfold State.judgeLine
  split
  · exact startsNothing_addCause s _
  · split
    · exact startsNothing_removeCauses s _
    · exact .refl s

theorem startsNothing_settleLine : StartsNothing s s.settleLine := by
  unfold State.settleLine State.takeLine
  split
  · split
    · exact .refl s
    · exact (startsNothing_setQuench s _).trans (startsNothing_judgeLine _)
  · exact .refl s

theorem startsNothing_pinAt (l : LineLevel) : StartsNothing s (s.pinAt l) := by
  unfold State.pinAt
  split
  · exact startsNothing_settleLine s
  · exact (startsNothing_settleLine s).trans (startsNothing_setQuench _ _)

theorem startsNothing_applyLive (enable : Bool) (lm : LineMode) (rm : ReleaseMode) :
    StartsNothing s (s.applyLive enable lm rm) := by
  have judged := (startsNothing_setQuench s { s.quench with
    lineEnable := enable, lineMode := lm, releaseMode := rm }).trans (startsNothing_judgeLine _)
  unfold State.applyLive State.rejudgeWait
  dsimp only
  split
  · split
    · exact judged.trans (startsNothing_setQuench _ _)
    · exact judged.trans (startsNothing_quenchFalls _ _)
  · exact judged

end

section
variable {s t : State}

theorem StartsNothing.addCause (h : StartsNothing s t) (c : Cause) : StartsNothing s (t.addCause c) :=
  h.trans (startsNothing_addCause t c)

/-! ### The stream table (R13, R23 to R38) -/

theorem startsNothing_updateStream (s : State) (i : StreamIx) (f : StreamRun → StreamRun) :
    StartsNothing s (s.updateStream i f) := startsNothing_beside (updateStream_within s i f) rfl

theorem startsNothing_countStream (s : State) (i : StreamIx) (f : StreamCounters → StreamCounters) :
    StartsNothing s (s.countStream i f) := startsNothing_beside (countStream_within s i f) rfl

/-- The arrival port of a frame is in no set to which its entries are offered (R32). -/
theorem ne_of_mem_portsWithout {set : PortSet} {p q : Port} (mem : q ∈ set.portsWithout p) : q ≠ p := by
  unfold PortSet.portsWithout at mem
  simp only [List.mem_filter, Bool.and_eq_true, decide_eq_true_eq] at mem
  exact mem.2.2

/-- A held frame of an arrival port. -/
def State.Holds (s : State) (p : Port) (ref : Nat) : Prop := ∃ x ∈ s.frames, x.id = ref ∧ x.port = p

theorem State.Holds.heldFor {p q : Port} {ref : Nat} (h : s.Holds p ref) (other : q ≠ p) : s.HeldFor q ref := by
  obtain ⟨x, mem, named, port⟩ := h
  exact ⟨x, mem, named, fun same => other (same.symm.trans port)⟩

theorem holds_holdFrame (s : State) (p : Port) (f : List Byte) : (s.holdFrame p f).Holds p s.nextFrame :=
  ⟨_, List.mem_cons_self, rfl, rfl⟩

theorem startsNothing_forwardReal {p : Port} {ref : Nat} (holds : s.Holds p ref) (i : StreamIx) (c : Phase) :
    StartsNothing s (s.forwardReal i p c ref) :=
  startsNothing_offerCyclicTo fun _ mem r named => by
    obtain rfl : ref = r := by simpa [CyclicEntry.refersTo] using named
    exact holds.heldFor (ne_of_mem_portsWithout mem)

theorem startsNothing_offerSubstitutes (s : State) (i : StreamIx) (p : Port) :
    StartsNothing s (s.offerSubstitutes i p) := by
  unfold State.offerSubstitutes
  split
  · exact startsNothing_offerCyclicTo fun _ _ _ named => nomatch named
  · exact .refl s

theorem startsNothing_enterHeld (s : State) (i : StreamIx) (c : HoldCause) :
    StartsNothing s (s.enterHeld i c) := (startsNothing_updateStream s i _).raise _

theorem startsNothing_stray (s : State) (i : StreamIx) (p : Port) (c : Phase) :
    StartsNothing s (s.stray i p c) := by
  have strayed : StartsNothing s (s.strayed i p c) := (startsNothing_updateStream s i _).raise _
  unfold State.stray
  split
  · exact strayed
  · exact strayed.trans (startsNothing_enterHeld _ i _)
  · exact (strayed.trans (startsNothing_enterHeld _ i _)).addCause _

/-- The stream table forwards an admitted frame that is held (R23). -/
theorem startsNothing_admittedFrame {p : Port} {ref : Nat} (holds : s.Holds p ref) (i : StreamIx) (c : Phase) :
    StartsNothing s (s.admittedFrame i p c ref) := by
  have forwarded (f : StreamRun → StreamRun) :
      StartsNothing s ((s.updateStream i f).forwardReal i p c ref) :=
    (startsNothing_updateStream s i f).trans (startsNothing_forwardReal (s := s.updateStream i f) holds i c)
  unfold State.admittedFrame
  split
  · exact .refl s
  · split
    · exact (forwarded _).raise _
    · exact startsNothing_countStream s i _
  · split
    · unfold State.repeated
      dsimp only
      split
      · exact forwarded _
      · exact startsNothing_updateStream s i _
    · split
      · unfold State.advance
        dsimp only
        split
        · exact (forwarded _).raise _
        · exact forwarded _
      · exact startsNothing_stray s i p c
  · exact startsNothing_offerSubstitutes s i p

theorem startsNothing_stallStream (s : State) (i : StreamIx) (p : Port) :
    StartsNothing s (s.stallStream i p) := by
  have held := (startsNothing_raise s (occStall i p s.streams[i].absenceRun)).trans
    (startsNothing_enterHeld _ i .stall)
  unfold State.stallStream
  dsimp only
  split
  · exact held
  · exact held.addCause _

theorem startsNothing_absentStream (s : State) (i : StreamIx) (p : Port) :
    StartsNothing s (s.absentStream i p) := by
  have filled : StartsNothing s (s.absentFilled i p) := by
    unfold State.absentFilled
    split
    · exact (startsNothing_updateStream s i _).trans (startsNothing_offerSubstitutes _ i p)
    · exact startsNothing_updateStream s i _
  rw [absentStream_eq]
  split
  · exact filled.trans (startsNothing_stallStream _ i p)
  · exact filled

theorem startsNothing_examineWindow (s : State) (w : WindowIx) : StartsNothing s (s.examineWindow w) := by
  refine .foldl (fun t i => ?_) _ s
  unfold State.examineStream
  split
  · split
    · exact startsNothing_updateStream t i _
    · exact startsNothing_absentStream t i _
  · exact .refl t

/-! ### The guards (R149) -/

/-- A transmission ends: the transmitter becomes IDLE, and the arbiter is called. -/
theorem startsNothing_endTransmission {p : Port} {x : Transmission}
    (sending : (s.egress.get p).transmitter = .sending x) :
    StartsNothing s (s.updateEgress p (fun e => { e with transmitter := .idle, selectDue := true })) := by
  refine startsNothing_updateEgress (.of_sublist (.refl _) (.refl _) (.refl _) ?_ ?_) ?_
  · rw [sending]
    exact iff_of_false nofun nofun
  · exact nofun
  · exact nofun

theorem restartFailed_egress (s : State) : s.restartFailed.egress = s.egress := (restartFailed_within s).egress rfl

theorem startsNothing_cutOff {p : Port} (due : s.cutDue p = true) : StartsNothing s (s.cutOff p) := by
  obtain ⟨-, x, sending, -⟩ := (cutDue_iff s p).1 due
  have failed := (StartsNothing.refl s).failing ((s.egress.get p).sendsRestart = true)
  have ended := failed.trans (startsNothing_endTransmission (p := p) (x := x) (by
    split
    · rw [restartFailed_egress]; exact sending
    · exact sending))
  exact (ended.raise _).releaseFrames

theorem startsNothing_cutOffs (s : State) : StartsNothing s s.cutOffs := by
  have one (t : State) (p : Port) : StartsNothing t (t.cutOffIfDue p) := by
    unfold State.cutOffIfDue
    split
    · next due => exact startsNothing_cutOff due
    · exact .refl t
  unfold State.cutOffs
  dsimp only
  split
  · exact (startsNothing_beside (draw_within s 1) rfl).trans (.foldl one _ _)
  · exact .foldl one _ s

/-! ### The staging controller (R119 to R125) -/

theorem startsNothing_setStaging (s : State) (g : Staging) : StartsNothing s (s.setStaging g) :=
  startsNothing_beside (setStaging_within s g) rfl

theorem startsNothing_applyCommit (s : State) : StartsNothing s s.applyCommit :=
  ((startsNothing_beside (((setStaging_within s _).comp (setStreams_within _ _)
      (k := { staging := true, streams := true }) rfl rfl).trans ((setStaging_within _ _).mono rfl))
      rfl).raise _).beside (beginRestage_within _ .apply) rfl |>.callSelections

theorem startsNothing_withdrawCommit (s : State) (code : Half) : StartsNothing s (s.withdrawCommit code) :=
  ((startsNothing_setStaging s _).raise _).callSelections

theorem startsNothing_stagingCycleStart (s : State) : StartsNothing s s.stagingCycleStart := by
  unfold State.stagingCycleStart
  split
  · exact startsNothing_applyCommit s
  · exact .refl s

theorem startsNothing_stagingTimerStop (s : State) : StartsNothing s s.stagingTimerStop := by
  unfold State.stagingTimerStop
  split
  · split
    · split
      · exact startsNothing_applyCommit s
      · exact startsNothing_withdrawCommit s _
    · exact .refl s
  · exact .refl s
  · exact .refl s

theorem startsNothing_stagingLeaseExpiry (s : State) (a : StationAddr) :
    StartsNothing s (s.stagingLeaseExpiry a) := by
  unfold State.stagingLeaseExpiry
  split
  · exact startsNothing_beside (beginRestage_within s .lease) rfl
  · split
    · split
      · exact (startsNothing_withdrawCommit s _).beside (beginRestage_within _ .lease) rfl
      · exact .refl s
    · exact .refl s
  · exact .refl s

theorem startsNothing_completeRestage (s : State) : StartsNothing s s.completeRestage := by
  have copied : StartsNothing s ((s.setStaged s.active).setStaging
      { s.staging with state := .ready, restageEnd := none }) :=
    (startsNothing_beside (setStaged_within s _) rfl).trans (startsNothing_setStaging _ _)
  refine StartsNothing.trans ?_ (startsNothing_setStaging _ _)
  unfold State.raiseStageReady
  split
  · exact copied.raise _
  · exact copied

/-! ### The warm restart (R140, R151, R164, R178) -/

theorem startsNothing_warmRestart (s : State) : StartsNothing s s.warmRestart := by
  have restarted (e : Egress) (x : Transmission) :
      e.restarted.transmitter = .sending x → e.transmitter = .sending x := by
    unfold Egress.restarted
    cases e.transmitter <;> simp
  have unit (p : Port) : s.restartBlocks.egress.get p = (s.egress.get p).restarted := perPort_get_map _ _ _
  have port (p : Port) : s.restartBlocks.ports.get p = (s.ports.get p).restarted := perPort_get_map _ _ _
  have blocks : StartsNothing s s.restartBlocks := by
    refine ⟨⟨fun _ => (capacityLaw_iff _).2 ⟨fun p => ?_, ?_⟩, fun law => (linkLaw_iff _).2 fun p => ?_,
      fun law => ⟨law.named, law.distinct, fun p ref refers => ?_⟩⟩, fun p x sending => ?_⟩
    · rw [unit]
      exact ⟨Nat.zero_le _, Nat.zero_le _, Nat.zero_le _⟩
    · exact ⟨Nat.zero_le _, Nat.zero_le _, Nat.zero_le _, List.nodup_nil⟩
    · rw [unit, port]
      refine ⟨(law.transmitter p).trans ?_, fun _ => ⟨rfl, rfl, rfl⟩, fun _ => rfl⟩
      unfold Egress.restarted
      cases (s.egress.get p).transmitter <;> simp
    · rw [unit] at refers
      exact law.held p ref (refersTo_mono (fun _ mem => nomatch List.not_mem_nil mem)
        (fun _ mem => nomatch List.not_mem_nil mem) (restarted _) refers)
    · rw [unit] at sending
      exact restarted _ x sending
  have base : StartsNothing s s.restartBase :=
    (blocks.beside (beginRestage_within _ .restart) rfl).releaseFrames
  have drawn (n : Nat) : StartsNothing s (s.restartBase.draw n) := base.beside (draw_within _ n) rfl
  obtain ⟨e, -⟩ | ⟨-, n, e | e | e | e⟩ := warmRestart_form s <;> rw [e]
  · exact base
  · exact (drawn n).raise _
  · exact (drawn n).raise _
  · exact ((drawn n).raise _).raise _
  · exact ((drawn n).raise _).raise _

theorem startsNothing_settleRestart (s : State) : StartsNothing s s.settleRestart := by
  unfold State.settleRestart
  split
  · split
    · exact startsNothing_warmRestart s
    · exact .refl s
  · exact .refl s

/-! ### The timer (R64 to R75) -/

theorem startsNothing_setTimer (s : State) (v : Timer) : StartsNothing s (s.setTimer v) :=
  startsNothing_beside (setTimer_within s v) rfl

theorem startsNothing_markFault (s : State) (code : Half) : StartsNothing s (s.markFault code) := by
  have counted := (startsNothing_setTimer s { s.timer with faultCount := satInc s.timer.faultCount }).raise
    (occMarkFault s.markPort code)
  unfold State.markFault
  dsimp only
  split
  · exact (counted.raise _).addCause _
  · exact counted

theorem startsNothing_closeInterval (s : State) : StartsNothing s s.closeInterval := by
  unfold State.closeInterval
  split
  · dsimp only
    split
    · exact startsNothing_setTimer s _
    · exact (startsNothing_setTimer s _).trans (startsNothing_markFault _ _)
  · exact .refl s

theorem startsNothing_closeIntervalIfOver (s : State) : StartsNothing s s.closeIntervalIfOver := by
  unfold State.closeIntervalIfOver
  split
  · exact startsNothing_closeInterval s
  · exact .refl s

/-- Changes of a frame in reception leave it in reception. -/
theorem startsNothing_updateReception (s : State) (p : Port) (f : Reception → Reception) :
    StartsNothing s (s.updatePort p (fun u => { u with reception := u.reception.map f })) :=
  startsNothing_updatePort rfl fun _ free => by dsimp only; rw [free]; rfl

theorem startsNothing_carryInterval (s : State) : StartsNothing s s.carryInterval := by
  unfold State.carryInterval
  split
  · exact startsNothing_updateReception s _ _
  · split
    · split
      · exact startsNothing_closeInterval s
      · exact .refl s
    · exact .refl s

/-- What follows a frame that has left reception, up to the restart's moment (R75, R76). -/
theorem startsNothing_afterReception (before after : State) (p : Port) (r : Option Reception) :
    StartsNothing after (before.noteAdvanceEnd (before.endHolds after p r)) := by
  have held : StartsNothing after (after.closeHeldInterval r) := by
    unfold State.closeHeldInterval
    split
    · split
      · exact startsNothing_markFault after _
      · exact .refl after
    · exact .refl after
  have ended : StartsNothing after (before.endHolds after p r) := by
    unfold State.endHolds
    dsimp only
    split
    · exact held.trans (startsNothing_closeIntervalIfOver _)
    · exact held
  unfold State.noteAdvanceEnd
  split
  · exact ended
  · exact ended.callSelections

theorem startsNothing_takeClose (s : State) (w : WindowIx) : StartsNothing s (s.takeClose w) := by
  have noted : StartsNothing s (s.noteClose w) := startsNothing_setTimer s _
  unfold State.takeClose
  split
  · exact noted.trans (startsNothing_examineWindow _ w)
  · exact noted.trans (startsNothing_callSelection _ _)

theorem startsNothing_inEitherOrder {f g : State → State} (both : Bool) (hf : ∀ u, StartsNothing u (f u))
    (hg : ∀ u, StartsNothing u (g u)) (s : State) : StartsNothing s (inEitherOrder both f g s) := by
  have drawn : StartsNothing s (s.draw 1) := startsNothing_beside (draw_within s 1) rfl
  unfold inEitherOrder
  split
  · split
    · exact drawn.trans ((hf _).trans (hg _))
    · exact drawn.trans ((hg _).trans (hf _))
  · exact (hf _).trans (hg _)

theorem startsNothing_handCycleStart (s : State) (first : Bool) : StartsNothing s (s.handCycleStart first) := by
  have begun : StartsNothing s (s.begun first) :=
    ((startsNothing_stagingCycleStart s).beside (beginCycle_within _ first) rfl).beside (zeroAdmitted_within _) rfl
  exact (begun.trans (startsNothing_inEitherOrder _ startsNothing_quenchCycleStart startsNothing_cutOffs
    _)).callSelections

theorem startsNothing_periodMatch (s : State) : StartsNothing s s.periodMatch :=
  ((startsNothing_carryInterval s).trans (startsNothing_setTimer _ _)).trans (startsNothing_handCycleStart _ _)

theorem startsNothing_onTimeMark (s : State) : StartsNothing s s.onTimeMark :=
  (startsNothing_setTimer s _).trans (startsNothing_quenchOnTimeMark _)

theorem startsNothing_advanceCounter (s : State) (x : Nat) : StartsNothing s (s.advanceCounter x) :=
  (((startsNothing_setTimer s _).trans (.foldl startsNothing_takeClose _ _)).trans
    (startsNothing_cutOffs _)).callSelections

theorem startsNothing_judgeMark (s : State) (r : StartRecord) (len : Nat) :
    StartsNothing s (s.judgeMark r len) := by
  obtain e | e | ⟨c, o, e⟩ | ⟨o, w, e⟩ := judgeMark_cases s r len <;> rw [e]
  · exact .refl s
  · exact startsNothing_markFault s _
  · exact (startsNothing_setTimer s _).trans (startsNothing_onTimeMark _)
  · exact ((startsNothing_advanceCounter s w).trans (startsNothing_setTimer _ _)).trans
      (startsNothing_onTimeMark _)

theorem startsNothing_startOnMark (s : State) (len : Nat) : StartsNothing s (s.startOnMark len) := by
  have started : StartsNothing s (s.markStarted (wireTime len)) :=
    ((startsNothing_setTimer s _).trans (startsNothing_handCycleStart _ true)).trans (startsNothing_setTimer _ _)
  rw [startOnMark_eq]
  split
  · exact started.trans (startsNothing_onTimeMark _)
  · exact started

theorem startsNothing_timerTakesMark (s : State) (r : StartRecord) (len : Nat) :
    StartsNothing s (s.timerTakesMark r len) := by
  unfold State.timerTakesMark
  split
  · exact .refl s
  · split
    · exact startsNothing_startOnMark s len
    · exact .refl s
  · exact startsNothing_judgeMark s r len

theorem startsNothing_breakRuns (s : State) : StartsNothing s s.breakRuns := by
  refine startsNothing_of_ports (fun p => ?_) fun p _ free => ?_ <;> rw [perPort_get_map]
  · rfl
  · dsimp only
    rw [free]
    rfl

theorem startsNothing_stopTimer (s : State) : StartsNothing s s.stopTimer := by
  unfold State.stopTimer
  split
  · exact (((startsNothing_setTimer s _).trans (startsNothing_breakRuns _)).callSelections).trans
      (startsNothing_inEitherOrder _ startsNothing_stagingTimerStop startsNothing_quenchTimerStop _)
  · exact startsNothing_setTimer s _

end

end Sys2Proof.Machine
end

section
/-! SUPPORT. What a selection of an arbiter can do, case by case, and the laws of capacity, links and references
through it. -/

namespace Sys2Proof.Machine

/-! ### The cases of a selection (R146) -/

/-- A port begins to send a frame, its egress unit changed as its entry leaves the queue (R145). -/
def State.starting (s : State) (p : Port) (leave : Egress → Egress) (sent : Sent) (frame : List Byte)
    (started : Option Bool) : State :=
  s.updateEgress p (fun e => { leave e with
    transmitter := .sending
      { sent := sent, frame := frame, remaining := wireTime frame.length, startedRunning := started } })

theorem starting_eq (s : State) (p : Port) (leave : Egress → Egress) (sent : Sent) (frame : List Byte)
    (started : Option Bool) :
    (s.updateEgress p leave).beginSending p sent frame started = s.starting p leave sent frame started :=
  updateEgress_updateEgress s p _ _

/-- The head of the cyclic queue is gone. -/
def State.dropCyclic (s : State) (p : Port) (rest : List CyclicEntry) : State :=
  s.updateEgress p (fun e => { e with cyclic := rest })

/-- The head of the background queue is gone. -/
def State.dropBackground (s : State) (p : Port) (rest : List Nat) : State :=
  s.updateEgress p (fun e => { e with background := rest })

/-- What a selection makes of a state: rest, a start of one of the three heads, or the same behind an entry that
is suppressed (R83) or discarded (R104). -/
inductive Selects (p : Port) : State → State → Prop
  | rest (s : State) : Selects p s (s.rest p)
  | cyclic {s : State} {c : CyclicEntry} {rest : List CyclicEntry} {sent : Sent} (frame : List Byte)
      (head : (s.egress.get p).cyclic = c :: rest)
      (names : ∀ ref, sent.refersTo ref = true → c.refersTo ref = true) :
      Selects p s (s.starting p (fun e => { e with cyclic := rest }) sent frame none)
  | suppressed {s t : State} {c : CyclicEntry} {rest : List CyclicEntry} (i : StreamIx)
      (f : StreamCounters → StreamCounters) (head : (s.egress.get p).cyclic = c :: rest)
      (next : Selects p ((s.dropCyclic p rest).countStream i f) t) : Selects p s t
  | mgmt {s : State} {m : MgmtEntry} {rest : List MgmtEntry} (head : (s.egress.get p).mgmt = m :: rest)
      (fits : s.fits p (wireTime m.frame.length) = true) :
      Selects p s (s.starting p (fun e => { e with mgmt := rest }) m.sent m.frame (some s.running))
  | background {s : State} {ref : Nat} {rest : List Nat} (head : (s.egress.get p).background = ref :: rest)
      (fits : s.fits p (wireTime (s.frameBytes ref).length) = true) :
      Selects p s (s.starting p (fun e => { e with background := rest }) (.background ref) (s.frameBytes ref)
        (some s.running))
  | discarded {s t : State} {ref : Nat} {rest : List Nat} (f : PortCounters → PortCounters)
      (head : (s.egress.get p).background = ref :: rest)
      (next : Selects p ((s.dropBackground p rest).countPort p f) t) : Selects p s t

/-- How the transmit start of a cyclic entry can end: with what the entry names or a substitute on the wire, or
suppressed and counted (R83). -/
def CyclicOutcome (s : State) (p : Port) (e : CyclicEntry) (out : State × Bool) : Prop :=
  (∃ sent frame, (∀ ref, sent.refersTo ref = true → e.refersTo ref = true) ∧
    out = (s.beginSending p sent frame none, true)) ∨
  ∃ i, out = (s.countStream i (fun c => { c with suppressed := c.suppressed + 1#32 }), false)

theorem startSubstitute_outcome (s : State) (p : Port) (e : CyclicEntry) (i : StreamIx) (c : Phase) :
    CyclicOutcome s p e (s.startSubstitute p i c) := by
  unfold State.startSubstitute
  cases s.substituteFrame i c with
  | some frame => exact .inl ⟨.substitute i, frame, fun _ named => absurd named Bool.false_ne_true, rfl⟩
  | none => exact .inr ⟨i, rfl⟩

/-- A cyclic entry starts as it is, or is built as a substitute (R103, Table 6-6). -/
theorem startCyclic_outcome (s : State) (p : Port) (e : CyclicEntry) :
    CyclicOutcome s p e (s.startCyclic p e) := by
  cases e with
  | real i c ref =>
    rw [State.startCyclic]
    split
    · exact startSubstitute_outcome s p _ i c
    · exact .inl ⟨.real ref, s.frameBytes ref, fun _ => id, rfl⟩
  | substitute i c => exact startSubstitute_outcome s p _ i c
  | mark ref => exact .inl ⟨.mark ref, s.frameBytes ref, fun _ => id, rfl⟩

theorem selectMgmt_eq_some {s t : State} {p : Port} (selected : s.selectMgmt p = some t) :
    ∃ m rest, (s.egress.get p).mgmt = m :: rest ∧ s.fits p (wireTime m.frame.length) = true ∧
      t = s.starting p (fun e => { e with mgmt := rest }) m.sent m.frame (some s.running) := by
  unfold State.selectMgmt at selected
  split at selected
  · next m rest head =>
    split at selected
    · next fits => exact ⟨m, rest, head, fits, (Option.some.inj selected).symm.trans (starting_eq s p _ _ _ _)⟩
    · cases selected
  · cases selected

theorem fittingBackground_eq_some {s : State} {p : Port} {ref : Nat} {rest : List Nat}
    (fitting : s.fittingBackground p = some (ref, rest)) :
    (s.egress.get p).background = ref :: rest ∧ s.fits p (wireTime (s.frameBytes ref).length) = true := by
  unfold State.fittingBackground at fitting
  split at fitting
  · next head =>
    split at fitting
    · next fits =>
      cases fitting
      exact ⟨head, fits⟩
    · cases fitting
  · cases fitting

theorem selectRounds_selects (p : Port) (n : Nat) (s : State) : Selects p s (State.selectRounds p n s) := by
  induction n generalizing s with
  | zero => exact .rest s
  | succ n ih =>
    rw [selectRounds_succ]
    split
    · next c rest head =>
      obtain ⟨sent, frame, names, e⟩ | ⟨i, e⟩ := startCyclic_outcome (s.dropCyclic p rest) p c <;>
        rw [State.dropCyclic] at e <;> simp only [e, if_true, Bool.false_eq_true, if_false]
      · rw [starting_eq]
        exact .cyclic frame head names
      · exact .suppressed i _ head (ih _)
    · split
      · next t selected =>
        obtain ⟨m, rest, head, fits, rfl⟩ := selectMgmt_eq_some selected
        exact .mgmt head fits
      · split
        · next ref rest fitting =>
          obtain ⟨head, fits⟩ := fittingBackground_eq_some fitting
          by_cases quenched : s.quenchedPort p = true
          · have e : (s.dropBackground p rest).startBackground p ref = _ := if_pos quenched
            rw [State.dropBackground] at e
            simp only [e, Bool.false_eq_true, if_false]
            exact .discarded _ head (ih _)
          · have e : (s.dropBackground p rest).startBackground p ref = _ := if_neg quenched
            rw [State.dropBackground] at e
            simp only [e, if_true]
            rw [starting_eq]
            exact .background head fits
        · exact .rest s

theorem select_selects (s : State) (p : Port) :
    Selects p (s.updateEgress p (fun e => { e with selectDue := false })) (s.select p) :=
  selectRounds_selects p _ _

/-! ### What a selection keeps -/

section
variable {s t : State} {p : Port}

/-- An entry that starts leaves its queue for the wire. -/
theorem unitKept_starting {e f : Egress} {x : Transmission} (free : e.transmitter ≠ .down)
    (cyclic : f.cyclic.Sublist e.cyclic) (mgmt : f.mgmt.Sublist e.mgmt)
    (background : f.background.Sublist e.background)
    (names : ∀ ref, x.sent.refersTo ref = true → e.refersTo ref = true) :
    UnitKept s p e { f with transmitter := .sending x } where
  fits h := ⟨cyclic.length_le.trans h.cyclic, mgmt.length_le.trans h.mgmt,
    background.length_le.trans h.background⟩
  empty _ h := ⟨List.sublist_nil.1 (h.cyclic ▸ cyclic), List.sublist_nil.1 (h.mgmt ▸ mgmt),
    List.sublist_nil.1 (h.background ▸ background)⟩
  down := iff_of_false nofun free
  refers ref refers := by
    rw [egress_refersTo_iff] at refers
    obtain ⟨c, mem, named⟩ | mem | ⟨y, sending, named⟩ := refers
    · exact .inl ((egress_refersTo_iff e ref).2 (.inl ⟨c, cyclic.subset mem, named⟩))
    · exact .inl ((egress_refersTo_iff e ref).2 (.inr (.inl (background.subset mem))))
    · cases sending
      exact .inl (names ref named)

theorem tail_sublist {α : Type} {l rest : List α} {x : α} (head : l = x :: rest) : rest.Sublist l :=
  head ▸ List.sublist_cons_self x rest

theorem startsNothing_dropCyclic {c : CyclicEntry} {rest : List CyclicEntry}
    (head : (s.egress.get p).cyclic = c :: rest) : StartsNothing s (s.dropCyclic p rest) :=
  startsNothing_updateEgress
    (.of_sublist (tail_sublist head) (.refl _) (.refl _) .rfl fun _ sending => sending) fun _ sending => sending

theorem startsNothing_dropBackground {ref : Nat} {rest : List Nat}
    (head : (s.egress.get p).background = ref :: rest) : StartsNothing s (s.dropBackground p rest) :=
  startsNothing_updateEgress
    (.of_sublist (.refl _) (.refl _) (tail_sublist head) .rfl fun _ sending => sending) fun _ sending => sending

theorem dropCyclic_transmitter (s : State) (p : Port) (rest : List CyclicEntry) (q : Port) :
    ((s.dropCyclic p rest).egress.get q).transmitter = (s.egress.get q).transmitter := by
  rw [State.dropCyclic, updateEgress_egress, perPort_get_set]
  split
  · next same => rw [same]
  · rfl

theorem dropBackground_transmitter (s : State) (p : Port) (rest : List Nat) (q : Port) :
    ((s.dropBackground p rest).egress.get q).transmitter = (s.egress.get q).transmitter := by
  rw [State.dropBackground, updateEgress_egress, perPort_get_set]
  split
  · next same => rw [same]
  · rfl

theorem dropCyclic_cutDue (s : State) (p : Port) (rest : List CyclicEntry) (q : Port) :
    (s.dropCyclic p rest).cutDue q = s.cutDue q := cutDue_congr q rfl rfl (dropCyclic_transmitter s p rest q)

theorem dropBackground_cutDue (s : State) (p : Port) (rest : List Nat) (q : Port) :
    (s.dropBackground p rest).cutDue q = s.cutDue q :=
  cutDue_congr q rfl rfl (dropBackground_transmitter s p rest q)

/-- A selection of a port that is not DOWN carries the laws. -/
theorem Selects.carriesLaws (h : Selects p s t) (free : (s.egress.get p).transmitter ≠ .down) :
    CarriesLaws s t := by
  induction h with
  | rest s =>
    refine carriesLaws_updateEgress (.of_sublist (.refl _) (.refl _) (.refl _) (iff_of_false ?_ free) ?_) <;>
      dsimp only <;> split <;> nofun
  | @cyclic s c rest sent frame head names =>
    refine carriesLaws_updateEgress (unitKept_starting free (tail_sublist head) (.refl _) (.refl _) fun ref named => ?_)
    exact (egress_refersTo_iff _ ref).2 (.inl ⟨c, head ▸ List.mem_cons_self, names ref named⟩)
  | @suppressed s t c rest i f head _ ih =>
    refine ((startsNothing_dropCyclic head).beside (countStream_within _ i f) rfl).toCarriesLaws.trans (ih ?_)
    rw [countStream_egress, dropCyclic_transmitter]
    exact free
  | @mgmt s m rest head _ =>
    refine carriesLaws_updateEgress (unitKept_starting free (.refl _) (tail_sublist head) (.refl _) fun ref named => ?_)
    cases m <;> cases named
  | @background s ref rest head _ =>
    refine carriesLaws_updateEgress (unitKept_starting free (.refl _) (.refl _) (tail_sublist head) fun r named => ?_)
    obtain rfl : ref = r := by simpa [Sent.refersTo] using named
    exact (egress_refersTo_iff _ ref).2 (.inr (.inl (head ▸ List.mem_cons_self)))
  | @discarded s t ref rest f head _ ih =>
    refine ((startsNothing_dropBackground head).trans (startsNothing_countPort _ p f)).toCarriesLaws.trans (ih ?_)
    rw [countPort_egress, dropBackground_transmitter]
    exact free

/-- No management or background frame fits while a guard is open (R147). -/
theorem openGuard_of_fits {w : Nat} (fits : s.fits p w = true) : s.openGuard p = none := by
  cases running : s.running with
  | false => rw [State.openGuard, running]; rfl
  | true =>
    rw [State.fits, if_pos running] at fits
    cases guard : s.openGuard p with
    | none => rfl
    | some g => rw [guard] at fits; cases fits

/-- The port whose arbiter starts a frame has a cut-off due where a guard is open over a frame that started
while RUNNING; every other port where it had one before. -/
theorem cutDue_starting {leave : Egress → Egress} {sent : Sent} {frame : List Byte} {started : Option Bool}
    (unguarded : started = some true → s.openGuard p = none) (q : Port)
    (due : (s.starting p leave sent frame started).cutDue q = true) : s.cutDue q = true := by
  obtain ⟨guard, x, sending, running⟩ := (cutDue_iff _ q).1 due
  rw [State.starting, updateEgress_egress, perPort_get_set] at sending
  split at sending
  · next same =>
    cases sending
    change (s.openGuard q).isSome = true at guard
    rw [same, unguarded running] at guard
    cases guard
  · exact (cutDue_iff s q).2 ⟨guard, x, sending, running⟩

/-- A selection makes no cut-off due (R147). -/
theorem Selects.cutDue (h : Selects p s t) (q : Port) (due : t.cutDue q = true) : s.cutDue q = true := by
  induction h with
  | rest s =>
    obtain ⟨guard, x, sending, running⟩ := (cutDue_iff _ q).1 due
    rw [State.rest, updateEgress_egress, perPort_get_set] at sending
    split at sending
    · dsimp only at sending
      split at sending <;> cases sending
    · exact (cutDue_iff s q).2 ⟨guard, x, sending, running⟩
  | cyclic frame head names => exact cutDue_starting (by simp) q due
  | suppressed i f head _ ih =>
    exact (dropCyclic_cutDue _ p _ q).symm.trans (ih due)
  | mgmt head fits => exact cutDue_starting (fun _ => openGuard_of_fits fits) q due
  | background head fits => exact cutDue_starting (fun _ => openGuard_of_fits fits) q due
  | discarded f head _ ih =>
    exact (dropBackground_cutDue _ p _ q).symm.trans (ih due)

end

end Sys2Proof.Machine
end

section
/-! SUPPORT. The laws of capacity, links and references through frames, links and requests: every command and
every step carries them. -/

namespace Sys2Proof.Machine

section
variable {s t : State}

/-! ### The arrival of a frame (R31, R131 to R138) -/

theorem startsNothing_streamData (s : State) (p : Port) (r : StartRecord) (f : List Byte) :
    StartsNothing s (s.streamData p r f) := by
  unfold State.streamData
  split
  · next i _ =>
    unfold State.streamFrame
    split
    · exact (startsNothing_countStream s i _).raise _
    · exact (startsNothing_countStream s i _).raise _
    · have held := (startsNothing_updateStream s i StreamRun.admit1).trans (startsNothing_holdFrame _ p f)
      exact held.trans (startsNothing_admittedFrame (holds_holdFrame (s.updateStream i StreamRun.admit1) p f) i _)
  · exact (startsNothing_countPort s p _).raise _

theorem startsNothing_managementRequest (s : State) (p : Port) (f : List Byte) :
    StartsNothing s (s.managementRequest p f) := by
  unfold State.managementRequest State.intakeRequest
  split
  · split
    · next room =>
      refine (startsNothing_countPort s p _).trans (startsNothing_setAgent (fun _ => ?_) id)
      rw [List.length_append]
      exact room
    · exact (startsNothing_countPort s p _).trans (startsNothing_setAgent id id)
  · exact (startsNothing_countPort s p _).raise _

/-- A cycle mark is held, offered, and handed to the timer (R78, R136). -/
theorem startsNothing_cycleMark (s : State) (p : Port) (r : StartRecord) (f : List Byte) :
    StartsNothing s (s.cycleMark p r f) := by
  have held (u : State) : StartsNothing u ((u.holdFrame p f).offerCyclicTo (.mark u.nextFrame)
      (u.active.settings.markForward.portsWithout p)) := by
    refine (startsNothing_holdFrame u p f).trans (startsNothing_offerCyclicTo fun q mem ref named => ?_)
    obtain rfl : u.nextFrame = ref := by simpa [CyclicEntry.refersTo] using named
    exact (holds_holdFrame u p f).heldFor (ne_of_mem_portsWithout mem)
  exact ((startsNothing_countPort s p _).trans (held _)).trans (startsNothing_timerTakesMark _ r _)

/-- A background frame is held and offered to each of its ports (R138). -/
theorem startsNothing_backgroundFrame (s : State) (p : Port) (f : List Byte) :
    StartsNothing s (s.backgroundFrame p f) := by
  have offers (ref : Nat) (qs : List Port) (u : State) (held : ∀ q ∈ qs, u.HeldFor q ref) :
      StartsNothing u (qs.foldl (fun t q => t.offerBackground ref q) u) := by
    induction qs generalizing u with
    | nil => exact .refl u
    | cons q qs ih =>
      refine (startsNothing_offerBackground (held q List.mem_cons_self)).trans (ih _ fun q' mem => ?_)
      rw [State.HeldFor, ((offerBackground_within u ref q).frames rfl).1]
      exact held q' (List.mem_cons_of_mem q mem)
  have counted := startsNothing_countPort s p (fun c => { c with background := c.background + 1#32 })
  unfold State.backgroundFrame
  dsimp only
  split
  · exact counted.trans (startsNothing_countPort _ p _)
  · exact (counted.trans (startsNothing_holdFrame _ p f)).trans
      (offers _ _ _ fun q mem => (holds_holdFrame _ p f).heldFor (ne_of_mem_portsWithout mem))

theorem startsNothing_receiveFrame (s : State) (p : Port) (r : StartRecord) (f : List Byte) :
    StartsNothing s (s.receiveFrame p r f) := by
  have counted (g : PortCounters → PortCounters) : StartsNothing s (s.countPort p g) := startsNothing_countPort s p g
  unfold State.receiveFrame
  split
  · exact counted _
  · split
    · exact counted _
    · split
      · exact counted _
      · refine StartsNothing.trans (counted (fun c => { c with good := c.good + 1#32 })) ?_
        unfold State.goodFrame
        split
        · exact startsNothing_countPort _ p _
        · exact startsNothing_managementRequest _ p f
        · exact startsNothing_cycleMark _ p r f
        · exact startsNothing_streamData _ p r f
        · exact startsNothing_backgroundFrame _ p f

theorem startsNothing_frameArrives (s : State) (p : Port) (r : Reception) :
    StartsNothing s (s.frameArrives p r) :=
  (((((startsNothing_updatePort rfl fun _ _ => rfl : StartsNothing s (s.clearReception p))).trans
    (startsNothing_receiveFrame _ p r.start r.frame)).trans
      (startsNothing_afterReception s _ p (some r))).trans (startsNothing_settleRestart _)).releaseFrames

/-- A frame begins on a port whose link is UP (R128, R130). -/
theorem startsNothing_beginReception {p : Port} (up : s.link p = .up) (f : List Byte) :
    StartsNothing s (s.beginReception p f) :=
  startsNothing_updatePort rfl fun down => absurd (up.symm.trans down) (by decide)

theorem warmRestart_link (s : State) (q : Port) : s.warmRestart.link q = s.link q := by
  have ports := warmRestart_keeps State.ports (fun _ _ => raise_ports _ _) (fun _ _ => rfl) s
  rw [State.link, ports, restartBase_ports, perPort_get_map]
  rfl

theorem settleRestart_link (s : State) (q : Port) : s.settleRestart.link q = s.link q := by
  unfold State.settleRestart
  split
  · split
    · exact warmRestart_link s q
    · rfl
  · rfl

/-- An arrival leaves the link states. -/
theorem frameArrives_link (s : State) (p : Port) (r : Reception) (q : Port) :
    (s.frameArrives p r).link q = s.link q := by
  obtain ⟨count, judged, -⟩ := receiveFrame_counts (s.clearReception p) p r.start r.frame
  have cleared : (s.clearReception p).link q = s.link q := by
    rw [State.clearReception, State.link, updatePort_ports, perPort_get_set]
    split
    · next same => rw [same]; rfl
    · rfl
  calc (s.frameArrives p r).link q
      = ((s.clearReception p).countPort p count).link q :=
        (settleRestart_link _ q).trans ((judged.trans (afterReception_keeps s _ p (some r))).link q)
    _ = s.link q := (countPort_link _ p q count).trans cleared

/-! ### Links (R128, R129, R150) -/

theorem setLink_get (s : State) (p q : Port) (l : LinkState) :
    (s.setLink p l).ports.get q = if q = p then { s.ports.get p with link := l } else s.ports.get q :=
  perPort_get_set _ _ _ _

/-- A change to UP makes the transmitter IDLE (R151). -/
theorem startsNothing_linkUp (s : State) (p : Port) : StartsNothing s (s.linkUp p) := by
  refine StartsNothing.raise (t := (s.setLink p .up).updateEgress p _) ?_ _
  have unit (q : Port) : ((s.setLink p .up).updateEgress p (fun e => { e with transmitter := .idle })).egress.get q =
      if q = p then { s.egress.get p with transmitter := .idle } else s.egress.get q := perPort_get_set _ _ _ _
  have wire (q : Port) (x : Transmission)
      (sending : (((s.setLink p .up).updateEgress p (fun e => { e with transmitter := .idle })).egress.get
        q).transmitter = .sending x) : (s.egress.get q).transmitter = .sending x := by
    rw [unit] at sending
    split at sending
    · cases sending
    · exact sending
  refine ⟨⟨fun law => ?_, fun law => (linkLaw_iff _).2 fun q => ?_,
    fun law => ⟨law.named, law.distinct, fun q ref refers => ?_⟩⟩, wire⟩
  · obtain ⟨units, agent⟩ := (capacityLaw_iff s).1 law
    refine (capacityLaw_iff _).2 ⟨fun q => ?_, agent.intake, agent.records, agent.cache, agent.addresses⟩
    rw [unit]
    split
    · exact ⟨(units p).cyclic, (units p).mgmt, (units p).background⟩
    · exact units q
  · rw [unit, updateEgress_ports, setLink_get]
    split
    · exact ⟨iff_of_false nofun nofun, nofun, nofun⟩
    · exact (linkLaw_iff s).1 law q
  · refine law.held q ref (refersTo_mono (fun c mem => ?_) (fun r mem => ?_) (wire q) refers) <;>
      rw [unit] at mem <;> split at mem
    · next same => rw [same]; exact mem
    · exact mem
    · next same => rw [same]; exact mem
    · exact mem

/-- A change to DOWN leaves nothing queued, sent or in reception. -/
theorem startsNothing_lowered (s : State) (p : Port) : StartsNothing s (s.lowered p) := by
  have unit (q : Port) : (s.lowered p).egress.get q = if q = p then Egress.flushed else s.egress.get q := by
    rw [lowered_eq]
    exact perPort_get_set _ _ _ _
  have frames : (s.lowered p).frames = s.frames ∧ (s.lowered p).nextFrame = s.nextFrame := by
    rw [lowered_eq]
    exact ⟨rfl, rfl⟩
  have wire (q : Port) (x : Transmission) (sending : ((s.lowered p).egress.get q).transmitter = .sending x) :
      (s.egress.get q).transmitter = .sending x := by
    rw [unit] at sending
    split at sending
    · cases sending
    · exact sending
  refine ⟨⟨fun law => ?_, fun law => (linkLaw_iff _).2 fun q => ?_, fun law => ?_⟩, wire⟩
  · obtain ⟨units, agent⟩ := (capacityLaw_iff s).1 law
    refine (capacityLaw_iff _).2 ⟨fun q => ?_, ?_⟩
    · rw [unit]
      split
      · exact ⟨Nat.zero_le _, Nat.zero_le _, Nat.zero_le _⟩
      · exact units q
    · rw [lowered_eq]
      exact ⟨agent.intake, agent.records, agent.cache, agent.addresses⟩
  · rw [unit]
    split
    · next same =>
      rw [same, lowered_unit]
      exact ⟨iff_of_true rfl rfl, fun _ => ⟨rfl, rfl, rfl⟩, fun _ => rfl⟩
    · next other =>
      rw [lowered_other_unit other]
      exact (linkLaw_iff s).1 law q
  · obtain ⟨held, next⟩ := frames
    refine ⟨by rw [held, next]; exact law.named, by rw [held]; exact law.distinct, fun q ref refers => ?_⟩
    rw [unit] at refers
    rw [held]
    split at refers
    · cases refers
    · exact law.held q ref refers

theorem startsNothing_linkDown (s : State) (p : Port) : StartsNothing s (s.linkDown p) :=
  (((startsNothing_lowered s p).raise _).trans (startsNothing_afterReception s _ p _)).trans
    (startsNothing_settleRestart _) |>.releaseFrames

/-! ### The agent (R167, R168) -/

theorem startsNothing_conclude (s : State) (r : Request) (status : Status) (result : List Byte)
    (isRestart : Bool) : StartsNothing s (s.conclude r status result isRestart) := by
  unfold State.conclude
  dsimp only
  generalize s.responseFrame r.source (halfAt r.body 0) r.tag status result = frame
  have stored : StartsNothing s (s.setAgent { s.agent with
      cache := storeReply s.agent.cache { addr := r.source, tag := r.tag, response := frame } }) :=
    startsNothing_setAgent id fun bounded => storeReply_bounded bounded _
  exact (stored.trans (startsNothing_offerResponse _ _ _ _)).beside (draw_within _ 64) rfl

/-- The request leaves the intake. -/
theorem startsNothing_tookRequest {r : Request} {rest : List Request} (head : s.agent.intake = r :: rest) :
    StartsNothing s (s.tookRequest rest) :=
  startsNothing_setAgent (fun fits => by rw [head] at fits; exact (Nat.le_succ _).trans fits) id

theorem startsNothing_answerFromCache (r : Request) {e : CacheEntry} (mem : e ∈ s.agent.cache) :
    StartsNothing s (s.answerFromCache r e) := by
  unfold State.answerFromCache
  refine StartsNothing.trans ?_ (startsNothing_offerResponse _ _ _ _)
  exact startsNothing_setAgent id fun bounded => touchReply_bounded bounded mem

theorem startsNothing_countExecuted (s : State) : StartsNothing s s.countExecuted :=
  startsNothing_setAgent id id

/-- A request that leaves the intake is answered at once, or goes to its row (R167). -/
theorem startsNothing_agentExecutes (s : State) (c : Instr) {row : Request → State → State}
    (effect : ∀ r u, StartsNothing u (row r u)) : StartsNothing s (s.agentExecutes c row) := by
  unfold State.agentExecutes
  split
  · next r rest _ head =>
    have taken := startsNothing_tookRequest head
    split
    · split
      · exact taken.trans (startsNothing_offerResponse _ _ _ _)
      · split
        · next e hit =>
          exact taken.trans (startsNothing_answerFromCache r (List.mem_of_find?_eq_some hit))
        · exact (taken.trans (startsNothing_countExecuted _)).trans (effect r _)
    · exact .refl s
  · exact .refl s
  · exact .refl s

/-- A request of a row carries the laws where the row's effect does. -/
theorem startsNothing_execute (row : RequestRow) (s : State)
    (effect : ∀ r u, StartsNothing u (row.effect r u).after) : StartsNothing s (row.execute s) := by
  refine startsNothing_agentExecutes s _ fun r u => ?_
  unfold RequestRow.judge
  split
  · exact startsNothing_conclude u _ _ _ _
  · split
    · exact startsNothing_conclude u _ _ _ _
    · split
      · exact startsNothing_conclude u _ _ _ _
      · exact (effect r u).trans (startsNothing_conclude _ _ _ _ _)

/-- So does one whose effect touches none of what the laws read. -/
theorem startsNothing_execute_beside {f : Footprint} (row : RequestRow) (s : State)
    (effect : ∀ r u, Within f u (row.effect r u).after) (le : f.le .besidePorts = true) :
    StartsNothing s (row.execute s) :=
  startsNothing_execute row s fun r u => startsNothing_beside (effect r u) le

/-! ### The effects of the requests -/

theorem startsNothing_zeroCounters (s : State) (r : Request) : StartsNothing s (s.zeroCounters r) := by
  unfold State.zeroCounters
  split
  · split
    · exact startsNothing_countStream s _ _
    · exact .refl s
  · exact startsNothing_countPort s _ _

theorem startsNothing_claimEffect (r : Request) (s : State) : StartsNothing s (claimEffect r s).after := by
  have granted : StartsNothing s (s.grant r) := startsNothing_setAgent id id
  unfold claimEffect
  split
  · exact granted
  · split
    · exact granted
    · exact .refl s

theorem startsNothing_commitEffect (s : State) (target : CommitTarget) :
    StartsNothing s (s.commitEffect target).after := by
  have pending (u : CommitTarget) : StartsNothing s (s.makePending u) :=
    (startsNothing_setStaging s _).callSelections
  have valid : StartsNothing s (s.commitValid target).after := by
    unfold State.commitValid
    split
    · split
      · exact pending _
      · split
        · exact pending _
        · exact .refl s
    · exact startsNothing_applyCommit s
  unfold State.commitEffect
  split
  · exact .refl s
  · exact .refl s
  · split
    · exact startsNothing_setStaging s _
    · exact valid

theorem startsNothing_withdrawEffect (r : Request) (s : State) : StartsNothing s (withdrawEffect r s).after := by
  unfold withdrawEffect
  split
  · exact startsNothing_withdrawCommit s _
  · exact .refl s
  · exact .refl s

theorem startsNothing_holdEffect (r : Request) (s : State) : StartsNothing s (holdEffect r s).after := by
  unfold holdEffect State.holdByHand
  split
  · split
    · exact startsNothing_enterHeld s _ _
    · exact startsNothing_enterHeld s _ _
    · exact .refl s
    · exact .refl s
  · exact .refl s

theorem startsNothing_clearQuenchEffect (r : Request) (s : State) :
    StartsNothing s (clearQuenchEffect r s).after := by
  unfold clearQuenchEffect State.clearCauses
  split
  · split
    · exact startsNothing_removeCauses s _
    · exact startsNothing_removeCauses s _
  · exact .refl s

theorem startsNothing_setLiveEffect (r : Request) (s : State) : StartsNothing s (setLiveEffect r s).after := by
  unfold setLiveEffect
  split
  · next v _ =>
    exact (startsNothing_setAgent (a := { s.agent with mgmtPorts := v.ports }) id id).trans
      (startsNothing_applyLive _ _ _ _)
  · exact .refl s

theorem startsNothing_setListenerEffect (r : Request) (s : State) :
    StartsNothing s (setListenerEffect r s).after := by
  unfold setListenerEffect
  split
  · exact startsNothing_setEvents fun fits => (List.length_filter_le _ _).trans fits
  · exact .refl s

theorem startsNothing_setNotifyEffect (r : Request) (s : State) :
    StartsNothing s (setNotifyEffect r s).after := by
  unfold setNotifyEffect
  split
  · exact startsNothing_setEvents id
  · exact .refl s
  · exact .refl s

theorem startsNothing_clearFlagsEffect (r : Request) (s : State) :
    StartsNothing s (clearFlagsEffect r s).after := by
  unfold clearFlagsEffect
  split
  · exact startsNothing_setEvents id
  · exact .refl s

theorem startsNothing_raiseFlagEffect (r : Request) (s : State) :
    StartsNothing s (raiseFlagEffect r s).after := by
  unfold raiseFlagEffect
  split
  · exact startsNothing_raise s _
  · exact .refl s

theorem startsNothing_ackNotifyEffect (r : Request) (s : State) :
    StartsNothing s (ackNotifyEffect r s).after := by
  unfold ackNotifyEffect
  split
  · split
    · exact .refl s
    · split
      · exact .refl s
      · exact startsNothing_setEvents fun fits => (List.length_filter_le _ _).trans fits
  · exact .refl s

theorem startsNothing_timerStart {start : State → State} (started : StartsNothing s (start s)) :
    StartsNothing s (s.timerStart start).after := by
  unfold State.timerStart
  split
  · exact started
  · exact .refl s
  · exact .refl s

theorem startsNothing_timerStopEffect (r : Request) (s : State) :
    StartsNothing s (timerStopEffect r s).after := by
  unfold timerStopEffect
  split
  · exact .refl s
  · exact startsNothing_stopTimer s
  · exact startsNothing_stopTimer s

/-! ### Every command -/

/-- A command whose occasion may not hold (log 2). -/
theorem StartsNothing.ite {c : Prop} [Decidable c] (taken : c → StartsNothing s t) :
    StartsNothing s (if c then t else s) := by
  split
  · next holds => exact taken holds
  · exact .refl s

theorem startsNothing_completeTransmission {p : Port} {x : Transmission}
    (sending : (s.egress.get p).transmitter = .sending x) : StartsNothing s (s.completeTransmission p x) := by
  have ended := (startsNothing_countPort s p (fun c => { c with transmitted := c.transmitted + 1#32 })).trans
    (startsNothing_endTransmission (p := p) sending)
  refine (ended.trans ?_).releaseFrames
  unfold State.completeSent
  split
  · exact startsNothing_countStream _ _ _
  · exact .ite fun _ => startsNothing_warmRestart _
  all_goals exact .refl _

theorem startsNothing_coldReset (s : State) (strap : BitVec 4) (links : PerPort LinkState) (level : LineLevel) :
    StartsNothing s (s.coldReset strap links level) := by
  have egress (p : Port) : (s.coldReset strap links level).egress.get p = Egress.cold (links.get p) :=
    perPort_get_map _ _ _
  have port (p : Port) : (s.coldReset strap links level).ports.get p = PortUnit.cold (links.get p) :=
    perPort_get_map _ _ _
  refine ⟨⟨fun _ => (capacityLaw_iff _).2 ⟨fun p => ?_, ?_⟩, fun _ => (linkLaw_iff _).2 fun p => ?_,
    fun _ => ⟨nofun, List.nodup_nil, fun p ref refers => ?_⟩⟩, fun p x sending => ?_⟩
  · rw [egress]
    exact ⟨Nat.zero_le _, Nat.zero_le _, Nat.zero_le _⟩
  · exact ⟨Nat.zero_le _, Nat.zero_le _, Nat.zero_le _, List.nodup_nil⟩
  · rw [egress, port]
    refine ⟨?_, fun _ => ⟨rfl, rfl, rfl⟩, fun _ => rfl⟩
    cases links.get p <;> simp [PortUnit.cold, Egress.cold]
  · rw [egress] at refers
    cases link : links.get p <;> rw [link] at refers <;> cases refers
  · rw [egress] at sending
    cases link : links.get p <;> rw [link] at sending <;> cases sending

theorem startsNothing_closeIfDue (s : State) (k : WindowKind) (w : Nat) :
    StartsNothing s
      (if h : w < 64 then if s.closeDue k ⟨w, h⟩ then s.takeClose ⟨w, h⟩ else s else s) := by
  split
  · exact .ite fun _ => startsNothing_takeClose s _
  · exact .refl s

theorem exec_startOfFrame_startsNothing (p : Port) (f : List Byte) (s : State) :
    ∃ t, execStartOfFrame p f s = .next t ∧ StartsNothing s t := by
  refine ⟨_, rfl, ?_⟩
  split
  · next up _ => exact startsNothing_beginReception up f
  · next r up _ =>
    exact .ite fun _ => (startsNothing_frameArrives s p r).trans
      (startsNothing_beginReception ((frameArrives_link s p r p).trans up) f)
  · exact .refl s

theorem exec_frameArrival_startsNothing (p : Port) (s : State) :
    ∃ t, execFrameArrival p s = .next t ∧ StartsNothing s t := by
  refine ⟨_, rfl, ?_⟩
  split
  · exact .ite fun _ => startsNothing_frameArrives s p _
  · exact .refl s

theorem exec_linkUp_startsNothing (p : Port) (s : State) :
    ∃ t, execLinkUp p s = .next t ∧ StartsNothing s t := by
  refine ⟨_, rfl, ?_⟩
  split
  · exact .refl s
  · exact startsNothing_linkUp s p

theorem exec_linkDown_startsNothing (p : Port) (s : State) :
    ∃ t, execLinkDown p s = .next t ∧ StartsNothing s t := by
  refine ⟨_, rfl, ?_⟩
  split
  · exact startsNothing_linkDown s p
  · exact .refl s

theorem exec_transmitComplete_startsNothing (p : Port) (s : State) :
    ∃ t, execTransmitComplete p s = .next t ∧ StartsNothing s t := by
  refine ⟨_, rfl, ?_⟩
  split
  · next x sending => exact .ite fun _ => startsNothing_completeTransmission sending
  all_goals exact .refl s

theorem exec_retryTimerExpiry_startsNothing (l : ListenerIx) (q : Half) (s : State) :
    ∃ t, execRetryTimerExpiry l q s = .next t ∧ StartsNothing s t := by
  refine ⟨_, rfl, ?_⟩
  split
  · split
    · exact (startsNothing_setEvents fun fits => (updateFirst_length _ _ _).trans_le fits).trans
        (startsNothing_offerNotifications _ _)
    · exact startsNothing_setEvents fun fits => (List.length_eraseP_le).trans fits
  · exact .refl s

theorem exec_leaseExpiry_startsNothing (s : State) :
    ∃ t, execLeaseExpiry s = .next t ∧ StartsNothing s t := by
  refine ⟨_, rfl, ?_⟩
  split
  · have disowned := startsNothing_setAgent (s := s) (a := { s.agent with owner := none }) id id
    exact .ite fun _ => (disowned.raise occLease).trans (startsNothing_stagingLeaseExpiry _ _)
  · exact .refl s

/-- Every command but a selection carries the laws and starts no transmission. -/
theorem exec_startsNothing {c : Instr} (other : ∀ p, c ≠ .transmitStart p) (s : State) :
    ∃ t, exec c s = .next t ∧ StartsNothing s t := by
  cases c with
  | coldReset strap links level => exact ⟨_, rfl, startsNothing_coldReset s strap links level⟩
  | quenchLineAsserted => exact ⟨_, rfl, startsNothing_pinAt s .asserted⟩
  | quenchLineDeasserted => exact ⟨_, rfl, startsNothing_pinAt s .deasserted⟩
  | linkUp p => exact exec_linkUp_startsNothing p s
  | linkDown p => exact exec_linkDown_startsNothing p s
  | startOfFrame p f => exact exec_startOfFrame_startsNothing p f s
  | frameArrival p => exact exec_frameArrival_startsNothing p s
  | cycleStart =>
    exact ⟨_, rfl, .ite fun _ => (startsNothing_periodMatch s).trans (startsNothing_settleRestart _)⟩
  | windowClose w => exact ⟨_, rfl, startsNothing_closeIfDue s .admitting w⟩
  | guardOpen p =>
    exact ⟨_, rfl, .ite fun due => (startsNothing_cutOff due).trans (startsNothing_settleRestart _)⟩
  | guardClose w => exact ⟨_, rfl, startsNothing_closeIfDue s .guard w⟩
  | attributionIntervalClose => exact ⟨_, rfl, startsNothing_closeIntervalIfOver s⟩
  | pendingAdvanceEnd =>
    exact ⟨_, rfl, .ite fun _ => (startsNothing_updateReception s s.markPort _).callSelections⟩
  | transmitStart p => exact absurd rfl (other p)
  | transmitComplete p => exact exec_transmitComplete_startsNothing p s
  | notificationOffer p => exact ⟨_, rfl, startsNothing_offerNotifications s p⟩
  | retryTimerExpiry l q => exact exec_retryTimerExpiry_startsNothing l q s
  | leaseExpiry => exact exec_leaseExpiry_startsNothing s
  | restageCompletion => exact ⟨_, rfl, .ite fun _ => startsNothing_completeRestage s⟩
  | restartWaitExpiry => exact ⟨_, rfl, .ite fun _ => startsNothing_warmRestart s⟩
  | discover => exact ⟨_, rfl, startsNothing_execute _ s fun _ u => .refl u⟩
  | claim => exact ⟨_, rfl, startsNothing_execute _ s startsNothing_claimEffect⟩
  | yieldOwnership =>
    exact ⟨_, rfl, startsNothing_execute _ s fun _ u =>
      (startsNothing_setAgent (a := { u.agent with owner := none }) id id).beside (stagingYield_within _) rfl⟩
  | readStatus => exact ⟨_, rfl, startsNothing_execute _ s fun _ u => .refl u⟩
  | readSet => exact ⟨_, rfl, startsNothing_execute_beside _ s readSetEffect_within rfl⟩
  | readStreamState => exact ⟨_, rfl, startsNothing_execute _ s fun _ u => .refl u⟩
  | readCounters => exact ⟨_, rfl, startsNothing_execute _ s fun _ u => .refl u⟩
  | readCountersClear => exact ⟨_, rfl, startsNothing_execute _ s fun r u => startsNothing_zeroCounters u r⟩
  | readFlags => exact ⟨_, rfl, startsNothing_execute _ s fun _ u => .refl u⟩
  | readFault => exact ⟨_, rfl, startsNothing_execute _ s fun _ u => .refl u⟩
  | writeSettings =>
    exact ⟨_, rfl, startsNothing_execute_beside _ s
      (fun r u => stagedWrite_within (writeSettings_within u r)) rfl⟩
  | writeWindows =>
    exact ⟨_, rfl, startsNothing_execute_beside _ s
      (fun r u => stagedWrite_within (writeWindows_within u r)) rfl⟩
  | writeStreams =>
    exact ⟨_, rfl, startsNothing_execute_beside _ s
      (fun r u => stagedWrite_within (writeStreams_within u r)) rfl⟩
  | writeSteps =>
    exact ⟨_, rfl, startsNothing_execute_beside _ s
      (fun r u => stagedWrite_within (writeSteps_within u r)) rfl⟩
  | writeTemplate =>
    exact ⟨_, rfl, startsNothing_execute_beside _ s
      (fun r u => stagedWrite_within (writeTemplate_within u r)) rfl⟩
  | commitNext => exact ⟨_, rfl, startsNothing_execute _ s fun _ u => startsNothing_commitEffect u _⟩
  | commitAt => exact ⟨_, rfl, startsNothing_execute _ s fun _ u => startsNothing_commitEffect u _⟩
  | withdraw => exact ⟨_, rfl, startsNothing_execute _ s startsNothing_withdrawEffect⟩
  | holdStream => exact ⟨_, rfl, startsNothing_execute _ s startsNothing_holdEffect⟩
  | releaseStreamResume => exact ⟨_, rfl, startsNothing_execute_beside _ s resumeEffect_within rfl⟩
  | releaseStreamRearm => exact ⟨_, rfl, startsNothing_execute_beside _ s rearmEffect_within rfl⟩
  | quench => exact ⟨_, rfl, startsNothing_execute _ s fun _ u => startsNothing_addCause u .command⟩
  | clearQuench => exact ⟨_, rfl, startsNothing_execute _ s startsNothing_clearQuenchEffect⟩
  | setLive => exact ⟨_, rfl, startsNothing_execute _ s startsNothing_setLiveEffect⟩
  | setListener => exact ⟨_, rfl, startsNothing_execute _ s startsNothing_setListenerEffect⟩
  | setNotify => exact ⟨_, rfl, startsNothing_execute _ s startsNothing_setNotifyEffect⟩
  | clearFlags => exact ⟨_, rfl, startsNothing_execute _ s startsNothing_clearFlagsEffect⟩
  | raiseFlag => exact ⟨_, rfl, startsNothing_execute _ s startsNothing_raiseFlagEffect⟩
  | timerStartImmediate =>
    exact ⟨_, rfl, startsNothing_execute _ s fun _ u => startsNothing_timerStart
      ((startsNothing_setTimer u _).trans (startsNothing_handCycleStart _ true))⟩
  | timerStartOnMark =>
    exact ⟨_, rfl, startsNothing_execute_beside _ s
      (fun _ u => timerStart_within (prepareStart_within u .armed)) rfl⟩
  | timerStop => exact ⟨_, rfl, startsNothing_execute _ s startsNothing_timerStopEffect⟩
  | restart => exact ⟨_, rfl, startsNothing_execute _ s fun _ u => startsNothing_setAgent (s := u) id id⟩
  | ackNotify => exact ⟨_, rfl, startsNothing_execute _ s startsNothing_ackNotifyEffect⟩
  | unknownRequest =>
    exact ⟨_, rfl, startsNothing_agentExecutes s _ fun r u => startsNothing_conclude u r _ _ _⟩

theorem exec_transmitStart_carriesLaws (s : State) (p : Port) :
    ∃ t, exec (.transmitStart p) s = .next t ∧ CarriesLaws s t := by
  refine ⟨_, rfl, ?_⟩
  split
  · next may =>
    obtain ⟨-, free⟩ := (maySelect_iff _).1 may
    have called : StartsNothing s (s.updateEgress p (fun e => { e with selectDue := false })) :=
      startsNothing_updateEgress (unitKept_selectDue s p _ false) fun _ sending => sending
    have selected := (select_selects s p).carriesLaws (by
      rw [updateEgress_egress, perPort_get_set_same]
      rcases free with idle | waiting
      · dsimp only; rw [idle]; nofun
      · dsimp only; rw [waiting]; nofun)
    exact (called.toCarriesLaws.trans selected).trans (startsNothing_releaseFrames _).toCarriesLaws
  · exact (StartsNothing.refl s).toCarriesLaws

/-- Every command answers with a next state, and carries the laws into it. -/
theorem exec_carriesLaws (c : Instr) (s : State) : ∃ t, exec c s = .next t ∧ CarriesLaws s t := by
  by_cases select : ∃ p, c = .transmitStart p
  · obtain ⟨p, rfl⟩ := select
    exact exec_transmitStart_carriesLaws s p
  · obtain ⟨t, answer, starts⟩ := exec_startsNothing (fun p same => select ⟨p, same⟩) s
    exact ⟨t, answer, starts.toCarriesLaws⟩

/-! ### Every step -/

/-- A tick makes a transmission one tick shorter and a reception one tick older. -/
theorem tick_carriesLaws (s : State) : CarriesLaws s s.tick := by
  have egress (p : Port) : s.tick.egress.get p = (s.egress.get p).tick := perPort_get_map _ _ _
  have port (p : Port) : s.tick.ports.get p = (s.ports.get p).tick := perPort_get_map _ _ _
  refine ⟨fun law => ?_, fun law => (linkLaw_iff _).2 fun p => ?_,
    fun law => ⟨law.named, law.distinct, fun p ref refers => law.held p ref ?_⟩⟩
  · obtain ⟨units, agent⟩ := (capacityLaw_iff s).1 law
    refine (capacityLaw_iff _).2 ⟨fun p => ?_, agent.intake, agent.records, agent.cache, agent.addresses⟩
    rw [egress]
    exact ⟨(units p).cyclic, (units p).mgmt, (units p).background⟩
  · obtain ⟨transmitter, empty, reception⟩ := (linkLaw_iff s).1 law p
    rw [egress, port]
    refine ⟨transmitter.trans ?_, fun down => ⟨(empty down).cyclic, (empty down).mgmt, (empty down).background⟩,
      fun down => ?_⟩
    · unfold Egress.tick
      cases (s.egress.get p).transmitter <;> simp
    · rw [PortUnit.tick, reception down]
      rfl
  · rw [egress, egress_refersTo_iff] at refers
    rw [egress_refersTo_iff]
    refine refers.imp_right (Or.imp_right ?_)
    rintro ⟨x, sending, named⟩
    unfold Egress.tick at sending
    cases wire : (s.egress.get p).transmitter <;> rw [wire] at sending <;> cases sending
    exact ⟨_, rfl, named⟩

theorem setPending_carriesLaws (s : State) (l : List Instr) : CarriesLaws s (s.setPending l) :=
  ⟨fun law => law.congr rfl rfl rfl, fun law => law.congr rfl rfl,
    fun law => ⟨law.named, law.distinct, law.held⟩⟩

theorem idle_carriesLaws (s : State) : CarriesLaws s s.idle := by
  unfold State.idle
  split
  · exact tick_carriesLaws s
  · exact setPending_carriesLaws s _
  · exact (startsNothing_beside (draw_within s 1) rfl).toCarriesLaws.trans (setPending_carriesLaws _ _)

/-- A step is a command on the rest of the queue, or idles. -/
theorem step_carriesLaws (step : step s = .next t) : CarriesLaws s t := by
  unfold Machine.step at step
  split at step
  · obtain rfl := Host.Outcome.next.inj step
    exact idle_carriesLaws s
  · next c rest _ =>
    obtain ⟨u, answer, carried⟩ := exec_carriesLaws c (s.setPending rest)
    obtain rfl := Host.Outcome.next.inj (answer.symm.trans step)
    exact (setPending_carriesLaws s rest).trans carried

end

/-- Settles O56: every step carries the capacities on. -/
theorem capacityLawKeptByEveryStep : Obligations.CapacityLawKeptByEveryStep :=
  fun _ _ law step => (step_carriesLaws step).capacity law

end Sys2Proof.Machine
end

section
/-! SUPPORT. The completion of a transmission (R147): which state each kind of frame leaves. -/

namespace Sys2Proof.Machine

section
variable {s : State} {p : Port} {x : Transmission}

/-- Port p after its transmission has ended: counted, the transmitter free, the arbiter called (log 37). -/
def State.freed (s : State) (p : Port) : State :=
  (s.countPort p (fun c => { c with transmitted := c.transmitted + 1#32 })).updateEgress p
    (fun e => { e with transmitter := .idle, selectDue := true })

theorem exec_transmitComplete_sending (sending : (s.egress.get p).transmitter = .sending x) :
    exec (.transmitComplete p) s =
      .next (if x.remaining = 0 then ((s.freed p).completeSent x.sent).releaseFrames else s) := by
  calc exec (.transmitComplete p) s
      = execTransmitComplete p s := rfl
    _ = .next (if x.remaining = 0 then s.completeTransmission p x else s) := by
      rw [execTransmitComplete, sending]

theorem exec_transmitComplete_done (sending : (s.egress.get p).transmitter = .sending x)
    (ended : x.remaining = 0) :
    exec (.transmitComplete p) s = .next ((s.freed p).completeSent x.sent).releaseFrames := by
  rw [exec_transmitComplete_sending sending, if_pos ended]

/-- Only a substitute and a RESTART response have a consequence at their completion. -/
theorem completeSent_eq_self (s : State) {x : Sent} (restart : x ≠ .response true)
    (substitute : ∀ i, x ≠ .substitute i) : s.completeSent x = s := by
  cases x with
  | substitute i => exact absurd rfl (substitute i)
  | response isRestart =>
    cases isRestart
    · rfl
    · exact absurd rfl restart
  | real _ | mark _ | background _ | notification => rfl

/-- Without a restart, a completion touches nothing but streams. -/
theorem completeSent_within_streams (s : State) {x : Sent} (restart : x ≠ .response true) :
    Within { streams := true } s (s.completeSent x) := by
  by_cases substitute : ∃ i, x = .substitute i
  · obtain ⟨i, rfl⟩ := substitute
    exact countStream_within s i fun c => { c with substitutesSent := c.substitutesSent + 1#32 }
  · rw [completeSent_eq_self s restart fun i same => substitute ⟨i, same⟩]
    exact .refl _ s

theorem freed_transmitted (s : State) (p : Port) :
    ((s.freed p).ports.get p).counters.transmitted = (s.ports.get p).counters.transmitted + 1#32 := by
  simp [State.freed]

theorem freed_unit (s : State) (p : Port) :
    (s.freed p).egress.get p = { s.egress.get p with transmitter := .idle, selectDue := true } := by
  simp [State.freed]

theorem completeSent_substitutesSent (s : State) (p : Port) (i : StreamIx) :
    (((s.freed p).completeSent (.substitute i)).releaseFrames).streams[i].counters.substitutesSent =
      s.streams[i].counters.substitutesSent + 1#32 := by
  simp [State.completeSent, State.freed]

end

end Sys2Proof.Machine
end

section
/-! PROOF. O31. -/

namespace Sys2Proof.Machine

/-- Settles O31: the command frees the port first (State.freed); the kind of the frame says what follows
before the frames are released. -/
theorem transmitCompleteCounts : Obligations.TransmitCompleteCounts := by
  refine ⟨fun s p x sending ended restart => ?_, fun s p x sending => ⟨fun left => ?_, fun ended resp => ?_,
    fun i ended substitute => ?_, fun ended restart substitute => ?_⟩⟩
  · have kept := completeSent_within_streams (s.freed p) restart
    refine ⟨_, exec_transmitComplete_done sending ended, ?_⟩
    rw [releaseFrames_ports, releaseFrames_egress, kept.ports rfl, kept.egress rfl, freed_unit]
    refine ⟨freed_transmitted s p, rfl, rfl, rfl, fun i same => ?_, fun substitute => ?_⟩
    · rw [same]
      exact completeSent_substitutesSent s p i
    · rw [completeSent_eq_self _ restart substitute]
      rfl
  · rw [exec_transmitComplete_sending sending, if_neg left]
  · rw [exec_transmitComplete_done sending ended, resp]
    rfl
  · rw [exec_transmitComplete_done sending ended, substitute]
    rfl
  · rw [exec_transmitComplete_done sending ended, completeSent_eq_self _ restart substitute]
    rfl

end Sys2Proof.Machine
end

section
/-! SUPPORT. The cyclic offer (R143): room, the order of the drops, and the ports of an offer. -/

namespace Sys2Proof.Machine

theorem cyclicRoom_iff (s : State) (p : Port) :
    s.cyclicRoom p = true ↔ s.link p = .up ∧ (s.egress.get p).cyclic.length < 8 :=
  ⟨fun room => ⟨link_up_of_hasRoom room, lt_of_hasRoom room⟩, fun ⟨up, few⟩ => by
    rw [State.cyclicRoom, State.hasRoom, up]
    exact decide_eq_true few⟩

theorem cyclicRoom_eq_decide (s : State) (p : Port) :
    s.cyclicRoom p = decide (s.link p = .up ∧ (s.egress.get p).cyclic.length < 8) :=
  Bool.eq_iff_iff.2 ((cyclicRoom_iff s p).trans decide_eq_true_iff.symm)

theorem offerCyclic_taken {s : State} {p : Port} (room : s.cyclicRoom p = true) (e : CyclicEntry) :
    s.offerCyclic e p = s.updateEgress p (fun x => { x with cyclic := x.cyclic ++ [e], selectDue := true }) :=
  if_pos room

/-- A drop raises the entry's kind where the link is UP, and LINK where it is DOWN. -/
theorem offerCyclic_dropped {s : State} {p : Port} (full : s.cyclicRoom p = false) (e : CyclicEntry) :
    s.offerCyclic e p = (s.countPort p (fun c => { c with cyclicDrops := c.cyclicDrops + 1#32 })).raise
      (occEgressDrop p e.stream (match s.link p with | .up => e.kindCode | .down => 4#16)) :=
  if_neg (Bool.eq_false_iff.1 full)

/-- The ports of an offer are its set without the arrival port (R32). -/
theorem mem_portsWithout {set : PortSet} {p q : Port} :
    q ∈ set.portsWithout p ↔ set.getLsbD q.index = true ∧ q ≠ p := by
  rw [PortSet.portsWithout, List.mem_filter, Bool.and_eq_true, decide_eq_true_iff]
  exact and_iff_right (port_mem_all q)

/-- Each port is offered the entry once; with fewer than two drops the order is not free (log 14). -/
theorem offerCyclicTo_order (s : State) (e : CyclicEntry) (ps : List Port) :
    ∃ (qs : List Port) (n : Nat), qs.Perm ps ∧
      s.offerCyclicTo e ps = qs.foldl (fun t p => t.offerCyclic e p) (s.draw n) ∧
      ((ps.filter (fun p => !s.cyclicRoom p)).length < 2 → qs = ps ∧ n = 0) := by
  by_cases ties : 2 ≤ (ps.filter (fun p => !s.cyclicRoom p)).length
  · exact ⟨_, 1, arrange_perm _ ps, if_pos ties, fun few => absurd few (Nat.not_lt.2 ties)⟩
  · exact ⟨ps, 0, .refl ps, if_neg ties, fun _ => ⟨rfl, rfl⟩⟩

theorem egress_refersTo_iff_entries (e : Egress) (ref : Nat) :
    e.refersTo ref = true ↔
      ((∃ i c, CyclicEntry.real i c ref ∈ e.cyclic) ∨ CyclicEntry.mark ref ∈ e.cyclic ∨
        ref ∈ e.background ∨
        ∃ x, e.transmitter = .sending x ∧
          (x.sent = .real ref ∨ x.sent = .mark ref ∨ x.sent = .background ref)) := by
  have queued : (∃ c ∈ e.cyclic, c.refersTo ref = true) ↔
      (∃ i c, CyclicEntry.real i c ref ∈ e.cyclic) ∨ CyclicEntry.mark ref ∈ e.cyclic := by
    simp only [cyclicEntry_refersTo_iff]
    constructor
    · rintro ⟨c, mem, ⟨i, k, rfl⟩ | rfl⟩
      · exact .inl ⟨i, k, mem⟩
      · exact .inr mem
    · rintro (⟨i, k, mem⟩ | mem)
      · exact ⟨_, mem, .inl ⟨i, k, rfl⟩⟩
      · exact ⟨_, mem, .inr rfl⟩
  rw [egress_refersTo_iff, queued, or_assoc]
  simp only [sent_refersTo_iff]

end Sys2Proof.Machine
end

section
/-! PROOF. O28. -/

namespace Sys2Proof.Machine

/-- Settles O28: the offer by whether the queue has room (cyclicRoom_iff), its order, its ports, and the life of
a held frame. -/
theorem cyclicOfferTakesOrDrops : Obligations.CyclicOfferTakesOrDrops := by
  refine ⟨fun s e p => ⟨fun up few => ?_, fun up full => ?_, fun down => ?_⟩, fun s e ps => ?_,
    fun _ _ _ => mem_portsWithout, fun _ _ _ => ⟨rfl, rfl, rfl, rfl, rfl, rfl⟩,
    fun s p f => ⟨holdFrame_frameBytes_new s p f, rfl, fun _ other => holdFrame_frameBytes_old s p f other⟩,
    fun s ref => ⟨fun x => mem_releaseFrames, fun p refers => releaseFrames_frameBytes s p refers,
      fun e => egress_refersTo_iff_entries e ref⟩⟩
  · exact offerCyclic_taken ((cyclicRoom_iff s p).2 ⟨up, few⟩) e
  · have room : s.cyclicRoom p = false := by
      rw [cyclicRoom_eq_decide]
      exact decide_eq_false fun room => absurd room.2 (Nat.not_lt.2 full)
    rw [offerCyclic_dropped room, up]
    rfl
  · have room : s.cyclicRoom p = false := by
      rw [cyclicRoom_eq_decide, down]
      exact decide_eq_false nofun
    rw [offerCyclic_dropped room, down]
    rfl
  · obtain ⟨qs, n, perm, folded, fixed⟩ := offerCyclicTo_order s e ps
    simp only [cyclicRoom_eq_decide] at fixed
    exact ⟨qs, n, perm, folded, fixed⟩

end Sys2Proof.Machine
end

section
/-! SUPPORT. The transmit start (R103, R145, R146): one equation for each way a round of a selection can go, then
the selection, then the command. -/

namespace Sys2Proof.Machine

section
variable {s t : State} {p : Port}

/-! ### One round -/

theorem selectRounds_started {n : Nat} {c : CyclicEntry} {rest : List CyclicEntry}
    (head : (s.egress.get p).cyclic = c :: rest) (starts : (s.dropCyclic p rest).startCyclic p c = (t, true)) :
    State.selectRounds p (n + 1) s = t := by
  rw [State.dropCyclic] at starts
  rw [selectRounds_succ, head]
  dsimp only
  rw [starts, if_pos rfl]

theorem selectRounds_suppressed {n : Nat} {c : CyclicEntry} {rest : List CyclicEntry}
    (head : (s.egress.get p).cyclic = c :: rest) (drops : (s.dropCyclic p rest).startCyclic p c = (t, false)) :
    State.selectRounds p (n + 1) s = State.selectRounds p n t := by
  rw [State.dropCyclic] at drops
  rw [selectRounds_succ, head]
  dsimp only
  rw [drops, if_neg Bool.false_ne_true]

theorem selectRounds_mgmt {n : Nat} (cyclic : (s.egress.get p).cyclic = []) (mgmt : s.selectMgmt p = some t) :
    State.selectRounds p (n + 1) s = t := by
  rw [selectRounds_succ, cyclic, mgmt]

theorem selectRounds_background {n : Nat} {ref : Nat} {rest : List Nat}
    (cyclic : (s.egress.get p).cyclic = []) (mgmt : s.selectMgmt p = none)
    (fitting : s.fittingBackground p = some (ref, rest))
    (starts : (s.dropBackground p rest).startBackground p ref = (t, true)) :
    State.selectRounds p (n + 1) s = t := by
  rw [State.dropBackground] at starts
  rw [selectRounds_succ, cyclic, mgmt, fitting]
  dsimp only
  rw [starts, if_pos rfl]

theorem selectRounds_discarded {n : Nat} {ref : Nat} {rest : List Nat}
    (cyclic : (s.egress.get p).cyclic = []) (mgmt : s.selectMgmt p = none)
    (fitting : s.fittingBackground p = some (ref, rest))
    (drops : (s.dropBackground p rest).startBackground p ref = (t, false)) :
    State.selectRounds p (n + 1) s = State.selectRounds p n t := by
  rw [State.dropBackground] at drops
  rw [selectRounds_succ, cyclic, mgmt, fitting]
  dsimp only
  rw [drops, if_neg Bool.false_ne_true]

theorem selectRounds_rest {n : Nat} (cyclic : (s.egress.get p).cyclic = []) (mgmt : s.selectMgmt p = none)
    (background : s.fittingBackground p = none) : State.selectRounds p (n + 1) s = s.rest p := by
  rw [selectRounds_succ, cyclic, mgmt, background]

/-! ### What the heads do -/

theorem quenchedPort_iff (s : State) (p : Port) :
    s.quenchedPort p = true ↔ s.quench.qs = true ∧ s.active.settings.quenchEgress.getLsbD p.index = true :=
  Bool.and_eq_true_iff

theorem startSubstitute_started {i : StreamIx} {c : Phase} {f : List Byte}
    (built : s.substituteFrame i c = some f) :
    s.startSubstitute p i c = (s.beginSending p (.substitute i) f none, true) := by
  rw [State.startSubstitute, built]

theorem startSubstitute_suppressed {i : StreamIx} {c : Phase} (missing : s.substituteFrame i c = none)
    (p : Port) :
    s.startSubstitute p i c = (s.countStream i (fun x => { x with suppressed := x.suppressed + 1#32 }), false) := by
  rw [State.startSubstitute, missing]

/-- An entry is to be sent as a substitute: it is one, or it is REAL on a quenched port (Table 6-6). -/
def State.Substitutes (s : State) (p : Port) (e : CyclicEntry) (i : StreamIx) (c : Phase) : Prop :=
  e = .substitute i c ∨ ∃ ref, e = .real i c ref ∧ s.quenchedPort p = true

theorem startCyclic_of_substitutes {e : CyclicEntry} {i : StreamIx} {c : Phase}
    (substitutes : s.Substitutes p e i c) : s.startCyclic p e = s.startSubstitute p i c := by
  obtain rfl | ⟨ref, rfl, quenched⟩ := substitutes
  · rfl
  · exact if_pos quenched

theorem selectMgmt_fits {m : MgmtEntry} {rest : List MgmtEntry} (head : (s.egress.get p).mgmt = m :: rest)
    (fits : s.fits p (wireTime m.frame.length) = true) :
    s.selectMgmt p = some (s.starting p (fun e => { e with mgmt := rest }) m.sent m.frame (some s.running)) := by
  rw [State.selectMgmt, head]
  exact (if_pos fits).trans (congrArg some (starting_eq s p _ _ _ _))

theorem selectMgmt_eq_none
    (waits : ∀ m rest, (s.egress.get p).mgmt = m :: rest → s.fits p (wireTime m.frame.length) = false) :
    s.selectMgmt p = none := by
  unfold State.selectMgmt
  split
  · next m rest head => exact if_neg (Bool.eq_false_iff.1 (waits m rest head))
  · rfl

theorem fittingBackground_fits {ref : Nat} {rest : List Nat} (head : (s.egress.get p).background = ref :: rest)
    (fits : s.fits p (wireTime (s.frameBytes ref).length) = true) :
    s.fittingBackground p = some (ref, rest) := by
  rw [State.fittingBackground, head]
  exact if_pos fits

theorem fittingBackground_eq_none
    (waits : ∀ ref rest, (s.egress.get p).background = ref :: rest →
      s.fits p (wireTime (s.frameBytes ref).length) = false) :
    s.fittingBackground p = none := by
  unfold State.fittingBackground
  split
  · next ref rest head => exact if_neg (Bool.eq_false_iff.1 (waits ref rest head))
  · rfl

/-! ### The selection -/

/-- The call of a port's arbiter is answered: the first step of its selection. -/
def State.answered (s : State) (p : Port) : State := s.updateEgress p (fun e => { e with selectDue := false })

theorem answered_unit (s : State) (p : Port) :
    (s.answered p).egress.get p = { s.egress.get p with selectDue := false } := perPort_get_set_same _ _ _

/-- A port answers its call and begins to send a frame, its egress unit changed as the entry leaves. -/
def State.started (s : State) (p : Port) (leave : Egress → Egress) (sent : Sent) (frame : List Byte)
    (startedRunning : Option Bool) : State :=
  s.updateEgress p (fun e => { leave e with
    transmitter := .sending
      { sent := sent, frame := frame, remaining := (frame.length + 20) * 2, startedRunning := startedRunning }
    selectDue := false })

/-- What leaves a queue and the call are changed in either order. -/
theorem starting_answered (s : State) (p : Port) {leave : Egress → Egress}
    (apart : ∀ e, leave { e with selectDue := false } = { leave e with selectDue := false }) (sent : Sent)
    (frame : List Byte) (started : Option Bool) :
    (s.answered p).starting p leave sent frame started = s.started p leave sent frame started := by
  rw [State.answered, State.starting, updateEgress_updateEgress]
  simp only [apart]
  rfl

/-- One round for each entry of the two queues that may be dropped, and one more. -/
theorem select_eq (s : State) (p : Port) :
    s.select p = State.selectRounds p ((s.egress.get p).cyclic.length + (s.egress.get p).background.length + 1)
      (s.answered p) := rfl

theorem select_cyclic {c : CyclicEntry} {rest : List CyclicEntry} {sent : Sent} {frame : List Byte}
    (head : (s.egress.get p).cyclic = c :: rest)
    (starts : ((s.answered p).dropCyclic p rest).startCyclic p c =
      (((s.answered p).dropCyclic p rest).beginSending p sent frame none, true)) :
    s.select p = s.started p (fun e => { e with cyclic := rest }) sent frame none := by
  have head' : ((s.answered p).egress.get p).cyclic = c :: rest := by rw [answered_unit, head]
  calc s.select p
      = ((s.answered p).dropCyclic p rest).beginSending p sent frame none := selectRounds_started head' starts
    _ = (s.answered p).starting p (fun e => { e with cyclic := rest }) sent frame none := starting_eq _ p _ _ _ _
    _ = s.started p (fun e => { e with cyclic := rest }) sent frame none :=
      starting_answered s p (fun _ => rfl) _ _ _

/-- Behind a suppressed entry the selection is that of a state without it. -/
theorem select_suppressed {c : CyclicEntry} {rest : List CyclicEntry} {i : StreamIx}
    {f : StreamCounters → StreamCounters} (head : (s.egress.get p).cyclic = c :: rest)
    (drops : ((s.answered p).dropCyclic p rest).startCyclic p c =
      (((s.answered p).dropCyclic p rest).countStream i f, false)) :
    s.select p = ((s.dropCyclic p rest).countStream i f).select p := by
  have head' : ((s.answered p).egress.get p).cyclic = c :: rest := by rw [answered_unit, head]
  have commute : ((s.answered p).dropCyclic p rest).countStream i f =
      ((s.dropCyclic p rest).countStream i f).answered p := by cases p <;> rfl
  have unit : ((s.dropCyclic p rest).countStream i f).egress.get p = { s.egress.get p with cyclic := rest } :=
    perPort_get_set_same _ _ _
  rw [select_eq, select_eq, unit, head, List.length_cons, Nat.add_right_comm rest.length 1,
    selectRounds_suppressed head' drops, commute]

theorem select_discarded {ref : Nat} {rest : List Nat} {f : PortCounters → PortCounters}
    (cyclic : (s.egress.get p).cyclic = []) (mgmt : (s.answered p).selectMgmt p = none)
    (head : (s.egress.get p).background = ref :: rest)
    (fitting : (s.answered p).fittingBackground p = some (ref, rest))
    (drops : ((s.answered p).dropBackground p rest).startBackground p ref =
      (((s.answered p).dropBackground p rest).countPort p f, false)) :
    s.select p = ((s.dropBackground p rest).countPort p f).select p := by
  have empty : ((s.answered p).egress.get p).cyclic = [] := by rw [answered_unit, cyclic]
  have commute : ((s.answered p).dropBackground p rest).countPort p f =
      ((s.dropBackground p rest).countPort p f).answered p := by cases p <;> rfl
  have unit : ((s.dropBackground p rest).countPort p f).egress.get p =
      { s.egress.get p with background := rest } := perPort_get_set_same _ _ _
  rw [select_eq, select_eq, unit, cyclic, head, List.length_cons, ← Nat.add_assoc,
    selectRounds_discarded empty mgmt fitting drops, commute]

/-! ### The command -/

/-- A port is called and free, so that its arbiter may select (R146, R148). -/
structure State.MaySelect (s : State) (p : Port) : Prop where
  due : (s.egress.get p).selectDue = true
  free : (s.egress.get p).transmitter = .idle ∨ (s.egress.get p).transmitter = .waiting

theorem exec_transmitStart_eq (may : s.MaySelect p) :
    exec (.transmitStart p) s = .next (s.select p).releaseFrames :=
  congrArg Host.Outcome.next (if_pos ((maySelect_iff _).2 ⟨may.due, may.free⟩))

/-- A REAL entry of a port that is not quenched starts as received. -/
theorem exec_transmitStart_real (may : s.MaySelect p) {i : StreamIx} {c : Phase} {ref : Nat}
    {rest : List CyclicEntry} (head : (s.egress.get p).cyclic = .real i c ref :: rest)
    (unquenched : ¬ s.quenchedPort p = true) :
    exec (.transmitStart p) s =
      .next (s.started p (fun e => { e with cyclic := rest }) (.real ref) (s.frameBytes ref) none).releaseFrames := by
  rw [exec_transmitStart_eq may, select_cyclic head (if_neg unquenched)]
  rfl

theorem exec_transmitStart_mark (may : s.MaySelect p) {ref : Nat} {rest : List CyclicEntry}
    (head : (s.egress.get p).cyclic = .mark ref :: rest) :
    exec (.transmitStart p) s =
      .next (s.started p (fun e => { e with cyclic := rest }) (.mark ref) (s.frameBytes ref) none).releaseFrames := by
  rw [exec_transmitStart_eq may, select_cyclic head rfl]
  rfl

theorem exec_transmitStart_substitute (may : s.MaySelect p) {e : CyclicEntry} {i : StreamIx} {c : Phase}
    {rest : List CyclicEntry} {f : List Byte} (head : (s.egress.get p).cyclic = e :: rest)
    (substitutes : s.Substitutes p e i c) (built : s.substituteFrame i c = some f) :
    exec (.transmitStart p) s =
      .next (s.started p (fun e => { e with cyclic := rest }) (.substitute i) f none).releaseFrames := by
  have starts := (startCyclic_of_substitutes (s := (s.answered p).dropCyclic p rest) substitutes).trans
    (startSubstitute_started built)
  rw [exec_transmitStart_eq may, select_cyclic head starts]

/-- An entry whose template is missing is counted, and the arbiter selects again (R83). -/
theorem exec_transmitStart_suppressed (may : s.MaySelect p) {e : CyclicEntry} {i : StreamIx} {c : Phase}
    {rest : List CyclicEntry} (head : (s.egress.get p).cyclic = e :: rest)
    (substitutes : s.Substitutes p e i c) (missing : s.substituteFrame i c = none) :
    exec (.transmitStart p) s = exec (.transmitStart p)
      ((s.dropCyclic p rest).countStream i (fun x => { x with suppressed := x.suppressed + 1#32 })) := by
  have drops := (startCyclic_of_substitutes (s := (s.answered p).dropCyclic p rest) substitutes).trans
    (startSubstitute_suppressed (s := (s.answered p).dropCyclic p rest) missing p)
  have unit (f : StreamCounters → StreamCounters) : ((s.dropCyclic p rest).countStream i f).egress.get p =
      { s.egress.get p with cyclic := rest } := perPort_get_set_same _ _ _
  rw [exec_transmitStart_eq may, select_suppressed head drops,
    exec_transmitStart_eq ⟨by rw [unit]; exact may.due, by rw [unit]; exact may.free⟩]

theorem exec_transmitStart_mgmt (may : s.MaySelect p) (cyclic : (s.egress.get p).cyclic = []) {m : MgmtEntry}
    {rest : List MgmtEntry} (head : (s.egress.get p).mgmt = m :: rest)
    (fits : s.fits p (wireTime m.frame.length) = true) :
    exec (.transmitStart p) s =
      .next (s.started p (fun e => { e with mgmt := rest }) m.sent m.frame (some s.running)).releaseFrames := by
  have empty : ((s.answered p).egress.get p).cyclic = [] := by rw [answered_unit, cyclic]
  have head' : ((s.answered p).egress.get p).mgmt = m :: rest := by rw [answered_unit, head]
  rw [exec_transmitStart_eq may, select_eq, selectRounds_mgmt empty (selectMgmt_fits head' fits),
    starting_answered s p fun _ => rfl]
  rfl

/-- No management head fits, before the call is answered as after. -/
theorem answered_passes (cyclic : (s.egress.get p).cyclic = [])
    (waits : ∀ m rest, (s.egress.get p).mgmt = m :: rest → s.fits p (wireTime m.frame.length) = false) :
    ((s.answered p).egress.get p).cyclic = [] ∧ (s.answered p).selectMgmt p = none := by
  rw [answered_unit]
  exact ⟨cyclic, selectMgmt_eq_none fun m rest head => waits m rest (by rwa [answered_unit] at head)⟩

section
variable (may : s.MaySelect p) (cyclic : (s.egress.get p).cyclic = [])
  (waits : ∀ m rest, (s.egress.get p).mgmt = m :: rest → s.fits p (wireTime m.frame.length) = false)
include may cyclic waits

theorem exec_transmitStart_background {ref : Nat} {rest : List Nat}
    (head : (s.egress.get p).background = ref :: rest)
    (fits : s.fits p (wireTime (s.frameBytes ref).length) = true) (unquenched : ¬ s.quenchedPort p = true) :
    exec (.transmitStart p) s =
      .next (s.started p (fun e => { e with background := rest }) (.background ref) (s.frameBytes ref)
        (some s.running)).releaseFrames := by
  obtain ⟨empty, mgmt⟩ := answered_passes cyclic waits
  have fitting : (s.answered p).fittingBackground p = some (ref, rest) :=
    fittingBackground_fits (by rw [answered_unit, head]) fits
  rw [exec_transmitStart_eq may, select_eq, selectRounds_background empty mgmt fitting (if_neg unquenched),
    State.dropBackground, starting_eq, starting_answered s p fun _ => rfl]
  rfl

/-- A quenched port discards its background head, and the arbiter selects again (R104). -/
theorem exec_transmitStart_discarded {ref : Nat} {rest : List Nat}
    (head : (s.egress.get p).background = ref :: rest)
    (fits : s.fits p (wireTime (s.frameBytes ref).length) = true) (quenched : s.quenchedPort p = true) :
    exec (.transmitStart p) s = exec (.transmitStart p)
      ((s.dropBackground p rest).countPort p (fun x => { x with quenchDiscards := x.quenchDiscards + 1#32 })) := by
  obtain ⟨-, mgmt⟩ := answered_passes cyclic waits
  have fitting : (s.answered p).fittingBackground p = some (ref, rest) :=
    fittingBackground_fits (by rw [answered_unit, head]) fits
  have unit (f : PortCounters → PortCounters) : ((s.dropBackground p rest).countPort p f).egress.get p =
      { s.egress.get p with background := rest } := perPort_get_set_same _ _ _
  rw [exec_transmitStart_eq may, select_discarded cyclic mgmt head fitting (if_pos quenched),
    exec_transmitStart_eq ⟨by rw [unit]; exact may.due, by rw [unit]; exact may.free⟩]

/-- With nothing eligible the transmitter rests: IDLE with all queues empty, else WAITING. -/
theorem exec_transmitStart_rest
    (stays : ∀ ref rest, (s.egress.get p).background = ref :: rest →
      s.fits p (wireTime (s.frameBytes ref).length) = false) :
    exec (.transmitStart p) s =
      .next (s.updateEgress p (fun e => { e with
        transmitter := if e.mgmt = [] ∧ e.background = [] then .idle else .waiting
        selectDue := false })).releaseFrames := by
  obtain ⟨empty, mgmt⟩ := answered_passes cyclic waits
  have background : (s.answered p).fittingBackground p = none :=
    fittingBackground_eq_none fun ref rest head => stays ref rest (by rwa [answered_unit] at head)
  rw [exec_transmitStart_eq may, select_eq, selectRounds_rest empty mgmt background, State.rest,
    State.answered, updateEgress_updateEgress, State.updateEgress, State.updateEgress]
  simp [cyclic]

end

/-! ### The bytes of a substitute (Table 5-2) -/

theorem byteAt_set (l : List Byte) {i : Nat} (inside : i < l.length) (v : Byte) (k : Nat) :
    byteAt (l.set i v) k = if i = k then v else byteAt l k := by
  unfold byteAt
  rw [List.getD_eq_getElem?_getD, List.getD_eq_getElem?_getD, List.getElem?_set]
  split
  · rfl
  · rfl

/-- A field of two bytes, the higher one first. -/
theorem halfAt_of_bytes {l : List Byte} {i : Nat} {v : Half} (high : byteAt l i = v.extractLsb' 8 8)
    (low : byteAt l (i + 1) = v.extractLsb' 0 8) : halfAt l i = v := by
  apply BitVec.eq_of_toNat_eq
  simp only [halfAt, natAt, high, low, Nat.add_zero, BitVec.toNat_ofNat, BitVec.extractLsb'_toNat,
    Nat.shiftRight_eq_div_pow]
  omega

theorem patchTemplate_length (image : List Byte) (tag cycleTag : Half) (c : Phase) :
    (patchTemplate image tag c cycleTag).length = image.length := by
  simp only [patchTemplate, List.length_set]

theorem byteAt_patchTemplate {image : List Byte} (long : 22 ≤ image.length) (tag cycleTag : Half) (c : Phase)
    (k : Nat) :
    byteAt (patchTemplate image tag c cycleTag) k =
      if 21 = k then cycleTag.extractLsb' 0 8 else if 20 = k then cycleTag.extractLsb' 8 8
      else if 17 = k then tag.extractLsb' 0 8 else if 16 = k then tag.extractLsb' 8 8
      else if 15 = k then 0x80#8 ||| (byteAt image 15 &&& 0x70#8) ||| c.setWidth 8 else byteAt image k := by
  unfold patchTemplate
  iterate 5 rw [byteAt_set _ (by grind)]

theorem substituteFrame_built {i : StreamIx} {k : TemplateIx} {image : List Byte}
    (named : (s.streamRec i).template = some k) (present : s.active.templates[k] = some image) (c : Phase) :
    s.substituteFrame i c =
      some (withFcs (patchTemplate image (s.streamRec i).tag c (s.timer.cycleCount.setWidth 16))) := by
  rw [State.substituteFrame, named]
  dsimp only
  rw [present]

theorem substituteFrame_unnamed {i : StreamIx} (unnamed : (s.streamRec i).template = none) (c : Phase) :
    s.substituteFrame i c = none := by
  rw [State.substituteFrame, unnamed]

theorem substituteFrame_absent {i : StreamIx} {k : TemplateIx} (named : (s.streamRec i).template = some k)
    (absent : s.active.templates[k] = none) (c : Phase) : s.substituteFrame i c = none := by
  rw [State.substituteFrame, named]
  dsimp only
  rw [absent]

end

end Sys2Proof.Machine
end

section
/-! PROOF. O29. -/

namespace Sys2Proof.Machine

theorem started_unit (s : State) (p : Port) (leave : Egress → Egress) (sent : Sent) (frame : List Byte)
    (started : Option Bool) :
    (s.started p leave sent frame started).releaseFrames.egress.get p =
      { leave (s.egress.get p) with
        transmitter := .sending
          { sent := sent, frame := frame, remaining := (frame.length + 20) * 2, startedRunning := started }
        selectDue := false } := perPort_get_set_same _ _ _

/-- Settles O29: the equation of exec_transmitStart for each head that the arbiter can meet, and the bytes of a
patched template. -/
theorem transmitStartTakesTheCyclicHead : Obligations.TransmitStartTakesTheCyclicHead := by
  refine ⟨fun s p i c ref rest due free head => ?_, fun s p due free => ?_, fun s i c => ?_,
    fun image tag cycleTag c long => ?_⟩
  · have may : s.MaySelect p := ⟨due, free⟩
    refine ⟨fun unquenched => ?_, fun k image set member named present => ?_⟩
    · have notQuenched : ¬ s.quenchedPort p = true := by
        rw [quenchedPort_iff]
        rintro ⟨set, member⟩
        rcases unquenched with off | out
        · exact Bool.false_ne_true (off.symm.trans set)
        · exact Bool.false_ne_true (out.symm.trans member)
      refine ⟨_, exec_transmitStart_real may head notQuenched, ?_⟩
      rw [started_unit]
      exact ⟨rfl, rfl⟩
    · have quenched := (quenchedPort_iff s p).2 ⟨set, member⟩
      refine ⟨_, exec_transmitStart_substitute may head (.inr ⟨ref, rfl, quenched⟩)
        (substituteFrame_built named present c), ?_⟩
      rw [started_unit]
      exact ⟨rfl, _, rfl, rfl⟩
  · have may : s.MaySelect p := ⟨due, free⟩
    simp only [← quenchedPort_iff]
    refine ⟨fun i c ref rest head unquenched => exec_transmitStart_real may head unquenched,
      fun ref rest head => exec_transmitStart_mark may head, fun i c rest head => ?_,
      fun cyclic => ⟨fun m rest head fits => exec_transmitStart_mgmt may cyclic head fits,
        fun waits => ⟨fun ref rest head fits =>
          ⟨exec_transmitStart_background may cyclic waits head fits,
            exec_transmitStart_discarded may cyclic waits head fits⟩,
          exec_transmitStart_rest may cyclic waits⟩⟩⟩
    obtain ⟨e, head, substitutes⟩ : ∃ e, (s.egress.get p).cyclic = e :: rest ∧ s.Substitutes p e i c := by
      obtain head | ⟨ref, head, quenched⟩ := head
      · exact ⟨_, head, .inl rfl⟩
      · exact ⟨_, head, .inr ⟨ref, rfl, quenched⟩⟩
    exact ⟨fun f built => exec_transmitStart_substitute may head substitutes built,
      exec_transmitStart_suppressed may head substitutes⟩
  · exact ⟨fun unnamed => substituteFrame_unnamed unnamed c, fun k named =>
      ⟨fun absent => substituteFrame_absent named absent c,
        fun image present => substituteFrame_built named present c⟩⟩
  · have byte := byteAt_patchTemplate long tag cycleTag c
    refine ⟨patchTemplate_length image tag cycleTag c, byte 15, halfAt_of_bytes (byte 16) (byte 17),
      halfAt_of_bytes (byte 20) (byte 21), fun k h15 h16 h17 h20 h21 => ?_⟩
    rw [byte, if_neg h21.symm, if_neg h20.symm, if_neg h17.symm, if_neg h16.symm, if_neg h15.symm]

end Sys2Proof.Machine
end

section
/-! SUPPORT. The fit rule (R60, R61, R76, R147): open guard, next guard and pending advance. -/

namespace Sys2Proof.Machine

section
variable {s : State} {p : Port}

/-! ### The GUARD windows of a port -/

/-- A window of a set is a GUARD window of a port. -/
def Bank.Guards (b : Bank) (p : Port) (v : WindowIx) : Prop :=
  b.windows[v].valid = true ∧ b.windows[v].kind = .guard ∧ b.windows[v].port = p

theorem mem_guardWindows_iff {b : Bank} {w : WindowRec} :
    w ∈ guardWindows b p ↔ ∃ v : WindowIx, b.Guards p v ∧ b.windows[v] = w := by
  rw [mem_guardWindows]
  constructor
  · rintro ⟨v, rfl, guard⟩
    exact ⟨v, guard, rfl⟩
  · rintro ⟨v, guard, rfl⟩
    exact ⟨v, rfl, guard⟩

theorem mem_guardOffsets_iff {b : Bank} {o : Nat} :
    o ∈ (guardWindows b p).map (fun w => w.openOff) ↔
      ∃ v : WindowIx, b.Guards p v ∧ b.windows[v].openOff = o := by
  simp only [List.mem_map, mem_guardWindows_iff]
  constructor
  · rintro ⟨w, ⟨v, guard, rfl⟩, rfl⟩
    exact ⟨v, guard, rfl⟩
  · rintro ⟨v, guard, rfl⟩
    exact ⟨_, ⟨v, guard, rfl⟩, rfl⟩

/-! ### The open guard and the next one -/

theorem openGuard_isSome_iff (running : s.timer.state = .running) :
    (s.openGuard p).isSome = true ↔ ∃ v : WindowIx, s.active.Guards p v ∧
      s.active.windows[v].openOff ≤ s.timer.counter ∧ s.timer.counter < s.active.windows[v].closeOff := by
  rw [State.openGuard, if_pos (running_of_state running), List.find?_isSome]
  simp only [mem_guardWindows_iff, Bool.and_eq_true, decide_eq_true_iff]
  constructor
  · rintro ⟨w, ⟨v, guard, rfl⟩, inside⟩
    exact ⟨v, guard, inside⟩
  · rintro ⟨v, guard, inside⟩
    exact ⟨_, ⟨v, guard, rfl⟩, inside⟩

/-- The open offsets of a port's guards that lie ahead in the cycle. -/
def State.guardsAhead (s : State) (p : Port) : List Nat :=
  ((guardWindows s.active p).map (fun w => w.openOff)).filter (fun o => decide (s.timer.counter < o))

theorem mem_guardsAhead {o : Nat} : o ∈ s.guardsAhead p ↔
    (∃ v : WindowIx, s.active.Guards p v ∧ s.active.windows[v].openOff = o) ∧ s.timer.counter < o := by
  rw [State.guardsAhead, List.mem_filter, mem_guardOffsets_iff, decide_eq_true_iff]

theorem nextGuard_ahead (running : s.timer.state = .running) {v : WindowIx} (guard : s.active.Guards p v)
    (ahead : s.timer.counter < s.active.windows[v].openOff)
    (nearest : ∀ u : WindowIx, s.active.Guards p u → s.timer.counter < s.active.windows[u].openOff →
      s.active.windows[v].openOff ≤ s.active.windows[u].openOff) :
    s.nextGuard p = some (s.active.windows[v].openOff - s.timer.counter) := by
  have least : leastOf (s.guardsAhead p) = some s.active.windows[v].openOff := by
    refine leastOf_eq (mem_guardsAhead.2 ⟨⟨v, guard, rfl⟩, ahead⟩) fun o mem => ?_
    obtain ⟨⟨u, other, rfl⟩, later⟩ := mem_guardsAhead.1 mem
    exact nearest u other later
  rw [State.guardsAhead] at least
  rw [State.nextGuard, if_pos (running_of_state running), least]

/-- With no guard ahead, the first one of the coming cycle is counted from the assumed end. -/
theorem nextGuard_coming (running : s.timer.state = .running)
    (passed : ∀ u : WindowIx, s.active.Guards p u → s.active.windows[u].openOff ≤ s.timer.counter) :
    s.nextGuard p = (leastOf ((guardWindows s.comingSet p).map (fun w => w.openOff))).map
      (s.assumedEnd - s.timer.counter + ·) := by
  have noneAhead : s.guardsAhead p = [] := by
    refine List.eq_nil_iff_forall_not_mem.2 fun o mem => ?_
    obtain ⟨⟨u, guard, rfl⟩, later⟩ := mem_guardsAhead.1 mem
    exact absurd later (Nat.not_lt.2 (passed u guard))
  rw [State.guardsAhead] at noneAhead
  rw [State.nextGuard, if_pos (running_of_state running), noneAhead, leastOf]
  cases leastOf ((guardWindows s.comingSet p).map (fun w => w.openOff)) with
  | none => rfl
  | some g =>
    dsimp only [Option.map_some]
    split
    · next ended => rw [Nat.sub_eq_zero_of_le ended, Nat.zero_add]
    · rfl

/-- The set that will govern the coming cycle, by the pending commit and its target (R61, R119). -/
theorem comingSet_eq (s : State) :
    s.comingSet =
      match s.staging.commit with
      | none => s.active
      | some c =>
        match c.target with
        | .nextStart => s.staged
        | .atCycle n => if s.timer.cycleCount + 1#32 = n then s.staged else s.active := by
  unfold State.comingSet State.targetMetNext
  cases s.staging.commit with
  | none => rfl
  | some c =>
    obtain ⟨target, _⟩ := c
    dsimp only
    cases target with
    | nextStart => rfl
    | atCycle n => simp only [beq_iff_eq]

theorem assumedEnd_eq {c : CycleParams} (current : s.timer.current = some c) :
    s.assumedEnd = match c.follow with | .follow => c.period - c.tolerance | .free => c.period := by
  cases mode : c.follow <;> simp [State.assumedEnd, current, mode]

/-! ### The fit rule -/

theorem fits_idle (idle : s.timer.state ≠ .running) (w : Nat) : s.fits p w = true := by
  rw [State.fits, running_false idle]
  rfl

theorem fits_open (running : s.timer.state = .running) (guard : (s.openGuard p).isSome = true) (w : Nat) :
    s.fits p w = false := by
  obtain ⟨g, guard⟩ := Option.isSome_iff_exists.1 guard
  rw [State.fits, if_pos (running_of_state running), guard]

/-- With no guard open the next one limits the frame. -/
theorem fits_closed (running : s.timer.state = .running) (closed : s.openGuard p = none) (w : Nat) :
    s.fits p w = match s.nextGuard p with
      | none => true
      | some g => decide (w + s.pendingAdvance ≤ g) := by
  cases next : s.nextGuard p <;> simp [State.fits, running_of_state running, closed, next]

/-! ### The pending advance (R76) -/

theorem pendingAdvance_none (none : s.candidate = none) : s.pendingAdvance = 0 := by
  rw [State.pendingAdvance, none]

theorem candidate_eq {r : Reception} (reception : (s.ports.get s.active.settings.markPort).reception = some r) :
    s.candidate =
      if s.running = true ∧ r.start.unbroken = true ∧ s.earlyStartOpen r.start = true ∧ r.received ≤ 128
      then some r else none := by
  have start : s.candidateStart =
      if s.running && r.start.unbroken && s.earlyStartOpen r.start then some r else none := by
    unfold State.candidateStart State.markPort
    rw [reception]
  rw [State.candidate, start]
  cases s.running <;> cases r.start.unbroken <;> cases s.earlyStartOpen r.start <;> simp

theorem pendingAdvance_quiet (quiet : (s.ports.get s.active.settings.markPort).reception = none) :
    s.pendingAdvance = 0 := by
  refine pendingAdvance_none ?_
  have start : s.candidateStart = none := by
    unfold State.candidateStart State.markPort
    rw [quiet]
  rw [State.candidate, start]

section
variable {r : Reception} (reception : (s.ports.get s.active.settings.markPort).reception = some r)
include reception

theorem pendingAdvance_long_or_broken (no : r.start.unbroken = false ∨ 128 < r.received) :
    s.pendingAdvance = 0 := by
  refine pendingAdvance_none ((candidate_eq reception).trans (if_neg ?_))
  rintro ⟨-, unbroken, -, short⟩
  rcases no with broken | long
  · exact Bool.false_ne_true (broken.symm.trans unbroken)
  · exact absurd short (Nat.not_le.2 long)

theorem pendingAdvance_shut (shut : ¬ s.earlyStartOpen r.start = true) : s.pendingAdvance = 0 :=
  pendingAdvance_none ((candidate_eq reception).trans (if_neg fun candidate => shut candidate.2.2.1))

end

/-- A start of the current cycle is open in FOLLOW mode from the tolerance before the period's end. -/
theorem earlyStartOpen_current {c : CycleParams} {r : StartRecord} (current : s.timer.current = some c)
    (now : r.cycle = s.timer.cycleCount) :
    s.earlyStartOpen r = true ↔ c.follow = .follow ∧ c.period - c.tolerance ≤ r.offset := by
  rw [State.earlyStartOpen, current]
  dsimp only
  rw [if_pos now, Bool.and_eq_true, decide_eq_true_iff, decide_eq_true_iff]

/-- So is one of the ended cycle, while no mark has taken it. -/
theorem earlyStartOpen_ended {e : EndedCycle} {r : StartRecord} (current : s.timer.current.isSome = true)
    (ended : s.timer.ended = some e) (before : r.cycle + 1#32 = s.timer.cycleCount) :
    s.earlyStartOpen r = true ↔ e.params.follow = .follow ∧ e.params.period - e.params.tolerance ≤ r.offset ∧
      ∀ a, s.timer.attribution = some a → a.onTime = false := by
  rw [earlyStartOpen_iff]
  constructor
  · rintro ⟨-, ⟨c, -, now, -⟩ | ⟨e', ended', -, early⟩⟩
    · exact absurd now (ne_of_succ_eq before)
    · obtain rfl := Option.some.inj (ended'.symm.trans ended)
      exact early
  · exact fun early => ⟨current, .inr ⟨e, ended, before, early⟩⟩

/-- A frame is a candidate, and its start lies in a cycle that may still take it. -/
structure State.Candidate (s : State) (r : Reception) : Prop where
  reception : (s.ports.get s.active.settings.markPort).reception = some r
  running : s.timer.state = .running
  unbroken : r.start.unbroken = true
  short : r.received ≤ 128

theorem State.Candidate.candidate_eq_some {r : Reception} (h : s.Candidate r)
    (early : s.earlyStartOpen r.start = true) : s.candidate = some r :=
  (candidate_eq h.reception).trans (if_pos ⟨running_of_state h.running, h.unbroken, early, h.short⟩)

theorem pendingAdvance_current {r : Reception} (h : s.Candidate r) (early : s.earlyStartOpen r.start = true)
    (now : r.start.cycle = s.timer.cycleCount) : s.pendingAdvance = s.timer.counter - r.start.offset := by
  rw [State.pendingAdvance, h.candidate_eq_some early]
  exact if_pos now

theorem pendingAdvance_ended {r : Reception} {e : EndedCycle} (h : s.Candidate r)
    (early : s.earlyStartOpen r.start = true) (before : r.start.cycle + 1#32 = s.timer.cycleCount)
    (ended : s.timer.ended = some e) : s.pendingAdvance = e.length - r.start.offset := by
  rw [State.pendingAdvance, h.candidate_eq_some early]
  dsimp only
  rw [if_neg (ne_of_succ_eq before), ended]

theorem earlyStartOpen_elsewhere {r : StartRecord} (now : r.cycle ≠ s.timer.cycleCount)
    (before : r.cycle + 1#32 ≠ s.timer.cycleCount) : ¬ s.earlyStartOpen r = true := by
  rw [earlyStartOpen_iff]
  rintro ⟨-, ⟨c, -, same, -⟩ | ⟨e, -, same, -⟩⟩
  · exact now same
  · exact before same

theorem free_not_follow {f : FollowMode} (free : f = .free) : ¬ f = .follow := by
  rw [free]
  nofun

end

end Sys2Proof.Machine
end

section
/-! PROOF. O26. -/

namespace Sys2Proof.Machine

/-- The first part of O26: the fit rule by timer state, open guard and next guard. -/
theorem fits_cases (s : State) (p : Port) (w : Nat) :
    (s.timer.state ≠ .running → s.fits p w = true) ∧
    (s.timer.state = .running → (s.openGuard p).isSome = true → s.fits p w = false) ∧
    (∀ g, s.timer.state = .running → s.openGuard p = none → s.nextGuard p = some g →
      (s.fits p w = true ↔ w + s.pendingAdvance ≤ g)) ∧
    (s.timer.state = .running → s.openGuard p = none → s.nextGuard p = none → s.fits p w = true) := by
  refine ⟨fun idle => fits_idle idle w, fun running guard => fits_open running guard w,
    fun g running closed next => ?_, fun running closed next => ?_⟩
  · rw [fits_closed running closed, next]
    exact decide_eq_true_iff
  · rw [fits_closed running closed, next]

/-- The guards of the coming cycle, where none lies ahead in this one. -/
theorem nextGuard_coming_cases {s : State} {p : Port} (running : s.timer.state = .running)
    (passed : ∀ u : WindowIx, s.active.Guards p u → s.active.windows[u].openOff ≤ s.timer.counter) :
    ((∀ u : WindowIx, ¬ s.comingSet.Guards p u) → s.nextGuard p = none) ∧
    (∀ v : WindowIx, s.comingSet.Guards p v →
      (∀ u : WindowIx, s.comingSet.Guards p u →
        s.comingSet.windows[v].openOff ≤ s.comingSet.windows[u].openOff) →
      s.nextGuard p = some (s.assumedEnd - s.timer.counter + s.comingSet.windows[v].openOff)) := by
  rw [nextGuard_coming running passed]
  refine ⟨fun unguarded => ?_, fun v guard first => ?_⟩
  · have empty : (guardWindows s.comingSet p).map (fun w => w.openOff) = [] := by
      refine List.eq_nil_iff_forall_not_mem.2 fun o mem => ?_
      obtain ⟨u, guard, -⟩ := mem_guardOffsets_iff.1 mem
      exact unguarded u guard
    rw [empty]
    rfl
  · have least : leastOf ((guardWindows s.comingSet p).map (fun w => w.openOff)) =
        some s.comingSet.windows[v].openOff := by
      refine leastOf_eq (mem_guardOffsets_iff.2 ⟨v, guard, rfl⟩) fun o mem => ?_
      obtain ⟨u, other, rfl⟩ := mem_guardOffsets_iff.1 mem
      exact first u other
    rw [least]
    rfl

/-- Settles O26: the fit rule, the guards of this cycle and the coming one, and the pending advance of a candidate
of this cycle and of the one before. -/
theorem fitRuleKeepsGuardsFree : Obligations.FitRuleKeepsGuardsFree := by
  refine ⟨fits_cases, fun s p running => ?_, fun s => ⟨fun no => ?_, fun r reception =>
    ⟨rfl, fun no => ?_, fun running unbroken short => ?_⟩⟩⟩
  · intro guards coming
    have same : coming = s.comingSet := (comingSet_eq s).symm
    clear_value coming
    subst same
    refine ⟨openGuard_isSome_iff running, fun v guard ahead nearest => nextGuard_ahead running guard ahead nearest,
      fun passed => ?_⟩
    obtain ⟨unguarded, first⟩ := nextGuard_coming_cases running passed
    refine ⟨unguarded, fun v c guard least current => ?_⟩
    have counted := first v guard least
    rw [assumedEnd_eq current] at counted
    exact counted
  · rcases no with idle | quiet
    · exact pendingAdvance_idle idle
    · exact pendingAdvance_quiet quiet
  · rcases no with broken | long | ⟨now, before⟩
    · exact pendingAdvance_long_or_broken reception (.inl broken)
    · exact pendingAdvance_long_or_broken reception (.inr long)
    · exact pendingAdvance_shut reception (earlyStartOpen_elsewhere now before)
  · have candidate : s.Candidate r := ⟨reception, running, unbroken, short⟩
    refine ⟨fun c current now => ?_, fun e present ended before => ?_⟩
    · have early := earlyStartOpen_current current now
      refine ⟨fun no => pendingAdvance_shut reception fun isOpen => ?_,
        fun follow late => pendingAdvance_current candidate (early.2 ⟨follow, late⟩) now⟩
      obtain ⟨follow, late⟩ := early.1 isOpen
      rcases no with free | soon
      · exact free_not_follow free follow
      · exact absurd late (Nat.not_le.2 soon)
    · have early := earlyStartOpen_ended present ended before
      refine ⟨fun no => pendingAdvance_shut reception fun isOpen => ?_,
        fun follow late untaken =>
          pendingAdvance_ended candidate (early.2 ⟨follow, late, untaken⟩) before ended⟩
      obtain ⟨follow, late, untaken⟩ := early.1 isOpen
      rcases no with free | soon | ⟨a, record, onTime⟩
      · exact free_not_follow free follow
      · exact absurd late (Nat.not_le.2 soon)
      · exact Bool.false_ne_true ((untaken a record).symm.trans onTime)

end Sys2Proof.Machine
end

section
/-! SUPPORT. Guards that open and close (R60, R73, R149): the cut-off as one equation, and an advance of the
counter in its parts. -/

namespace Sys2Proof.Machine

section
variable {s : State} {p : Port} {x : Transmission}

/-- A cut-off frees the transmitter, calls the arbiter, raises GUARD-CUT and tells a restart wait how its response
ended (R149, R177). -/
theorem cutOff_eq (sending : (s.egress.get p).transmitter = .sending x) :
    s.cutOff p =
      (((s.setAgent { s.agent with
          restartWait := s.agent.restartWait.map fun w => w.met (decide (x.sent = .response true)) }).updateEgress p
        (fun e => { e with transmitter := .idle, selectDue := true })).raise
          (occEgressDrop p none 5#16)).releaseFrames := by
  have sends : (s.egress.get p).sendsRestart = decide (x.sent = .response true) := by
    rw [Egress.sendsRestart, sending]
  rw [State.cutOff, sends, restartFailed_if]

theorem cutOff_restartWait (sending : (s.egress.get p).transmitter = .sending x) :
    (s.cutOff p).agent.restartWait =
      s.agent.restartWait.map fun w => w.met (decide (x.sent = .response true)) := by
  rw [cutOff_eq sending, releaseFrames_agent, raise_agent]
  rfl

theorem cutOff_base (s : State) (p : Port) : (s.cutOff p).base = s.base := (cutOff_within s p).base

theorem cutDue_of (guard : (s.openGuard p).isSome = true) (sending : (s.egress.get p).transmitter = .sending x)
    (started : x.startedRunning = some true) : s.cutDue p = true :=
  (cutDue_iff s p).2 ⟨guard, x, sending, started⟩

theorem exec_guardOpen (due : s.cutDue p = true) :
    exec (.guardOpen p) s = .next (s.cutOff p).settleRestart := congrArg Host.Outcome.next (if_pos due)

theorem exec_guardOpen_not_due (quiet : ¬ s.cutDue p = true) : exec (.guardOpen p) s = .next s :=
  congrArg Host.Outcome.next (if_neg quiet)

theorem takeClose_admitting {w : WindowIx} (kind : s.active.windows[w].kind = .admitting) :
    s.takeClose w = (s.noteClose w).examineWindow w := by
  rw [State.takeClose, kind]

/-- The close of a GUARD window calls the port's arbiter (R60). -/
theorem takeClose_guard {w : WindowIx} (kind : s.active.windows[w].kind = .guard) :
    s.takeClose w = (s.noteClose w).updateEgress s.active.windows[w].port (fun e => { e with selectDue := true }) := by
  rw [State.takeClose, kind]
  rfl

/-- The windows whose close an advance of the counter to x passes, in the order in which it takes them. -/
def State.passedCloses (s : State) (x : Nat) : List WindowIx :=
  sortByClose s.active (allWindows.filter (fun w =>
    s.active.windows[w].valid && decide (s.timer.counter < s.active.windows[w].closeOff) &&
      decide (s.active.windows[w].closeOff ≤ x) && !s.timer.closesTaken.contains w.val))

theorem mem_passedCloses {y : Nat} {w : WindowIx} :
    w ∈ s.passedCloses y ↔ s.active.windows[w].valid = true ∧ s.timer.counter < s.active.windows[w].closeOff ∧
      s.active.windows[w].closeOff ≤ y ∧ s.timer.closesTaken.contains w.val = false := by
  have every : w ∈ allWindows := List.mem_finRange w
  simp only [State.passedCloses, (sortByClose_perm _ _).mem_iff, List.mem_filter, every, true_and, Bool.and_eq_true,
    decide_eq_true_iff, Bool.not_eq_true', and_assoc]

theorem passedCloses_nodup (s : State) (x : Nat) : (s.passedCloses x).Nodup :=
  (sortByClose_perm _ _).nodup_iff.2 ((List.nodup_finRange 64).filter _)

theorem passedCloses_sorted (s : State) (x : Nat) :
    (s.passedCloses x).Pairwise fun v w => s.active.windows[v].closeOff ≤ s.active.windows[w].closeOff :=
  sortByClose_sorted s.active _

/-- An advance takes the closes it passes, then cuts off, then calls the arbiters (R73). -/
theorem advanceCounter_eq (s : State) (x : Nat) :
    s.advanceCounter x = ((s.passedCloses x).foldl State.takeClose
      (s.setTimer { s.timer with counter := x })).cutOffs.callSelections := rfl

end

end Sys2Proof.Machine
end

section
/-! PROOF. O27. -/

namespace Sys2Proof.Machine

/-- Settles O27: the cut-off and what it leaves of a restart wait, the close of a window by its kind, and the
advance of the counter. -/
theorem guardsOpenAndClose : Obligations.GuardsOpenAndClose := by
  refine ⟨fun s p x absent guard sending started => ?_, fun s p x guard sending started => ?_,
    fun s w running valid kind reached untaken => ?_,
    fun s w => ⟨fun kind => takeClose_admitting kind, fun kind => takeClose_guard kind⟩, fun s x => ?_⟩
  · have wait : (s.cutOff p).agent.restartWait = none := by rw [cutOff_restartWait sending, absent]; rfl
    have same : s.setAgent { s.agent with restartWait := none } = s := by
      rw [← absent]
      rfl
    rw [exec_guardOpen (cutDue_of guard sending started), settleRestart_absent wait, cutOff_eq sending, absent,
      Option.map_none, same]
    rfl
  · refine ⟨cutOff_eq sending, fun waits => ?_, fun w wait failed past => ?_⟩ <;>
      rw [exec_guardOpen (cutDue_of guard sending started)] <;> refine congrArg Host.Outcome.next ?_
    · refine (settleRestart_waits _ fun w wait => ?_).trans (cutOff_eq sending)
      rw [cutOff_base]
      exact waits w ((cutOff_restartWait sending).symm.trans wait)
    · have ended : (s.cutOff p).settleRestart = (s.cutOff p).warmRestart :=
        settleRestart_over ((cutOff_restartWait sending).trans wait) failed (by rw [cutOff_base]; exact past)
      exact ended.trans (congrArg State.warmRestart (cutOff_eq sending))
  · have due : s.closeDue .guard w = true := (closeDue_iff s .guard w).2 ⟨running, valid, kind, reached, untaken⟩
    rw [exec_guardClose, if_pos due, takeClose_guard kind]
    rfl
  · obtain ⟨ports, n, nodup, due, -, cut⟩ :=
      cutOffs_in_order ((s.passedCloses x).foldl State.takeClose (s.setTimer { s.timer with counter := x }))
    refine ⟨s.passedCloses x, ports, n, _, _, passedCloses_nodup s x, fun w => mem_passedCloses,
      passedCloses_sorted s x, rfl, nodup, due, rfl, ?_⟩
    rw [advanceCounter_eq, cut]
    rfl

end Sys2Proof.Machine
end

section
/-! SUPPORT. The law of guards: what it reads of a state, and the three ways in which an operation keeps it. -/

namespace Sys2Proof.Machine

/-! ### What the law reads (R149) -/

/-- Timer state, counter and active set: beside what is on the wires, all that the law of guards reads. -/
structure SameMoment (s t : State) : Prop where
  state : t.timer.state = s.timer.state
  counter : t.timer.counter = s.timer.counter
  active : t.active = s.active

/-- No cut-off is due on any port. -/
def State.NoCutDue (s : State) : Prop := ∀ p : Port, s.cutDue p = false

/-- Nothing begins on a wire, and the moment stays, or the timer is not RUNNING after it, or no cut-off is due. -/
structure KeepsGuards (s t : State) : Prop where
  wire : ∀ p x, (t.egress.get p).transmitter = .sending x → (s.egress.get p).transmitter = .sending x
  ends : SameMoment s t ∨ t.timer.state ≠ .running ∨ t.NoCutDue

/-- The blocks of which the moment reads nothing. -/
def Footprint.besideMoment : Footprint :=
  { Footprint.wide with strap := true, timer := false, staging := false, banks := false }

section
variable {s t u : State}

theorem SameMoment.refl (s : State) : SameMoment s s := ⟨rfl, rfl, rfl⟩

theorem SameMoment.trans (h : SameMoment s t) (k : SameMoment t u) : SameMoment s u :=
  ⟨k.state.trans h.state, k.counter.trans h.counter, k.active.trans h.active⟩

theorem sameMoment_of_timer (timer : t.timer = s.timer) (active : t.active = s.active) : SameMoment s t :=
  ⟨congrArg Timer.state timer, congrArg Timer.counter timer, active⟩

theorem sameMoment_of_within {f : Footprint} (w : Within f s t) (le : f.le .besideMoment = true) : SameMoment s t :=
  sameMoment_of_timer ((w.mono le).timer rfl) ((w.mono le).active rfl rfl)

theorem SameMoment.openGuard (h : SameMoment s t) (p : Port) : t.openGuard p = s.openGuard p := by
  unfold State.openGuard State.running
  rw [h.state, h.counter, h.active]

/-- At one moment a cut-off becomes due only by what begins on a wire. -/
theorem SameMoment.cutDue (h : SameMoment s t) {p : Port}
    (wire : ∀ x, (t.egress.get p).transmitter = .sending x → (s.egress.get p).transmitter = .sending x)
    (due : t.cutDue p = true) : s.cutDue p = true := by
  obtain ⟨guard, x, sending, started⟩ := (cutDue_iff t p).1 due
  exact (cutDue_iff s p).2 ⟨h.openGuard p ▸ guard, x, wire x sending, started⟩

theorem SameMoment.guardLaw (h : SameMoment s t) (fewer : ∀ p, t.cutDue p = true → s.cutDue p = true)
    (law : GuardLaw s) : GuardLaw t := by
  intro p due
  rw [h.active, h.counter]
  exact law p (fewer p due)

theorem noCutDue_of_idle (idle : s.timer.state ≠ .running) : s.NoCutDue := by
  intro p
  rw [State.cutDue, State.openGuard, running_false idle]
  rfl

theorem SameMoment.noCutDue (h : SameMoment s t)
    (wire : ∀ p x, (t.egress.get p).transmitter = .sending x → (s.egress.get p).transmitter = .sending x)
    (none : s.NoCutDue) : t.NoCutDue := fun p =>
  Bool.eq_false_iff.2 fun due => Bool.false_ne_true ((none p).symm.trans (h.cutDue (wire p) due))

/-! ### Operations that keep it -/

theorem KeepsGuards.guardLaw (h : KeepsGuards s t) (law : GuardLaw s) : GuardLaw t := by
  have of_none (none : t.NoCutDue) : GuardLaw t := fun p due => absurd ((none p).symm.trans due) Bool.false_ne_true
  rcases h.ends with moment | idle | none
  · exact moment.guardLaw (fun p => moment.cutDue (h.wire p)) law
  · exact of_none (noCutDue_of_idle idle)
  · exact of_none none

theorem KeepsGuards.refl (s : State) : KeepsGuards s s := ⟨fun _ _ => id, .inl (.refl s)⟩

theorem KeepsGuards.trans (h : KeepsGuards s t) (k : KeepsGuards t u) : KeepsGuards s u where
  wire p x sending := h.wire p x (k.wire p x sending)
  ends := by
    rcases k.ends with moment | idle | none
    · rcases h.ends with before | idle | none
      · exact .inl (before.trans moment)
      · exact .inr (.inl (moment.state ▸ idle))
      · exact .inr (.inr (moment.noCutDue k.wire none))
    · exact .inr (.inl idle)
    · exact .inr (.inr none)

theorem StartsNothing.sameMoment (h : StartsNothing s t) (moment : SameMoment s t) : KeepsGuards s t :=
  ⟨h.wire, .inl moment⟩

theorem StartsNothing.beside_moment {f : Footprint} (h : StartsNothing s t) (w : Within f s t)
    (le : f.le .besideMoment = true) : KeepsGuards s t := h.sameMoment (sameMoment_of_within w le)

theorem StartsNothing.idle (h : StartsNothing s t) (idle : t.timer.state ≠ .running) : KeepsGuards s t :=
  ⟨h.wire, .inr (.inl idle)⟩

theorem StartsNothing.noCutDue (h : StartsNothing s t) (none : t.NoCutDue) : KeepsGuards s t :=
  ⟨h.wire, .inr (.inr none)⟩

/-- A command whose occasion may not hold (log 2). -/
theorem KeepsGuards.ite {c : Prop} [Decidable c] (taken : c → KeepsGuards s t) :
    KeepsGuards s (if c then t else s) := by
  split
  · next holds => exact taken holds
  · exact .refl s

theorem keepsGuards_callSelections (s : State) : KeepsGuards s s.callSelections :=
  (startsNothing_callSelections s).beside_moment (callSelections_within s) rfl

theorem keepsGuards_releaseFrames (s : State) : KeepsGuards s s.releaseFrames :=
  (startsNothing_releaseFrames s).beside_moment (releaseFrames_within s) rfl

theorem keepsGuards_countPort (s : State) (p : Port) (f : PortCounters → PortCounters) :
    KeepsGuards s (s.countPort p f) :=
  (startsNothing_countPort s p f).beside_moment (countPort_within s p f) rfl

/-- A change of the timer's record that leaves state and counter. -/
theorem keepsGuards_setTimer (s : State) {v : Timer} (state : v.state = s.timer.state)
    (counter : v.counter = s.timer.counter) : KeepsGuards s (s.setTimer v) :=
  (startsNothing_setTimer s v).sameMoment ⟨state, counter, rfl⟩

/-! ### Cut-offs (R149) -/

theorem keepsGuards_cutOff {p : Port} (due : s.cutDue p = true) : KeepsGuards s (s.cutOff p) :=
  (startsNothing_cutOff due).beside_moment (cutOff_within s p) rfl

theorem cutOff_transmitter (s : State) (p : Port) : ((s.cutOff p).egress.get p).transmitter = .idle := by
  rw [State.cutOff, releaseFrames_egress, raise_transmitter, updateEgress_egress, perPort_get_set_same]

/-- After its cut-off nothing is on a port's wire, so that none is due there. -/
theorem cutDue_of_transmitter_idle {p : Port} (idle : (s.egress.get p).transmitter = .idle) :
    s.cutDue p = false := by
  refine Bool.eq_false_iff.2 fun due => ?_
  obtain ⟨-, x, sending, -⟩ := (cutDue_iff s p).1 due
  exact nomatch idle.symm.trans sending

/-- One port after the other is cut off where it is due: none is due at the end. -/
theorem cutOffs_fold_noCutDue (ports : List Port) (s : State) (all : ∀ q, s.cutDue q = true → q ∈ ports) :
    (ports.foldl (fun t p => if t.cutDue p then t.cutOff p else t) s).NoCutDue := by
  induction ports generalizing s with
  | nil => exact fun q => Bool.eq_false_iff.2 fun due => List.not_mem_nil (all q due)
  | cons p ports ih =>
    refine ih _ fun q due => ?_
    dsimp only at due
    by_cases here : s.cutDue p = true
    · rw [if_pos here] at due
      have before : s.cutDue q = true :=
        (sameMoment_of_within (cutOff_within s p) rfl).cutDue ((keepsGuards_cutOff here).wire q) due
      rcases List.mem_cons.1 (all q before) with rfl | later
      · exact absurd ((cutDue_of_transmitter_idle (cutOff_transmitter s q)).symm.trans due) Bool.false_ne_true
      · exact later
    · rw [if_neg here] at due
      rcases List.mem_cons.1 (all q due) with rfl | later
      · exact absurd due here
      · exact later

theorem cutOffs_noCutDue (s : State) : s.cutOffs.NoCutDue := by
  obtain ⟨ports, n, -, due, -, form⟩ := cutOffs_in_order s
  rw [form]
  exact cutOffs_fold_noCutDue ports (s.draw n) fun q here => (due q).2 here

/-! ### The warm restart stops the timer (R69) -/

theorem warmRestart_idle (s : State) : s.warmRestart.timer.state ≠ .running := by
  have timer := warmRestart_keeps State.timer (fun _ _ => raise_timer _ _) (fun _ _ => rfl) s
  rw [timer, restartBase_timer]
  nofun

theorem keepsGuards_warmRestart (s : State) : KeepsGuards s s.warmRestart :=
  (startsNothing_warmRestart s).idle (warmRestart_idle s)

theorem keepsGuards_settleRestart (s : State) : KeepsGuards s s.settleRestart := by
  unfold State.settleRestart
  split
  · exact .ite fun _ => keepsGuards_warmRestart s
  · exact .refl s

/-! ### The timer (R64 to R75) -/

theorem keepsGuards_markFault (s : State) (code : Half) : KeepsGuards s (s.markFault code) :=
  (startsNothing_markFault s code).sameMoment
    ⟨by rw [markFault_timer], by rw [markFault_timer], (markFault_within s code).active rfl rfl⟩

theorem keepsGuards_closeInterval (s : State) : KeepsGuards s s.closeInterval := by
  obtain ⟨a, n, timer⟩ := closeInterval_timer s
  exact (startsNothing_closeInterval s).sameMoment
    ⟨by rw [timer], by rw [timer], (closeInterval_within s).active rfl rfl⟩

theorem keepsGuards_closeIntervalIfOver (s : State) : KeepsGuards s s.closeIntervalIfOver :=
  .ite fun _ => keepsGuards_closeInterval s

/-- What follows a frame that has left reception (R75, R76). -/
theorem keepsGuards_afterReception (before after : State) (p : Port) (r : Option Reception) :
    KeepsGuards after (before.noteAdvanceEnd (before.endHolds after p r)) := by
  have held : KeepsGuards after (after.closeHeldInterval r) := by
    unfold State.closeHeldInterval
    split
    · exact .ite fun _ => keepsGuards_markFault after _
    · exact .refl after
  have ended : KeepsGuards after (before.endHolds after p r) := by
    unfold State.endHolds
    dsimp only
    split
    · exact held.trans (keepsGuards_closeIntervalIfOver _)
    · exact held
  unfold State.noteAdvanceEnd
  split
  · exact ended
  · exact ended.trans (keepsGuards_callSelections _)

theorem keepsGuards_takeClose (s : State) (w : WindowIx) : KeepsGuards s (s.takeClose w) := by
  obtain ⟨taken, -, timer⟩ := takeCloses_timer [w] s
  have timer : (s.takeClose w).timer = { s.timer with closesTaken := taken } := timer
  exact (startsNothing_takeClose s w).sameMoment
    ⟨by rw [timer], by rw [timer], (takeClose_within s w).active rfl rfl⟩

theorem keepsGuards_onTimeMark (s : State) : KeepsGuards s s.onTimeMark :=
  (startsNothing_onTimeMark s).sameMoment
    ⟨by rw [onTimeMark_timer], by rw [onTimeMark_timer], (onTimeMark_within s).active rfl rfl⟩

theorem keepsGuards_lateMark (s : State) (c : CycleParams) (o : Nat) : KeepsGuards s (s.lateMark c o) :=
  (keepsGuards_setTimer s (v := { s.timer with cycleLength := c.period + o }) rfl rfl).trans
    (keepsGuards_onTimeMark _)

/-- A cut-off comes with every advance of the counter (R73). -/
theorem keepsGuards_advanceCounter (s : State) (x : Nat) : KeepsGuards s (s.advanceCounter x) := by
  refine (startsNothing_advanceCounter s x).noCutDue ?_
  rw [advanceCounter_eq]
  exact (sameMoment_of_within (callSelections_within _) rfl).noCutDue (startsNothing_callSelections _).wire
    (cutOffs_noCutDue _)

theorem keepsGuards_correctEnded (s : State) (o : Nat) : KeepsGuards s (s.correctEnded o) := by
  unfold State.correctEnded
  exact keepsGuards_setTimer s rfl rfl

theorem keepsGuards_earlyMark (s : State) (o w : Nat) : KeepsGuards s (s.earlyMark o w) := by
  rw [earlyMark_steps]
  exact ((keepsGuards_advanceCounter s w).trans (keepsGuards_correctEnded _ o)).trans (keepsGuards_onTimeMark _)

theorem keepsGuards_judgeMark (s : State) (r : StartRecord) (len : Nat) : KeepsGuards s (s.judgeMark r len) := by
  obtain e | e | ⟨c, o, e⟩ | ⟨o, w, e⟩ := judgeMark_cases s r len <;> rw [e]
  · exact .refl s
  · exact keepsGuards_markFault s _
  · exact keepsGuards_lateMark s c o
  · exact keepsGuards_earlyMark s o w

theorem quenchCycleStart_noCutDue (none : s.NoCutDue) : s.quenchCycleStart.NoCutDue :=
  (sameMoment_of_within (quenchCycleStart_within s) rfl).noCutDue (startsNothing_quenchCycleStart s).wire none

/-- Whatever the order of its neighbours, a cycle start cuts off where a guard is open (R64, R149). -/
theorem neighbours_noCutDue (s : State) : s.neighbours.NoCutDue := by
  obtain ⟨quiet, whole, both⟩ := neighbours_cases s
  by_cases cut : ∃ p : Port, s.cutDue p = true
  · by_cases wait : s.quench.wait = none
    · rw [State.neighbours, quiet wait]
      exact cutOffs_noCutDue s
    · rcases both wait cut with form | form <;> rw [State.neighbours, form]
      · exact cutOffs_noCutDue _
      · exact quenchCycleStart_noCutDue (cutOffs_noCutDue _)
  · have none : s.NoCutDue := fun p => Bool.eq_false_iff.2 fun due => cut ⟨p, due⟩
    rw [State.neighbours, whole none]
    exact quenchCycleStart_noCutDue none

theorem handCycleStart_noCutDue (s : State) (first : Bool) : (s.handCycleStart first).NoCutDue := by
  rw [handCycleStart_eq]
  exact (sameMoment_of_within (callSelections_within _) rfl).noCutDue (startsNothing_callSelections _).wire
    (neighbours_noCutDue _)

theorem keepsGuards_periodMatch (s : State) : KeepsGuards s s.periodMatch :=
  (startsNothing_periodMatch s).noCutDue (handCycleStart_noCutDue _ false)

/-- A start of the timer is a cycle start (R66, R67). -/
theorem keepsGuards_setTimer_handCycleStart (s : State) (v : Timer) :
    KeepsGuards s ((s.setTimer v).handCycleStart true) :=
  ((startsNothing_setTimer s v).trans (startsNothing_handCycleStart _ true)).noCutDue (handCycleStart_noCutDue _ true)

theorem keepsGuards_startOnMark (s : State) (len : Nat) : KeepsGuards s (s.startOnMark len) := by
  have started : KeepsGuards s (s.markStarted (wireTime len)) :=
    (keepsGuards_setTimer_handCycleStart s _).trans (keepsGuards_setTimer _ rfl rfl)
  rw [startOnMark_eq]
  split
  · exact started.trans (keepsGuards_onTimeMark _)
  · exact started

theorem keepsGuards_timerTakesMark (s : State) (r : StartRecord) (len : Nat) :
    KeepsGuards s (s.timerTakesMark r len) := by
  unfold State.timerTakesMark
  split
  · exact .refl s
  · exact .ite fun _ => keepsGuards_startOnMark s len
  · exact keepsGuards_judgeMark s r len

theorem keepsGuards_stopTimer (s : State) : KeepsGuards s s.stopTimer := by
  refine (startsNothing_stopTimer s).idle ?_
  rw [stopTimer_timer]
  nofun

/-! ### The arrival of a frame (R131 to R138) -/

theorem streamData_beside_moment (s : State) (p : Port) (r : StartRecord) (f : List Byte) :
    Within .besideMoment s (s.streamData p r f) := by
  unfold State.streamData
  split
  · next i _ =>
    unfold State.streamFrame
    split
    · exact (countStream_within s i _).comp (raise_within _ _) rfl rfl
    · exact (countStream_within s i _).comp (raise_within _ _) rfl rfl
    · exact ((updateStream_within s i _).comp (holdFrame_within _ p f) rfl rfl).trans
        ((admittedFrame_within _ i p _ _).mono rfl)
  · exact (countPort_within s p _).comp (raise_within _ _) rfl rfl

theorem managementRequest_beside_moment (s : State) (p : Port) (f : List Byte) :
    Within .besideMoment s (s.managementRequest p f) := by
  unfold State.managementRequest
  split
  · exact (countPort_within s p _).comp (intakeRequest_within _ _) rfl rfl
  · exact (countPort_within s p _).comp (raise_within _ _) rfl rfl

theorem backgroundFrame_beside_moment (s : State) (p : Port) (f : List Byte) :
    Within .besideMoment s (s.backgroundFrame p f) := by
  unfold State.backgroundFrame
  dsimp only
  split
  · exact (countPort_within s p _).comp (countPort_within _ p _) rfl rfl
  · exact ((countPort_within s p _).comp (holdFrame_within _ p f) rfl rfl).trans
      ((Within.foldl _ (fun t q => offerBackground_within t _ q) _ _).mono rfl)

/-- Of the classes of a good frame only a cycle mark reaches the timer (R136). -/
theorem keepsGuards_cycleMark (s : State) (p : Port) (r : StartRecord) (f : List Byte) :
    KeepsGuards s (s.cycleMark p r f) := by
  have forwarded (u : State) : KeepsGuards u ((u.holdFrame p f).offerCyclicTo (.mark u.nextFrame)
      (u.active.settings.markForward.portsWithout p)) := by
    refine ((startsNothing_holdFrame u p f).trans (startsNothing_offerCyclicTo fun q mem ref named => ?_)).beside_moment
      (f := .besideMoment) ((holdFrame_within u p f).comp (offerCyclicTo_within _ _ _) rfl rfl) rfl
    obtain rfl : u.nextFrame = ref := by simpa [CyclicEntry.refersTo] using named
    exact (holds_holdFrame u p f).heldFor (ne_of_mem_portsWithout mem)
  exact ((keepsGuards_countPort s p _).trans (forwarded _)).trans (keepsGuards_timerTakesMark _ r _)

theorem keepsGuards_goodFrame (s : State) (p : Port) (r : StartRecord) (f : List Byte) :
    KeepsGuards s (s.goodFrame p r f) := by
  unfold State.goodFrame
  split
  · exact keepsGuards_countPort s p _
  · exact (startsNothing_managementRequest s p f).beside_moment (managementRequest_beside_moment s p f) rfl
  · exact keepsGuards_cycleMark s p r f
  · exact (startsNothing_streamData s p r f).beside_moment (streamData_beside_moment s p r f) rfl
  · exact (startsNothing_backgroundFrame s p f).beside_moment (backgroundFrame_beside_moment s p f) rfl

theorem keepsGuards_receiveFrame (s : State) (p : Port) (r : StartRecord) (f : List Byte) :
    KeepsGuards s (s.receiveFrame p r f) := by
  unfold State.receiveFrame
  split
  · exact keepsGuards_countPort s p _
  · split
    · exact keepsGuards_countPort s p _
    · split
      · exact keepsGuards_countPort s p _
      · exact (keepsGuards_countPort s p _).trans (keepsGuards_goodFrame _ p r f)

theorem keepsGuards_frameArrives (s : State) (p : Port) (r : Reception) : KeepsGuards s (s.frameArrives p r) := by
  have cleared : KeepsGuards s (s.clearReception p) :=
    (startsNothing_updatePort rfl fun _ _ => rfl : StartsNothing s (s.clearReception p)).beside_moment
      (updatePort_within s p _) rfl
  exact (((cleared.trans (keepsGuards_receiveFrame _ p r.start r.frame)).trans
    (keepsGuards_afterReception s _ p (some r))).trans (keepsGuards_settleRestart _)).trans
      (keepsGuards_releaseFrames _)

theorem keepsGuards_beginReception {p : Port} (up : s.link p = .up) (f : List Byte) :
    KeepsGuards s (s.beginReception p f) :=
  (startsNothing_beginReception up f).beside_moment (updatePort_within s p _) rfl

theorem keepsGuards_linkDown (s : State) (p : Port) : KeepsGuards s (s.linkDown p) := by
  have lowered : KeepsGuards s (s.lowered p) :=
    (startsNothing_lowered s p).sameMoment (sameMoment_of_timer (lowered_timer s p) (by rw [lowered_eq]; rfl))
  have raised : KeepsGuards (s.lowered p) ((s.lowered p).raise (occLink p .down)) :=
    (startsNothing_raise _ _).beside_moment (raise_within _ _) rfl
  exact (((lowered.trans raised).trans (keepsGuards_afterReception s _ p _)).trans
    (keepsGuards_settleRestart _)).trans (keepsGuards_releaseFrames _)

end

end Sys2Proof.Machine
end

section
/-! SUPPORT. The law of guards through the requests: every command and every step keeps it. -/

namespace Sys2Proof.Machine

section
variable {s t : State}

/-! ### The effects of the requests -/

theorem execute_beside_moment {f : Footprint} (row : RequestRow) (s : State)
    (effect : ∀ r u, Within f u (row.effect r u).after) (le : f.le .besideMoment = true) :
    Within .besideMoment s (row.execute s) :=
  execute_within row s rfl fun r u => (effect r u).mono le

/-- A request that leaves the intake is answered at once, or goes to its row (R167). -/
theorem keepsGuards_agentExecutes (s : State) (c : Instr) {row : Request → State → State}
    (effect : ∀ r u, KeepsGuards u (row r u)) : KeepsGuards s (s.agentExecutes c row) := by
  unfold State.agentExecutes
  split
  · next r rest _ head =>
    have taken : KeepsGuards s (s.tookRequest rest) :=
      (startsNothing_tookRequest head).beside_moment (tookRequest_within s rest) rfl
    split
    · split
      · exact taken.trans ((startsNothing_offerResponse _ _ _ _).beside_moment (answerUnreadable_within _ r) rfl)
      · split
        · next e hit =>
          exact taken.trans ((startsNothing_answerFromCache r (List.mem_of_find?_eq_some hit)).beside_moment
            (answerFromCache_within _ r e) rfl)
        · exact (taken.trans ((startsNothing_countExecuted _).beside_moment (countExecuted_within _) rfl)).trans
            (effect r _)
    · exact .refl s
  · exact .refl s
  · exact .refl s

/-- A request of a row keeps the law where the row's effect does. -/
theorem keepsGuards_execute (row : RequestRow) (s : State)
    (effect : ∀ r u, KeepsGuards u (row.effect r u).after) : KeepsGuards s (row.execute s) := by
  have answered (r : Request) (u : State) (st : Status) (res : List Byte) (b : Bool) :
      KeepsGuards u (u.conclude r st res b) :=
    (startsNothing_conclude u r st res b).beside_moment (conclude_within u r st res b) rfl
  refine keepsGuards_agentExecutes s _ fun r u => ?_
  unfold RequestRow.judge
  split
  · exact answered r u _ _ _
  · split
    · exact answered r u _ _ _
    · split
      · exact answered r u _ _ _
      · exact (effect r u).trans (answered r _ _ _ _)

/-! ### The staging controller: what leaves the roles of the banks leaves the moment -/

theorem setStaging_active {g : Staging} (roles : g.active = s.staging.active) :
    (s.setStaging g).active = s.active := by
  rw [State.active, setStaging_staging, roles]
  rfl

theorem beginRestage_active (s : State) (why : RestageReason) : (s.beginRestage why).active = s.active := by
  by_cases restaging : s.staging.state = .restaging
  · rw [beginRestage_restaging restaging]
  · rw [beginRestage_starts restaging]
    exact setStaging_active rfl

theorem withdrawCommit_active (s : State) (code : Half) : (s.withdrawCommit code).active = s.active := by
  rw [State.withdrawCommit, callSelections_active, raise_active]
  exact setStaging_active rfl

theorem makePending_active (s : State) (target : CommitTarget) : (s.makePending target).active = s.active := by
  rw [State.makePending, callSelections_active]
  exact setStaging_active rfl

theorem stagingYield_active (s : State) : s.stagingYield.active = s.active := by
  unfold State.stagingYield
  split
  · exact setStaging_active rfl
  · rfl

theorem stagingLeaseExpiry_active (s : State) (a : StationAddr) : (s.stagingLeaseExpiry a).active = s.active := by
  unfold State.stagingLeaseExpiry
  split
  · exact beginRestage_active s .lease
  · split
    · split
      · exact (beginRestage_active _ .lease).trans (withdrawCommit_active s _)
      · rfl
    · rfl
  · rfl

theorem completeRestage_active (s : State) : s.completeRestage.active = s.active := by
  obtain ⟨staging, bankA, bankB⟩ := completeRestage_sets s
  have roles : s.completeRestage.staging.active = s.staging.active := by rw [staging]
  calc s.completeRestage.active
      = (s.setStaged s.active).active := by
        simp only [State.active, State.bank, roles, bankA, bankB, setStaged_staging]
    _ = s.active := setStaged_active s s.active

/-- A staged write goes to the bank that is not active. -/
theorem stagedWrite_active {write : State → State} (writes : (write s).active = s.active) :
    (stagedWrite write s).after.active = s.active := by
  unfold stagedWrite
  split
  · exact writes
  · rfl
  · rfl

theorem writeSettings_active (s : State) (r : Request) : (s.writeSettings r).active = s.active := by
  unfold State.writeSettings
  split
  · exact setStaged_active s _
  · rfl

theorem writeWindows_active (s : State) (r : Request) : (s.writeWindows r).active = s.active := by
  unfold State.writeWindows
  split
  · exact setStaged_active s _
  · rfl

theorem writeStreams_active (s : State) (r : Request) : (s.writeStreams r).active = s.active := by
  unfold State.writeStreams
  split
  · exact (markDirty_active _ _).trans (setStaged_active s _)
  · rfl

theorem writeSteps_active (s : State) (r : Request) : (s.writeSteps r).active = s.active := by
  unfold State.writeSteps
  split
  · exact (markDirty_active _ _).trans (setStaged_active s _)
  · rfl

/-- A staged write touches the sets and the staging controller alone. -/
theorem keepsGuards_stagedWrite {write : State → State}
    (written : Within { banks := true, staging := true } s (write s)) (writes : (write s).active = s.active) :
    KeepsGuards s (stagedWrite write s).after :=
  have within := stagedWrite_within written
  (startsNothing_beside within rfl).sameMoment (sameMoment_of_timer (within.timer rfl) (stagedWrite_active writes))

theorem keepsGuards_yieldEffect (r : Request) (s : State) : KeepsGuards s (yieldEffect r s).after :=
  ((startsNothing_setAgent (a := { s.agent with owner := none }) id id).beside (stagingYield_within _) rfl).sameMoment
    (sameMoment_of_timer ((yieldEffect_within r s).timer rfl) (stagingYield_active _))

/-- A set is made pending, or applied while the timer is not RUNNING (R117). -/
theorem keepsGuards_commitEffect (s : State) (target : CommitTarget) :
    KeepsGuards s (s.commitEffect target).after := by
  have starts := startsNothing_commitEffect s target
  have timer : (s.commitEffect target).after.timer = s.timer := (commitEffect_within s target).timer rfl
  by_cases running : s.timer.state = .running
  · refine starts.sameMoment (sameMoment_of_timer timer ?_)
    have valid : (s.commitValid target).after.active = s.active := by
      unfold State.commitValid
      rw [if_pos (running_of_state running)]
      split
      · exact makePending_active s _
      · split
        · exact makePending_active s _
        · rfl
    unfold State.commitEffect
    split
    · rfl
    · rfl
    · split
      · exact setStaging_active rfl
      · exact valid
  · exact starts.idle (by rw [timer]; exact running)

theorem keepsGuards_withdrawEffect (r : Request) (s : State) : KeepsGuards s (withdrawEffect r s).after := by
  refine (startsNothing_withdrawEffect r s).sameMoment
    (sameMoment_of_timer ((withdrawEffect_within r s).timer rfl) ?_)
  unfold withdrawEffect
  split
  · exact withdrawCommit_active s _
  · rfl
  · rfl

theorem keepsGuards_timerStart {start : State → State} (started : KeepsGuards s (start s)) :
    KeepsGuards s (s.timerStart start).after := by
  unfold State.timerStart
  split
  · exact started
  · exact .refl s
  · exact .refl s

/-- An ARMED timer is not RUNNING yet. -/
theorem keepsGuards_prepareStart_armed (s : State) : KeepsGuards s (s.prepareStart .armed) :=
  (startsNothing_setTimer s _).idle nofun

theorem keepsGuards_timerStopEffect (r : Request) (s : State) : KeepsGuards s (timerStopEffect r s).after := by
  unfold timerStopEffect
  split
  · exact .refl s
  · exact keepsGuards_stopTimer s
  · exact keepsGuards_stopTimer s

/-! ### Every command -/

/-- A command that leaves timer, staging controller and sets, and starts no transmission. -/
theorem exec_keepsGuards_beside {c : Instr} {f : Footprint} (other : ∀ p, c ≠ .transmitStart p)
    (within : ∃ t, exec c s = .next t ∧ Within f s t) (le : f.le .besideMoment = true) :
    ∃ t, exec c s = .next t ∧ KeepsGuards s t := by
  obtain ⟨t, answer, starts⟩ := exec_startsNothing other s
  obtain ⟨u, again, touched⟩ := within
  obtain rfl := Host.Outcome.next.inj (again.symm.trans answer)
  exact ⟨_, answer, starts.beside_moment touched le⟩

theorem keepsGuards_completeTransmission {p : Port} {x : Transmission}
    (sending : (s.egress.get p).transmitter = .sending x) : KeepsGuards s (s.completeTransmission p x) := by
  have ended (u : State) (onWire : (u.egress.get p).transmitter = .sending x) :
      KeepsGuards u (u.updateEgress p (fun e => { e with transmitter := .idle, selectDue := true })) :=
    (startsNothing_endTransmission onWire).beside_moment (updateEgress_within u p _) rfl
  have freed : KeepsGuards s (s.freed p) := (keepsGuards_countPort s p _).trans (ended _ sending)
  refine (freed.trans ?_).trans (keepsGuards_releaseFrames _)
  unfold State.completeSent
  split
  · exact (startsNothing_countStream _ _ _).beside_moment (countStream_within _ _ _) rfl
  · exact .ite fun _ => keepsGuards_warmRestart _
  all_goals exact .refl _

theorem keepsGuards_coldReset (s : State) (strap : BitVec 4) (links : PerPort LinkState) (level : LineLevel) :
    KeepsGuards s (s.coldReset strap links level) := (startsNothing_coldReset s strap links level).idle nofun

theorem keepsGuards_closeIfDue (s : State) (k : WindowKind) (w : Nat) :
    KeepsGuards s (if h : w < 64 then if s.closeDue k ⟨w, h⟩ then s.takeClose ⟨w, h⟩ else s else s) := by
  split
  · exact .ite fun _ => keepsGuards_takeClose s _
  · exact .refl s

theorem exec_startOfFrame_keepsGuards (p : Port) (f : List Byte) (s : State) :
    ∃ t, execStartOfFrame p f s = .next t ∧ KeepsGuards s t := by
  refine ⟨_, rfl, ?_⟩
  split
  · next up _ => exact keepsGuards_beginReception up f
  · next r up _ =>
    exact .ite fun _ => (keepsGuards_frameArrives s p r).trans
      (keepsGuards_beginReception ((frameArrives_link s p r p).trans up) f)
  · exact .refl s

theorem exec_frameArrival_keepsGuards (p : Port) (s : State) :
    ∃ t, execFrameArrival p s = .next t ∧ KeepsGuards s t := by
  refine ⟨_, rfl, ?_⟩
  split
  · exact .ite fun _ => keepsGuards_frameArrives s p _
  · exact .refl s

theorem exec_linkDown_keepsGuards (p : Port) (s : State) :
    ∃ t, execLinkDown p s = .next t ∧ KeepsGuards s t := by
  refine ⟨_, rfl, ?_⟩
  split
  · exact keepsGuards_linkDown s p
  · exact .refl s

theorem exec_transmitComplete_keepsGuards (p : Port) (s : State) :
    ∃ t, execTransmitComplete p s = .next t ∧ KeepsGuards s t := by
  refine ⟨_, rfl, ?_⟩
  split
  · next x sending => exact .ite fun _ => keepsGuards_completeTransmission sending
  all_goals exact .refl s

theorem leaseExpires_active (s : State) (o : Owner) : (s.leaseExpires o).active = s.active := by
  rw [State.leaseExpires, stagingLeaseExpiry_active, raise_active]
  rfl

theorem exec_leaseExpiry_keepsGuards (s : State) : ∃ t, exec .leaseExpiry s = .next t ∧ KeepsGuards s t := by
  obtain ⟨t, answer, starts⟩ := exec_leaseExpiry_startsNothing s
  obtain ⟨u, again, touched⟩ := execLeaseExpiry_within s
  obtain rfl := Host.Outcome.next.inj (again.symm.trans answer)
  refine ⟨u, answer, starts.sameMoment (sameMoment_of_timer (touched.timer rfl) ?_)⟩
  obtain rfl := Host.Outcome.next.inj answer
  split
  · split
    · exact leaseExpires_active s _
    · rfl
  · rfl

/-- Every command but a selection keeps the law of guards. -/
theorem exec_keepsGuards {c : Instr} (other : ∀ p, c ≠ .transmitStart p) (s : State) :
    ∃ t, exec c s = .next t ∧ KeepsGuards s t := by
  have beside {f : Footprint} := exec_keepsGuards_beside (s := s) (f := f) other
  cases c with
  | coldReset strap links level => exact ⟨_, rfl, keepsGuards_coldReset s strap links level⟩
  | quenchLineAsserted => exact beside ⟨_, rfl, pinAt_within s .asserted⟩ rfl
  | quenchLineDeasserted => exact beside ⟨_, rfl, pinAt_within s .deasserted⟩ rfl
  | linkUp p => exact beside (execLinkUp_within p s) rfl
  | linkDown p => exact exec_linkDown_keepsGuards p s
  | startOfFrame p f => exact exec_startOfFrame_keepsGuards p f s
  | frameArrival p => exact exec_frameArrival_keepsGuards p s
  | cycleStart =>
    exact ⟨_, rfl, .ite fun _ => (keepsGuards_periodMatch s).trans (keepsGuards_settleRestart _)⟩
  | windowClose w => exact ⟨_, rfl, keepsGuards_closeIfDue s .admitting w⟩
  | guardOpen p =>
    exact ⟨_, rfl, .ite fun due => (keepsGuards_cutOff due).trans (keepsGuards_settleRestart _)⟩
  | guardClose w => exact ⟨_, rfl, keepsGuards_closeIfDue s .guard w⟩
  | attributionIntervalClose => exact ⟨_, rfl, keepsGuards_closeIntervalIfOver s⟩
  | pendingAdvanceEnd => exact beside ⟨_, rfl, .ite (endAdvance_within s)⟩ rfl
  | transmitStart p => exact absurd rfl (other p)
  | transmitComplete p => exact exec_transmitComplete_keepsGuards p s
  | notificationOffer p => exact beside ⟨_, rfl, offerNotifications_within s p⟩ rfl
  | retryTimerExpiry l q => exact beside (execRetryTimerExpiry_within l q s) rfl
  | leaseExpiry => exact exec_leaseExpiry_keepsGuards s
  | restageCompletion =>
    exact ⟨_, rfl, .ite fun _ => (startsNothing_completeRestage s).sameMoment
      (sameMoment_of_timer ((completeRestage_within s).timer rfl) (completeRestage_active s))⟩
  | restartWaitExpiry => exact ⟨_, rfl, .ite fun _ => keepsGuards_warmRestart s⟩
  | discover => exact ⟨_, rfl, keepsGuards_execute _ s fun _ u => .refl u⟩
  | claim => exact beside ⟨_, rfl, execute_beside_moment _ s claimEffect_within rfl⟩ rfl
  | yieldOwnership => exact ⟨_, rfl, keepsGuards_execute _ s keepsGuards_yieldEffect⟩
  | readStatus => exact ⟨_, rfl, keepsGuards_execute _ s fun _ u => .refl u⟩
  | readSet => exact beside ⟨_, rfl, execute_beside_moment _ s readSetEffect_within rfl⟩ rfl
  | readStreamState => exact ⟨_, rfl, keepsGuards_execute _ s fun _ u => .refl u⟩
  | readCounters => exact ⟨_, rfl, keepsGuards_execute _ s fun _ u => .refl u⟩
  | readCountersClear =>
    exact beside ⟨_, rfl, execute_beside_moment _ s (fun r u => zeroCounters_within u r) rfl⟩ rfl
  | readFlags => exact ⟨_, rfl, keepsGuards_execute _ s fun _ u => .refl u⟩
  | readFault => exact ⟨_, rfl, keepsGuards_execute _ s fun _ u => .refl u⟩
  | writeSettings =>
    exact ⟨_, rfl, keepsGuards_execute _ s fun r u =>
      keepsGuards_stagedWrite ((writeSettings_within u r).mono rfl) (writeSettings_active u r)⟩
  | writeWindows =>
    exact ⟨_, rfl, keepsGuards_execute _ s fun r u =>
      keepsGuards_stagedWrite ((writeWindows_within u r).mono rfl) (writeWindows_active u r)⟩
  | writeStreams =>
    exact ⟨_, rfl, keepsGuards_execute _ s fun r u =>
      keepsGuards_stagedWrite (writeStreams_within u r) (writeStreams_active u r)⟩
  | writeSteps =>
    exact ⟨_, rfl, keepsGuards_execute _ s fun r u =>
      keepsGuards_stagedWrite (writeSteps_within u r) (writeSteps_active u r)⟩
  | writeTemplate =>
    exact ⟨_, rfl, keepsGuards_execute _ s fun r u =>
      keepsGuards_stagedWrite ((writeTemplate_within u r).mono rfl) (setStaged_active u _)⟩
  | commitNext => exact ⟨_, rfl, keepsGuards_execute _ s fun _ u => keepsGuards_commitEffect u _⟩
  | commitAt => exact ⟨_, rfl, keepsGuards_execute _ s fun _ u => keepsGuards_commitEffect u _⟩
  | withdraw => exact ⟨_, rfl, keepsGuards_execute _ s keepsGuards_withdrawEffect⟩
  | holdStream => exact beside ⟨_, rfl, execute_beside_moment _ s holdEffect_within rfl⟩ rfl
  | releaseStreamResume => exact beside ⟨_, rfl, execute_beside_moment _ s resumeEffect_within rfl⟩ rfl
  | releaseStreamRearm => exact beside ⟨_, rfl, execute_beside_moment _ s rearmEffect_within rfl⟩ rfl
  | quench =>
    exact beside ⟨_, rfl, execute_beside_moment _ s (fun _ u => addCause_within u .command) rfl⟩ rfl
  | clearQuench => exact beside ⟨_, rfl, execute_beside_moment _ s clearQuenchEffect_within rfl⟩ rfl
  | setLive => exact beside ⟨_, rfl, execute_beside_moment _ s setLiveEffect_within rfl⟩ rfl
  | setListener => exact beside ⟨_, rfl, execute_beside_moment _ s setListenerEffect_within rfl⟩ rfl
  | setNotify => exact beside ⟨_, rfl, execute_beside_moment _ s setNotifyEffect_within rfl⟩ rfl
  | clearFlags => exact beside ⟨_, rfl, execute_beside_moment _ s clearFlagsEffect_within rfl⟩ rfl
  | raiseFlag => exact beside ⟨_, rfl, execute_beside_moment _ s raiseFlagEffect_within rfl⟩ rfl
  | timerStartImmediate =>
    exact ⟨_, rfl, keepsGuards_execute _ s fun _ u =>
      keepsGuards_timerStart (keepsGuards_setTimer_handCycleStart u _)⟩
  | timerStartOnMark =>
    exact ⟨_, rfl, keepsGuards_execute _ s fun _ u => keepsGuards_timerStart (keepsGuards_prepareStart_armed u)⟩
  | timerStop => exact ⟨_, rfl, keepsGuards_execute _ s keepsGuards_timerStopEffect⟩
  | restart => exact beside ⟨_, rfl, execute_beside_moment _ s (fun _ u => setAgent_within u _) rfl⟩ rfl
  | ackNotify => exact beside ⟨_, rfl, execute_beside_moment _ s ackNotifyEffect_within rfl⟩ rfl
  | unknownRequest =>
    exact ⟨_, rfl, keepsGuards_agentExecutes s _ fun r u =>
      (startsNothing_conclude u r _ _ _).beside_moment (conclude_within u r _ _ _) rfl⟩

/-- A selection starts no management or background frame under an open guard (R147). -/
theorem exec_transmitStart_guardLaw (p : Port) (law : GuardLaw s) :
    ∃ t, exec (.transmitStart p) s = .next t ∧ GuardLaw t := by
  refine ⟨_, rfl, ?_⟩
  split
  · have within : Within .besideMoment s (s.select p).releaseFrames :=
      (select_within s p).comp (releaseFrames_within _) rfl rfl
    refine (sameMoment_of_within within rfl).guardLaw (fun q due => ?_) law
    have selected : (s.select p).cutDue q = true := due
    have called : (s.answered p).cutDue q = true := (select_selects s p).cutDue q selected
    exact (sameMoment_of_within (f := .besideMoment) ((updateEgress_within s p _).mono rfl) rfl).cutDue
      (updateEgress_wire (fun _ sending => sending) q) called
  · exact law

theorem exec_guardLaw (c : Instr) (law : GuardLaw s) : ∃ t, exec c s = .next t ∧ GuardLaw t := by
  by_cases select : ∃ p, c = .transmitStart p
  · obtain ⟨p, rfl⟩ := select
    exact exec_transmitStart_guardLaw p law
  · obtain ⟨t, answer, keeps⟩ := exec_keepsGuards (fun p same => select ⟨p, same⟩) s
    exact ⟨t, answer, keeps.guardLaw law⟩

/-! ### Every step -/

theorem guardOpen_mem_dueNow {p : Port} (due : s.cutDue p = true) : .guardOpen p ∈ s.dueNow :=
  (mem_dueNow s _).2 (.inl ⟨p, (mem_portDue s p _).2 (.inr (.inr (.inr (.inl ⟨due, rfl⟩))))⟩)

/-- What is on a wire after a tick was on it before, started as it was. -/
theorem tick_wire {p : Port} {x : Transmission} (sending : (s.tick.egress.get p).transmitter = .sending x) :
    ∃ y, (s.egress.get p).transmitter = .sending y ∧ y.startedRunning = x.startedRunning := by
  have unit : s.tick.egress.get p = (s.egress.get p).tick := perPort_get_map _ _ _
  rw [unit, Egress.tick] at sending
  cases transmitter : (s.egress.get p).transmitter <;> rw [transmitter] at sending <;> cases sending
  exact ⟨_, rfl, rfl⟩

/-- A guard that is open after a tick was open before it, or opens with it. -/
theorem tick_openGuard {p : Port} (guard : (s.tick.openGuard p).isSome = true) :
    (s.openGuard p).isSome = true ∨
      ∃ v : WindowIx, s.active.Guards p v ∧ s.active.windows[v].openOff = s.tick.timer.counter := by
  have timer : s.tick.timer = { s.timer with
      counter := if s.timer.state = .running then s.timer.counter + 1 else s.timer.counter } := timer_tick s.timer
  have running : s.timer.state = .running := by
    by_contra idle
    have idle : s.tick.timer.state ≠ .running := by rw [timer]; exact idle
    rw [State.openGuard, running_false idle] at guard
    cases guard
  have counter : s.tick.timer.counter = s.timer.counter + 1 := by
    rw [timer]
    exact if_pos running
  obtain ⟨v, guards, opened, closes⟩ := (openGuard_isSome_iff (by rw [timer]; exact running)).1 guard
  rw [counter] at opened closes ⊢
  rcases Nat.lt_or_ge s.timer.counter s.active.windows[v].openOff with later | earlier
  · exact .inr ⟨v, guards, Nat.le_antisymm opened later⟩
  · exact .inl ((openGuard_isSome_iff running).2 ⟨v, guards, earlier, Nat.lt_of_succ_lt closes⟩)

/-- A tick passes only where no cut-off is due, so that a guard that is then open over a transmission opens with
the tick (R149). -/
theorem tick_guardLaw (quiet : s.dueNow = []) : GuardLaw s.tick := by
  intro p due
  obtain ⟨guard, x, sending, started⟩ := (cutDue_iff s.tick p).1 due
  rcases tick_openGuard guard with wasOpen | ⟨v, ⟨valid, kind, port⟩, opens⟩
  · obtain ⟨y, onWire, same⟩ := tick_wire sending
    have now := guardOpen_mem_dueNow (cutDue_of wasOpen onWire (same.trans started))
    rw [quiet] at now
    exact absurd now List.not_mem_nil
  · exact ⟨v, valid, kind, port, opens⟩

theorem setPending_guardLaw (law : GuardLaw s) (l : List Instr) : GuardLaw (s.setPending l) := law

theorem idle_guardLaw (law : GuardLaw s) : GuardLaw s.idle := by
  unfold State.idle
  split
  · next quiet => exact tick_guardLaw quiet
  · exact law
  · exact law

theorem step_guardLaw (law : GuardLaw s) (step : step s = .next t) : GuardLaw t := by
  unfold Machine.step at step
  split at step
  · obtain rfl := Host.Outcome.next.inj step
    exact idle_guardLaw law
  · next c rest _ =>
    obtain ⟨u, answer, kept⟩ := exec_guardLaw c (setPending_guardLaw law rest)
    obtain rfl := Host.Outcome.next.inj (answer.symm.trans step)
    exact kept

/-- The command cuts off where it is due, and leaves nothing on the wire. -/
theorem exec_guardOpen_cuts {p : Port} (due : s.cutDue p = true) :
    ∃ t, exec (.guardOpen p) s = .next t ∧ t.cutDue p = false := by
  refine ⟨_, exec_guardOpen due, Bool.eq_false_iff.2 fun still => ?_⟩
  obtain ⟨-, x, sending, -⟩ := (cutDue_iff _ p).1 still
  have cut := (keepsGuards_settleRestart (s.cutOff p)).wire p x sending
  exact nomatch (cutOff_transmitter s p).symm.trans cut

end

end Sys2Proof.Machine
end

section
/-! PROOF. O60. -/

namespace Sys2Proof.Machine

/-- Settles O60: the laws of links and references as every step carries them, the law of guards as every step keeps
it, and the cut-off that is due. -/
theorem portLawsKeptByEveryStep : Obligations.PortLawsKeptByEveryStep :=
  ⟨fun _ _ law step => (step_carriesLaws step).link law, fun _ _ law step => (step_carriesLaws step).reference law,
    fun _ _ law step => step_guardLaw law step,
    fun _ _ due => ⟨guardOpen_mem_dueNow due, exec_guardOpen_cuts due⟩⟩

end Sys2Proof.Machine
end

section
/-! SUPPORT. The event unit's offers (R160): which records are due at a port, what an offer makes of them, and that
the oldest goes first. -/

namespace Sys2Proof.Machine

section
variable {s : State} {p : Port}

/-! ### Records that are due at a port (R160) -/

/-- A record is due at a port: UNSENT or resend-due, its listener's port that port. -/
def State.DueAt (s : State) (p : Port) (r : NotifRecord) : Prop :=
  (r.state = .unsent ∨ r.state = .resendDue) ∧ s.events.listeners[r.listener].port = p

theorem isDue_iff (r : NotifRecord) : r.isDue = true ↔ r.state = .unsent ∨ r.state = .resendDue := by
  unfold NotifRecord.isDue
  cases r.state <;> simp

theorem dueAt_iff {r : NotifRecord} :
    s.DueAt p r ↔ r.isDue = true ∧ s.events.listeners[r.listener].port = p :=
  and_congr_left' (isDue_iff r).symm

/-- An offered record runs its retry timer, so that it is due at no port. -/
theorem not_dueAt_offered (s t : State) (p : Port) (r : NotifRecord) : ¬ t.DueAt p (s.offered r) :=
  fun ⟨waits, _⟩ => waits.elim nofun nofun

theorem mgmtRoom_iff : s.mgmtRoom p = true ↔ s.link p = .up ∧ (s.egress.get p).mgmt.length < 4 := by
  simp [State.mgmtRoom, State.hasRoom]

/-- A port without room: its link is DOWN, or its management queue holds four entries (R143). -/
theorem not_mgmtRoom_iff :
    ¬ s.mgmtRoom p = true ↔ s.link p = .down ∨ 4 ≤ (s.egress.get p).mgmt.length := by
  rw [mgmtRoom_iff]
  cases s.link p <;> simp

theorem offerDue_iff_dueAt : s.offerDue p = true ↔ s.mgmtRoom p = true ∧ ∃ r ∈ s.events.queue, s.DueAt p r := by
  rw [offerDue_iff, mgmtRoom_iff, and_assoc]
  rfl

/-! ### Offers record by record (R160) -/

/-- Records of which none is due at the port, or which meet a full queue, stay as they are. -/
theorem offerRecords_self {l : List NotifRecord} {q : List MgmtEntry}
    (quiet : ∀ r ∈ l, ¬ s.DueAt p r ∨ 4 ≤ q.length) : offerRecords s p l q = (l, q) := by
  have skip := offerRecords_skip s p l [] q fun r mem => (quiet r mem).imp_left (mt dueAt_iff.2)
  simpa [offerRecords] using skip

/-- A port's management queue with the frame of a record's next offer behind it. -/
def State.mgmtWith (s : State) (p : Port) (r : NotifRecord) : List MgmtEntry :=
  (s.egress.get p).mgmt ++ [.notification (s.notificationFrame (s.offered r))]

theorem mgmtWith_length (s : State) (p : Port) (r : NotifRecord) :
    (s.mgmtWith p r).length = (s.egress.get p).mgmt.length + 1 := List.length_append

/-- The frame stands behind the entries that the queue held, whatever joins behind it. -/
theorem mgmtWith_entry {r : NotifRecord} {q : List MgmtEntry} (longer : s.mgmtWith p r <+: q) :
    q[(s.egress.get p).mgmt.length]? = some (.notification (s.notificationFrame (s.offered r))) := by
  obtain ⟨more, rfl⟩ := longer
  simp [State.mgmtWith]

/-- Behind records that are not due at the port, the first due one is offered, and the rest follows it. -/
theorem offerRecords_first {before after : List NotifRecord} {r : NotifRecord}
    (quiet : ∀ x ∈ before, ¬ s.DueAt p x) (due : s.DueAt p r) (room : (s.egress.get p).mgmt.length < 4) :
    offerRecords s p (before ++ r :: after) (s.egress.get p).mgmt =
      (before ++ s.offered r :: (offerRecords s p after (s.mgmtWith p r)).1,
       (offerRecords s p after (s.mgmtWith p r)).2) := by
  obtain ⟨isDue, port⟩ := dueAt_iff.1 due
  rw [offerRecords_skip s p before _ _ fun x mem => .inl (mt dueAt_iff.2 (quiet x mem)),
    offerRecords_take s p r after _ isDue port room]
  rfl

/-- A record that is not due stays in front of the offers of the rest. -/
theorem offerRecords_behind {before after : List NotifRecord} {r : NotifRecord} {q : List MgmtEntry}
    (quiet : ∀ x ∈ before, ¬ s.DueAt p x) (calm : ¬ s.DueAt p r) :
    offerRecords s p (before ++ r :: after) q =
      (before ++ r :: (offerRecords s p after q).1, (offerRecords s p after q).2) := by
  have front := offerRecords_skip s p (before ++ [r]) after q fun x mem => .inl <| mt dueAt_iff.2 <| by
    rcases List.mem_append.1 mem with mem | mem
    · exact quiet x mem
    · exact List.mem_singleton.1 mem ▸ calm
  simpa using front

/-- Offers read the listeners, the timer, the base and the strap of a state. -/
theorem offerRecords_congr {t : State} (listeners : t.events.listeners = s.events.listeners)
    (base : t.base = s.base) (timer : t.timer = s.timer) (strap : t.strap = s.strap)
    (l : List NotifRecord) (q : List MgmtEntry) : offerRecords t p l q = offerRecords s p l q := by
  have offered : t.offered = s.offered := by
    funext r
    rw [State.offered, listeners, base]
    rfl
  have frame : t.notificationFrame = s.notificationFrame := by
    funext r
    simp only [State.notificationFrame, State.gateFrame, State.stationAddr, listeners, timer, strap]
  induction l generalizing q with
  | nil => rfl
  | cons r l ih => simp only [offerRecords, listeners, offered, frame, ih]

/-- Offers add entries at the back of the management queue. -/
theorem offerRecords_extends (s : State) (p : Port) (l : List NotifRecord) (q : List MgmtEntry) :
    q <+: (offerRecords s p l q).2 := by
  induction l generalizing q with
  | nil => exact ⟨[], q.append_nil⟩
  | cons r l ih =>
    unfold offerRecords
    split
    · exact List.IsPrefix.trans ⟨_, rfl⟩ (ih _)
    · exact ih q

/-- What a record got at its generation: without send count and state, which alone its offers change. -/
def NotifRecord.content (r : NotifRecord) : NotifRecord := { r with sendCount := 0, state := .unsent }

theorem offerRecords_content (s : State) (p : Port) (l : List NotifRecord) (q : List MgmtEntry) :
    (offerRecords s p l q).1.map NotifRecord.content = l.map NotifRecord.content := by
  induction l generalizing q with
  | nil => rfl
  | cons r l ih =>
    unfold offerRecords
    split
    · exact congrArg (r.content :: ·) (ih _)
    · exact congrArg (r.content :: ·) (ih q)

/-! ### The offers of a port (R160) -/

theorem offerNotifications_none (none : ∀ r ∈ s.events.queue, ¬ s.DueAt p r) : s.offerNotifications p = s :=
  if_neg fun due => (offerDue_iff_dueAt.1 due).2.elim fun r ⟨mem, dueAt⟩ => none r mem dueAt

theorem offerNotifications_noRoom (full : s.link p = .down ∨ 4 ≤ (s.egress.get p).mgmt.length) :
    s.offerNotifications p = s :=
  if_neg fun due => not_mgmtRoom_iff.2 full (offerDue_iff_dueAt.1 due).1

@[simp] theorem offerNotifications_content (s : State) (p : Port) :
    (s.offerNotifications p).events.queue.map NotifRecord.content = s.events.queue.map NotifRecord.content := by
  unfold State.offerNotifications
  split
  · exact offerRecords_content s p _ _
  · rfl

theorem offerNotifications_queue_length (s : State) (p : Port) :
    (s.offerNotifications p).events.queue.length = s.events.queue.length := by
  have length := congrArg List.length (offerNotifications_content s p)
  rwa [List.length_map, List.length_map] at length

/-- The state after offers that leave these records and this management queue. -/
def State.afterOffers (s : State) (p : Port) (out : List NotifRecord × List MgmtEntry) : State :=
  (s.setEvents { s.events with queue := out.1 }).updateEgress p
    (fun e => { e with mgmt := out.2, selectDue := true })

theorem afterOffers_unit (s : State) (p : Port) (out : List NotifRecord × List MgmtEntry) :
    (s.afterOffers p out).egress.get p = { s.egress.get p with mgmt := out.2, selectDue := true } :=
  perPort_get_set_same _ _ _

/-- Of two lots of offers the later one's records and queue stand. -/
theorem afterOffers_afterOffers (s : State) (p : Port) (out out' : List NotifRecord × List MgmtEntry) :
    (s.afterOffers p out).afterOffers p out' = s.afterOffers p out' := by
  cases p <;> rfl

theorem offerNotifications_due (room : s.mgmtRoom p = true) {r : NotifRecord} (mem : r ∈ s.events.queue)
    (due : s.DueAt p r) :
    s.offerNotifications p = s.afterOffers p (offerRecords s p s.events.queue (s.egress.get p).mgmt) :=
  if_pos (offerDue_iff_dueAt.2 ⟨room, r, mem, due⟩)

/-- Where the arbiter has been called already, the offers change records and management queue only. -/
theorem offerNotifications_called (called : (s.egress.get p).selectDue = true) (up : s.link p = .up) :
    s.offerNotifications p = s.afterOffers p (offerRecords s p s.events.queue (s.egress.get p).mgmt) := by
  by_cases due : s.offerDue p = true
  · exact if_pos due
  · have quiet : ∀ r ∈ s.events.queue, ¬ s.DueAt p r ∨ 4 ≤ (s.egress.get p).mgmt.length := by
      intro r mem
      by_contra both
      rw [not_or, not_not, Nat.not_le] at both
      exact due (offerDue_iff_dueAt.2 ⟨mgmtRoom_iff.2 ⟨up, both.2⟩, r, mem, both.1⟩)
    have same : { s.egress.get p with mgmt := (s.egress.get p).mgmt, selectDue := true } = s.egress.get p := by
      rw [← called]
    have egress : s.egress.set p (s.egress.get p) = s.egress := by cases p <;> rfl
    rw [offerRecords_self quiet, State.afterOffers, State.updateEgress, setEvents_egress, same, egress]
    exact if_neg due

/-- The oldest due record of a port with room is offered, and the due records behind it while room lasts. -/
theorem offerNotifications_oldest {before after : List NotifRecord} {r : NotifRecord}
    (queue : s.events.queue = before ++ r :: after) (quiet : ∀ x ∈ before, ¬ s.DueAt p x) (due : s.DueAt p r)
    (up : s.link p = .up) (room : (s.egress.get p).mgmt.length < 4) :
    s.offerNotifications p = s.afterOffers p
      (before ++ s.offered r :: (offerRecords s p after (s.mgmtWith p r)).1,
       (offerRecords s p after (s.mgmtWith p r)).2) := by
  rw [offerNotifications_due (mgmtRoom_iff.2 ⟨up, room⟩) (by simp [queue]) due, queue,
    offerRecords_first quiet due room]

/-- One record offered: AWAITING in its place, its frame at the back of the port's management queue. -/
def State.offerOne (s : State) (p : Port) (before after : List NotifRecord) (r : NotifRecord) : State :=
  s.afterOffers p (before ++ s.offered r :: after, s.mgmtWith p r)

/-- The offers of the state that the offer of one record leaves. -/
theorem offerNotifications_offerOne {before after : List NotifRecord} {r : NotifRecord}
    (quiet : ∀ x ∈ before, ¬ s.DueAt p x) (up : s.link p = .up) :
    (s.offerOne p before after r).offerNotifications p = s.afterOffers p
      (before ++ s.offered r :: (offerRecords s p after (s.mgmtWith p r)).1,
       (offerRecords s p after (s.mgmtWith p r)).2) := by
  have called : ((s.offerOne p before after r).egress.get p).selectDue = true :=
    congrArg Egress.selectDue (afterOffers_unit s p _)
  have mgmt : ((s.offerOne p before after r).egress.get p).mgmt = s.mgmtWith p r :=
    congrArg Egress.mgmt (afterOffers_unit s p _)
  have queue : (s.offerOne p before after r).events.queue = before ++ s.offered r :: after := rfl
  rw [offerNotifications_called called up, mgmt, queue,
    offerRecords_congr (s := s) (t := s.offerOne p before after r) rfl rfl rfl rfl,
    offerRecords_behind quiet (not_dueAt_offered s s p r)]
  exact afterOffers_afterOffers s p _ _

/-- The oldest due record of a port with room is offered first; the offers go on from there. -/
theorem offerNotifications_first {before after : List NotifRecord} {r : NotifRecord}
    (queue : s.events.queue = before ++ r :: after) (quiet : ∀ x ∈ before, ¬ s.DueAt p x) (due : s.DueAt p r)
    (up : s.link p = .up) (room : (s.egress.get p).mgmt.length < 4) :
    s.offerNotifications p = (s.offerOne p before after r).offerNotifications p :=
  (offerNotifications_oldest queue quiet due up room).trans (offerNotifications_offerOne quiet up).symm

end
end Sys2Proof.Machine
end

section
/-! SUPPORT. What an occurrence generates (R153, R159), and what the expiry of a retry timer does (R161). -/

namespace Sys2Proof.Machine

section
variable {s : State} {o : Occurrence} {l : ListenerIx}

/-! ### The record of an occurrence (R153, R159) -/

/-- An enabled class, its listener, and that listener enabled: an occurrence of the class calls for a record. -/
structure State.Notifies (s : State) (c : EventClass) (l : ListenerIx) : Prop where
  class_enabled : s.events.classes[c.number].enabled = true
  named : s.events.classes[c.number].listener = l
  listener_enabled : s.events.listeners[l].enabled = true

theorem raise_class_disabled (off : s.events.classes[o.cls.number].enabled = false) :
    s.raise o = s.setFlag o.cls :=
  if_neg (ne_true_of_eq_false off)

theorem raise_listener_disabled
    (off : s.events.listeners[s.events.classes[o.cls.number].listener].enabled = false) :
    s.raise o = s.setFlag o.cls := by
  have unheard : (s.setFlag o.cls).generate s.events.classes[o.cls.number].listener o = s.setFlag o.cls :=
    if_neg (ne_true_of_eq_false off)
  rw [State.raise, unheard, ite_self]

theorem raise_notifies (h : s.Notifies o.cls l) : s.raise o = (s.setFlag o.cls).generate l o := by
  rw [State.raise, if_pos h.class_enabled, h.named]

/-- With room in the notification queue a record joins its back, and the port's due records are offered. -/
theorem raise_recorded (h : s.Notifies o.cls l) (room : s.events.queue.length < 32) :
    s.raise o = ((s.setFlag o.cls).withRecord l o).offerNotifications s.events.listeners[l].port :=
  (raise_notifies h).trans ((if_pos h.listener_enabled).trans (if_pos room))

/-- With 32 records in it the occurrence is counted as missed. -/
theorem raise_missed (h : s.Notifies o.cls l) (full : 32 ≤ s.events.queue.length) :
    s.raise o = (s.setFlag o.cls).setEvents ((s.setFlag o.cls).events.updateListener l
      (fun x => { x with missed := satInc x.missed })) :=
  (raise_notifies h).trans ((if_pos h.listener_enabled).trans (if_neg (Nat.not_lt.2 full)))

theorem updateListener_same (e : EventUnit) (l : ListenerIx) (f : Listener → Listener) :
    (e.updateListener l f).listeners[l] = f e.listeners[l] :=
  Vector.getElem_set_self _

theorem raise_recorded_listener (h : s.Notifies o.cls l) (room : s.events.queue.length < 32) :
    (s.raise o).events.listeners[l] =
      { s.events.listeners[l] with nextSeq := s.events.listeners[l].nextSeq + 1#16, missed := 0 } := by
  rw [raise_recorded h room, offerNotifications_listeners]
  exact updateListener_same (s.setFlag o.cls).events l
    (fun x => { x with nextSeq := x.nextSeq + 1#16, missed := 0 })

theorem raise_recorded_queue_length (h : s.Notifies o.cls l) (room : s.events.queue.length < 32) :
    (s.raise o).events.queue.length = s.events.queue.length + 1 := by
  rw [raise_recorded h room, offerNotifications_queue_length]
  exact List.length_append

/-- The record at the back is the new one, whatever its first offer has made of it. -/
theorem raise_recorded_last (h : s.Notifies o.cls l) (room : s.events.queue.length < 32) :
    ∃ r, (s.raise o).events.queue.getLast? = some r ∧ r.content = s.newRecord l o := by
  have contents : (s.raise o).events.queue.map NotifRecord.content =
      s.events.queue.map NotifRecord.content ++ [s.newRecord l o] := by
    rw [raise_recorded h room, offerNotifications_content]
    exact List.map_append
  have last := congrArg List.getLast? contents
  rwa [List.getLast?_map, List.getLast?_concat, Option.map_eq_some_iff] at last

/-! ### The expiry of a retry timer (R161) -/

/-- The oldest record of a listener and number with an expired timer (log 46), and the records around it. -/
structure State.Expires (s : State) (before after : List NotifRecord) (r : NotifRecord) : Prop where
  queue : s.events.queue = before ++ r :: after
  expired : s.expiredRecord r.listener r.seq r = true
  oldest : ∀ x ∈ before, s.expiredRecord r.listener r.seq x = false

theorem State.Expires.of_awaiting {before after : List NotifRecord} {r : NotifRecord} {moment : Nat}
    (queue : s.events.queue = before ++ r :: after) (awaiting : r.state = .awaiting moment)
    (past : moment ≤ s.base)
    (oldest : ∀ x ∈ before, x.listener = r.listener → x.seq = r.seq →
      ∀ t, x.state = .awaiting t → s.base < t) : s.Expires before after r where
  queue := queue
  expired := (expiredRecord_iff s _ _ r).2 ⟨rfl, rfl, moment, awaiting, past⟩
  oldest x mem := by
    rw [← Bool.not_eq_true, expiredRecord_iff]
    rintro ⟨listener, seq, t, state, expired⟩
    exact absurd expired (Nat.not_le.2 (oldest x mem listener seq t state))

/-- The state in which a record of the queue has become resend-due. -/
def State.withResendDue (s : State) (before after : List NotifRecord) (r : NotifRecord) : State :=
  s.setEvents { s.events with queue := before ++ { r with state := .resendDue } :: after }

section
variable {before after : List NotifRecord} {r : NotifRecord} (h : s.Expires before after r)
include h

theorem exec_retryTimerExpiry_of_expires :
    exec (.retryTimerExpiry r.listener r.seq) s =
      .next (if r.sendCount ≤ s.events.listeners[r.listener].retryLimit then s.retryRecord r.listener r.seq
        else s.lapseRecord r.listener r.seq) := by
  have found : s.events.queue.find? (s.expiredRecord r.listener r.seq) = some r :=
    List.find?_eq_some_iff_append.2 ⟨h.expired, before, after, h.queue, by simpa using h.oldest⟩
  change Host.Outcome.next _ = _
  rw [found]

/-- Above the limit the record goes, and the listener's lapse count rises. -/
theorem exec_retryTimerExpiry_lapse (spent : s.events.listeners[r.listener].retryLimit < r.sendCount) :
    exec (.retryTimerExpiry r.listener r.seq) s = .next (s.setEvents
      { s.events.updateListener r.listener (fun x => { x with lapse := satInc x.lapse }) with
        queue := before ++ after }) := by
  have removed : s.events.queue.eraseP (s.expiredRecord r.listener r.seq) = before ++ after := by
    rw [h.queue, List.eraseP_append_right _ (by simpa using h.oldest), List.eraseP_cons_of_pos h.expired]
  rw [exec_retryTimerExpiry_of_expires h, if_neg (Nat.not_le.2 spent), State.lapseRecord, removed]

/-- At or below the limit the record becomes resend-due, and the due records of its port are offered. -/
theorem exec_retryTimerExpiry_retry (left : r.sendCount ≤ s.events.listeners[r.listener].retryLimit) :
    exec (.retryTimerExpiry r.listener r.seq) s =
      .next ((s.withResendDue before after r).offerNotifications s.events.listeners[r.listener].port) := by
  have resendDue : updateFirst (s.expiredRecord r.listener r.seq) (fun x => { x with state := .resendDue })
      s.events.queue = before ++ { r with state := .resendDue } :: after := by
    rw [h.queue]
    exact updateFirst_append _ h.oldest h.expired after
  rw [exec_retryTimerExpiry_of_expires h, if_pos left, State.retryRecord, resendDue,
    State.withResendDue]

end

/-! ### The notification frame (R182, section 12.5) -/

theorem notificationBody_length (r : NotifRecord) (lapse : Nat) : (notificationBody r lapse).length = 19 := rfl

theorem classByte_eq (c : EventClass) (test : Bool) :
    classByte c test = BitVec.ofNat 8 c.number.val ||| (if test then 0x80#8 else 0#8) := by
  cases test <;> rfl

/-- 22 bytes of headers and 19 of the body are padded to 60. -/
theorem notificationFrame_eq (s : State) (r : NotifRecord) :
    s.notificationFrame r = withFcs (be48 s.events.listeners[r.listener].addr ++
      be48 (0x024F53D24000#48 ||| s.strap.setWidth 48) ++
      [0x88#8, 0xB5#8, 0x14#8, 0#8, 0#8, 0#8, 0#8, 19#8] ++ be16 (s.timer.cycleCount.setWidth 16) ++
      notificationBody r s.events.listeners[r.listener].lapse ++ List.replicate 19 0#8) := by
  rw [State.notificationFrame, State.gateFrame, padded, notificationBody_length]
  rfl

end
end Sys2Proof.Machine
end

section
/-! PROOF. O32. -/

namespace Sys2Proof.Machine

/-- Settles O32: an occurrence that calls for no record sets its flag alone; of one that does, the record is made and
offered, or counted as missed. -/
theorem occurrencesSetFlagsAndMakeRecords : Obligations.OccurrencesSetFlagsAndMakeRecords := by
  refine ⟨fun s o => ⟨raise_flags s o, raise_class_disabled, raise_listener_disabled⟩,
    fun s o enabled => ?_⟩
  intro l listens
  have notifies : s.Notifies o.cls l := ⟨enabled, rfl, listens⟩
  refine ⟨fun room => ?_, fun room => ⟨?_, fun closed => ?_⟩, fun full => ?_⟩
  · obtain ⟨r, last, same⟩ := raise_recorded_last notifies room
    obtain ⟨listener, seq, cls, test, cycleCount, offset, stream, port, detail, missed⟩ :=
      NotifRecord.mk.inj same
    have unit := raise_recorded_listener notifies room
    exact ⟨raise_recorded_queue_length notifies room, congrArg Listener.nextSeq unit,
      congrArg Listener.missed unit, r, last, listener, seq, cls, detail, stream, port, cycleCount, offset,
      missed.1⟩
  · rw [raise_recorded notifies room]
    rfl
  · rw [raise_recorded notifies room]
    exact offerNotifications_noRoom closed
  · rw [raise_missed notifies full]
    exact ⟨rfl, rfl, updateListener_same (s.setFlag o.cls).events l _⟩

end Sys2Proof.Machine
end

section
/-! PROOF. O33. -/

namespace Sys2Proof.Machine

/-- Settles O33: the first offer is offerNotifications_first, the expiry one of the two of
exec_retryTimerExpiry_of_expires; a queue of one record is the case with no records around it. -/
theorem notificationsAreOfferedAndRetried : Obligations.NotificationsAreOfferedAndRetried := by
  refine ⟨fun s r rest p queue waits port up room => ?_, fun s r moment queue awaiting past => ?_,
    fun s p before after r queue quiet waits port up room =>
      congrArg Host.Outcome.next (offerNotifications_first queue quiet ⟨waits, port⟩ up room),
    fun s before after r moment queue awaiting past oldest => ?_, fun s r => ?_⟩
  · have offers := offerNotifications_oldest (before := []) queue (by simp) ⟨waits, port⟩ up room
    refine ⟨_, s.offered r, congrArg Host.Outcome.next offers, rfl, rfl, ?_, rfl, ?_, ?_⟩
    · rw [← offers, offerNotifications_queue_length]
    · rw [afterOffers_unit]
      exact mgmtWith_entry (offerRecords_extends s p rest _)
    · rw [afterOffers_unit]
      exact offerRecords_fits s p rest _ (Eq.trans_le (mgmtWith_length s p r) room)
  · have expires : s.Expires [] [] r := .of_awaiting queue awaiting past (by simp)
    refine ⟨fun spent => exec_retryTimerExpiry_lapse expires spent,
      fun left => ⟨_, exec_retryTimerExpiry_retry expires left, fun down => ?_, fun up room => ?_⟩⟩
    · rw [offerNotifications_noRoom (s := s.withResendDue [] [] r) (.inl down)]
      rfl
    · have first := offerNotifications_first (s := s.withResendDue [] [] r)
        (p := s.events.listeners[r.listener].port) (before := []) (after := []) rfl (by simp)
        ⟨.inr rfl, rfl⟩ up room
      rw [first, offerNotifications_none fun x mem => ?_]
      · rfl
      · obtain rfl := List.mem_singleton.1 mem
        exact not_dueAt_offered _ _ _ _
  · have expires := State.Expires.of_awaiting queue awaiting past oldest
    refine ⟨exec_retryTimerExpiry_lapse expires, fun left =>
      ⟨exec_retryTimerExpiry_retry expires left, fun closed => ?_⟩⟩
    rw [exec_retryTimerExpiry_retry expires left,
      offerNotifications_noRoom (s := s.withResendDue before after r) closed]
    rfl
  · refine ⟨rfl, ?_⟩
    rw [notificationFrame_eq, notificationBody, classByte_eq]
    simp only [List.append_assoc]
    cases r.stream <;> cases r.port <;> cases r.missed <;> rfl

end Sys2Proof.Machine
end

section
/-! SUPPORT. The requests of the event unit: the classes and the listener's values that the argument bytes carry
(Table 12-3), and what each effect leaves (R154 to R157, R162). -/

namespace Sys2Proof.Machine

/-! ### Class numbers (Table 10-1) -/

theorem number_injective : Function.Injective EventClass.number := by
  intro c d same
  have first : readClass (BitVec.ofNat 8 c.number.val) = some c := (readClass_eq_some _ c).2 rfl
  exact Option.some.inj (first.symm.trans ((readClass_eq_some _ d).2 (by rw [same])))

/-- A byte is read as the class whose number it carries. -/
theorem readClass_iff_number (b : Byte) (c : EventClass) : readClass b = some c ↔ b.toNat = c.number.val := by
  have small : c.number.val < 2 ^ 8 := Nat.lt_trans c.number.isLt (by decide)
  rw [readClass_eq_some, ← BitVec.toNat_inj, BitVec.toNat_ofNat, Nat.mod_eq_of_lt small]

/-- A list of classes is named where each byte carries the number of the class of its place. -/
theorem namedClasses_iff {r : Request} {place count : Nat} (carries : Carries r (place + count))
    (cs : List EventClass) :
    namedClasses r place count = some cs ↔ cs.length = count ∧
      ∀ (k : Nat) (c : EventClass), cs[k]? = some c → r.arg (place + k) = c.number.val := by
  rw [namedClasses, readAll_eq_some, counted_length carries]
  refine and_congr_right fun length => forall_congr' fun k => ?_
  simp only [readClass_iff_number]
  constructor
  · intro each c named
    exact each _ c (counted_byte carries (length ▸ (List.getElem?_eq_some_iff.1 named).1)) named
  · intro each x c byte named
    have inside : k < count := length ▸ (List.getElem?_eq_some_iff.1 named).1
    obtain rfl := Option.some.inj ((counted_byte carries inside).symm.trans byte)
    exact each c named

/-! ### The values of a listener (Table 10-2) -/

theorem namedListener_eq_some {n : Nat} {l : ListenerIx} : namedListener n = some l ↔ n = l.val := by
  unfold namedListener readIndex
  split
  · rw [Option.some_inj, Fin.ext_iff]
  · exact ⟨nofun, fun same => absurd (same ▸ l.isLt) ‹_›⟩

theorem carriedListener_eq_some {r : Request} {v : ListenerValues} :
    carriedListener r = some v ↔ r.arg 0 = v.listener.val ∧ byteAt r.args 1 = yesNo v.enabled ∧
      addrAt r.args 2 = v.addr ∧ isUnicast v.addr = true ∧ byteAt r.args 8 = BitVec.ofNat 8 v.port.index ∧
      (v.retryInterval = r.arg 9 ∧ 1 ≤ r.arg 9 ∧ r.arg 9 ≤ 255) ∧
      (v.retryLimit = r.arg 10 ∧ 0 ≤ r.arg 10 ∧ r.arg 10 ≤ 7) := by
  simp only [← namedListener_eq_some, ← readYesNo_eq_some, ← readPort_eq_some, ← readRange_eq_some]
  constructor
  · intro carried
    simp only [carriedListener, Option.bind_eq_bind, Option.bind_eq_some_iff] at carried
    obtain ⟨l, listener, e, enabled, carried⟩ := carried
    split at carried
    · next unicast =>
      simp only [Option.bind_eq_some_iff] at carried
      obtain ⟨_, -, p, port, i, interval, m, limit, same⟩ := carried
      cases same
      exact ⟨listener, enabled, rfl, unicast, port, interval, limit⟩
    · cases carried
  · rintro ⟨listener, enabled, addr, unicast, port, interval, limit⟩
    rw [carriedListener, listener, enabled, addr, unicast, port, interval, limit]
    rfl

/-- An address stands in six bytes, the highest first. -/
theorem addrAt_eq_iff {l : List Byte} {i : Nat} {a : StationAddr} :
    addrAt l i = a ↔ byteAt l i = a.extractLsb' 40 8 ∧ byteAt l (i + 1) = a.extractLsb' 32 8 ∧
      byteAt l (i + 2) = a.extractLsb' 24 8 ∧ byteAt l (i + 3) = a.extractLsb' 16 8 ∧
      byteAt l (i + 4) = a.extractLsb' 8 8 ∧ byteAt l (i + 5) = a.extractLsb' 0 8 := by
  have b0 := (byteAt l i).isLt
  have b1 := (byteAt l (i + 1)).isLt
  have b2 := (byteAt l (i + 2)).isLt
  have b3 := (byteAt l (i + 3)).isLt
  have b4 := (byteAt l (i + 4)).isLt
  have b5 := (byteAt l (i + 5)).isLt
  have small := a.isLt
  simp only [← BitVec.toNat_inj, addrAt, natAt, Nat.add_zero, BitVec.toNat_ofNat, BitVec.extractLsb'_toNat,
    Nat.shiftRight_eq_div_pow]
  omega

/-- The group bit of an address is the low bit of its first byte. -/
theorem isUnicast_addrAt (l : List Byte) (i : Nat) :
    isUnicast (addrAt l i) = true ↔ (byteAt l i).getLsbD 0 = false := by
  rw [(addrAt_eq_iff.1 rfl).1, isUnicast, BitVec.getLsbD_extractLsb']
  simp

theorem byte_eq_ofNat_iff {b : Byte} {n : Nat} (small : n < 256) : b = BitVec.ofNat 8 n ↔ b.toNat = n := by
  rw [← BitVec.toNat_inj, BitVec.toNat_ofNat, Nat.mod_eq_of_lt small]

/-- The eleven bytes of SET-LISTENER, with the address in the third to the eighth (Table 12-3). -/
theorem listenerBytes_iff {l : List Byte} (length : l.length = 11) (a : StationAddr)
    (listener enabled port interval limit : Byte) :
    l = [listener, enabled] ++ be48 a ++ [port, interval, limit] ↔ byteAt l 0 = listener ∧ byteAt l 1 = enabled ∧
      addrAt l 2 = a ∧ byteAt l 8 = port ∧ byteAt l 9 = interval ∧ byteAt l 10 = limit := by
  match l, length with
  | [b0, b1, b2, b3, b4, b5, b6, b7, b8, b9, b10], _ => simp [addrAt_eq_iff, be48, byteAt, and_assoc]

theorem carriedListener_iff_bytes {r : Request} (carries : Carries r 11) (v : ListenerValues) :
    carriedListener r = some v ↔
      r.args = [BitVec.ofNat 8 v.listener.val, yesNo v.enabled] ++ be48 v.addr ++
        [BitVec.ofNat 8 v.port.index, BitVec.ofNat 8 v.retryInterval, BitVec.ofNat 8 v.retryLimit] ∧
      (byteAt r.args 2).getLsbD 0 = false ∧ 1 ≤ v.retryInterval ∧ v.retryInterval ≤ 255 ∧ v.retryLimit ≤ 7 := by
  have listener : byteAt r.args 0 = BitVec.ofNat 8 v.listener.val ↔ r.arg 0 = v.listener.val :=
    byte_eq_ofNat_iff (Nat.lt_trans v.listener.isLt (by decide))
  rw [carriedListener_eq_some, listenerBytes_iff (args_length carries), listener, ← isUnicast_addrAt]
  constructor
  · rintro ⟨named, enabled, addr, unicast, port, ⟨interval, least, most⟩, limit, -, top⟩
    rw [← addr] at unicast
    exact ⟨⟨named, enabled, addr, port, (byte_eq_ofNat_iff (by omega)).2 interval.symm,
      (byte_eq_ofNat_iff (by omega)).2 limit.symm⟩, unicast, by omega, by omega, by omega⟩
  · rintro ⟨⟨named, enabled, addr, port, interval, limit⟩, unicast, least, most, top⟩
    have interval : r.arg 9 = v.retryInterval := (byte_eq_ofNat_iff (by omega)).1 interval
    have limit : r.arg 10 = v.retryLimit := (byte_eq_ofNat_iff (by omega)).1 limit
    rw [addr] at unicast
    exact ⟨named, enabled, addr, unicast, port, by omega, by omega⟩

/-! ### What the effects leave (R154, R156, R162) -/

/-- The settings of the classes of a list replaced, the others as they were. -/
theorem foldl_set_class (x : ClassSetting) (cs : List EventClass) (v : Vector ClassSetting 16) (c : EventClass) :
    (cs.foldl (fun v d => v.set d.number x) v)[c.number] = if c ∈ cs then x else v[c.number] := by
  induction cs generalizing v with
  | nil => rfl
  | cons d cs ih =>
    rw [List.foldl_cons, ih]
    by_cases same : c = d
    · subst same
      simp
    · have other : d.number.val ≠ c.number.val := fun eq => same (number_injective (Fin.ext eq)).symm
      simp [same, other]

/-- The bit of a class is set in its own flag only. -/
theorem flag_bit (c d : EventClass) : (1#16 <<< d.number.val).getLsbD c.number.val = decide (c = d) := by
  rw [← BitVec.twoPow_eq, BitVec.getLsbD_twoPow]
  simp only [d.number.isLt, decide_true, Bool.true_and, decide_eq_decide]
  exact ⟨fun same => number_injective (Fin.ext same.symm), fun same => same ▸ rfl⟩

theorem clearFlag_bit (flags : BitVec 16) (c d : EventClass) :
    (clearFlag flags d).getLsbD c.number.val = (flags.getLsbD c.number.val && !decide (c = d)) := by
  rw [clearFlag, BitVec.getLsbD_and, BitVec.getLsbD_not, flag_bit, decide_eq_true c.number.isLt, Bool.true_and]

theorem foldl_clearFlag_bit (cs : List EventClass) (flags : BitVec 16) (c : EventClass) :
    (cs.foldl clearFlag flags).getLsbD c.number.val = (flags.getLsbD c.number.val && !decide (c ∈ cs)) := by
  induction cs generalizing flags with
  | nil => simp
  | cons d cs ih => rw [List.foldl_cons, ih, clearFlag_bit, Bool.and_assoc]; simp

/-- Which records an acknowledgement takes: those of the listener, no longer UNSENT, at or before the number. -/
theorem acknowledged_eq (l : ListenerIx) (upTo : Half) : acknowledged l upTo = fun n =>
    decide (n.listener = l) && decide (n.state ≠ .unsent) && decide ((upTo - n.seq).toNat ≤ 32767) := by
  funext n
  have sent : (!n.isUnsent) = decide (n.state ≠ .unsent) := by
    unfold NotifRecord.isUnsent
    cases n.state <;> rfl
  rw [acknowledged, sent]

/-! ### The answers to the requests (R154 to R157, R162) -/

section
variable {s : State} {r : Request} {rest : List Request}

theorem setListenerEffect_eq {v : ListenerValues} (carried : carriedListener r = some v) (s : State) :
    setListenerEffect r s = .ok (s.setListener v) [BitVec.ofNat 8 (s.recordsOf v.listener)] := by
  rw [setListenerEffect, carried]

theorem exec_setListener_of_owner {v : ListenerValues} (taken : Takes s .setListener r rest)
    (carries : Carries r 11) (owns : s.ownsGate r = true) (carried : carriedListener r = some v) :
    exec .setListener s = .next (((s.entered rest).setListener v).conclude r .ok
      [BitVec.ofNat 8 (s.recordsOf v.listener)] false) :=
  congrArg _ (execute_of_owner (row := setListenerRow) taken carries owns (Option.isSome_of_eq_some carried)
    (setListenerEffect_eq carried _) rfl rfl)

theorem setNotifyEffect_eq {l : ListenerIx} {cs : List EventClass} (listener : r.arg 1 = l.val)
    (named : namedClasses r 3 (r.arg 2) = some cs) (s : State) :
    setNotifyEffect r s = .ok (s.setNotify { enabled := decide (r.arg 0 = 1), listener := l } cs) [] := by
  rw [setNotifyEffect, namedListener_eq_some.2 listener, named]

theorem exec_setNotify_of_owner {l : ListenerIx} {cs : List EventClass} (taken : Takes s .setNotify r rest)
    (carries : Carries r (3 + r.arg 2)) (owns : s.ownsGate r = true) (enable : r.arg 0 ≤ 1)
    (listener : r.arg 1 = l.val) (named : namedClasses r 3 (r.arg 2) = some cs) :
    exec .setNotify s = .next (((s.entered rest).setNotify
      { enabled := decide (r.arg 0 = 1), listener := l } cs).conclude r .ok [] false) := by
  have passes : setNotifyRow.Passes r := by
    refine ⟨bodyOk_of_carries carries (formCounted_of_length ((args_length carries).trans (by omega))), ?_, rfl⟩
    simp [setNotifyRow, setNotifyRanges, enable, listener, named]
  exact congrArg _ (passes.execute taken owns (setNotifyEffect_eq listener named _))

theorem clearFlagsEffect_eq {cs : List EventClass} (named : namedClasses r 1 (r.arg 0) = some cs) (s : State) :
    clearFlagsEffect r s = .ok (s.clearFlags cs) (be16 (s.clearFlags cs).events.flags) := by
  rw [clearFlagsEffect, named]

theorem exec_clearFlags_of_owner {cs : List EventClass} (taken : Takes s .clearFlags r rest)
    (carries : Carries r (1 + r.arg 0)) (owns : s.ownsGate r = true)
    (named : namedClasses r 1 (r.arg 0) = some cs) :
    exec .clearFlags s = .next (((s.entered rest).clearFlags cs).conclude r .ok
      (be16 ((s.entered rest).clearFlags cs).events.flags) false) := by
  have passes : clearFlagsRow.Passes r :=
    ⟨bodyOk_of_carries carries (formCounted_of_carries carries rfl), Option.isSome_of_eq_some named, rfl⟩
  exact congrArg _ (passes.execute taken owns (clearFlagsEffect_eq named _))

theorem raiseFlagEffect_eq {c : EventClass} (read : readClass (byteAt r.args 0) = some c) (s : State) :
    raiseFlagEffect r s = s.raiseTest c := by
  rw [raiseFlagEffect, read]

theorem exec_raiseFlag_of_owner {c : EventClass} (taken : Takes s .raiseFlag r rest) (carries : Carries r 1)
    (owns : s.ownsGate r = true) (named : r.arg 0 = c.number.val) :
    exec .raiseFlag s = .next (((s.entered rest).raise (occTest c)).conclude r .ok
      ([(s.testOutcome c).1] ++ be16 (s.testOutcome c).2 ++
        be16 ((s.entered rest).raise (occTest c)).events.flags) false) := by
  have read : readClass (byteAt r.args 0) = some c := (readClass_iff_number _ c).2 named
  exact congrArg _ (execute_of_owner (row := raiseFlagRow) taken carries owns (Option.isSome_of_eq_some read)
    (raiseFlagEffect_eq read _) rfl rfl)

/-- A class that is not enabled answers so whatever its listener (log 42). -/
theorem testOutcome_class_disabled {c : EventClass} (off : s.events.classes[c.number].enabled = false) :
    s.testOutcome c = (2#8, 0#16) := by
  simp only [State.testOutcome, off, Bool.not_false, if_true]

theorem testOutcome_listener_disabled {c : EventClass} (on : s.events.classes[c.number].enabled = true)
    (off : s.events.listeners[s.events.classes[c.number].listener].enabled = false) :
    s.testOutcome c = (3#8, 0#16) := by
  simp only [State.testOutcome, on, off, Bool.not_true, Bool.not_false, Bool.false_eq_true, if_true, if_false]

theorem testOutcome_notifies {c : EventClass} {l : ListenerIx} (h : s.Notifies c l) :
    s.testOutcome c =
      if s.events.queue.length < 32 then (0#8, s.events.listeners[l].nextSeq) else (1#8, 0#16) := by
  simp only [State.testOutcome, h.class_enabled, h.named, h.listener_enabled, Bool.not_true, Bool.false_eq_true,
    if_false]

section
variable {l : ListenerIx} (named : r.arg 0 = l.val)
include named

theorem ackNotifyEffect_notOwner (other : r.source ≠ s.events.listeners[l].addr) :
    ackNotifyEffect r s = .refuse s .notOwner [] := by
  rw [ackNotifyEffect, namedListener_eq_some.2 named]
  exact if_pos other

theorem ackNotifyEffect_state (same : r.source = s.events.listeners[l].addr)
    (off : s.events.listeners[l].enabled = false) : ackNotifyEffect r s = .refuse s .state [] := by
  rw [ackNotifyEffect, namedListener_eq_some.2 named]
  exact (if_neg (not_not.2 same)).trans (if_pos (by rw [off]; rfl))

theorem ackNotifyEffect_ok (same : r.source = s.events.listeners[l].addr)
    (on : s.events.listeners[l].enabled = true) :
    ackNotifyEffect r s = .ok (s.acknowledge l (halfAt r.args 1))
      [BitVec.ofNat 8 (s.events.queue.filter (acknowledged l (halfAt r.args 1))).length] := by
  rw [ackNotifyEffect, namedListener_eq_some.2 named]
  exact (if_neg (not_not.2 same)).trans (if_neg (by rw [on]; decide))

/-- ACK-NOTIFY needs no ownership: a listener of the table is answered by the effect (R162). -/
theorem exec_ackNotify_of_listener (taken : Takes s .ackNotify r rest) (carries : Carries r 3) {reply : Reply}
    (effect : ackNotifyEffect r (s.entered rest) = reply) :
    exec .ackNotify s = .next (reply.after.conclude r reply.status reply.result false) :=
  congrArg _ (execute_open (row := ackNotifyRow) taken carries (decide_eq_true (named ▸ l.isLt)) effect rfl rfl
    rfl)

end

end

end Sys2Proof.Machine
end

section
/-! PROOF. O53. -/

namespace Sys2Proof.Machine

/-- Settles O53: each request is answered by its row's effect, and the readers of the argument bytes say which values
and classes it carries. -/
theorem eventRequests : Obligations.EventRequests := by
  refine ⟨fun s r rest owns => ⟨fun v taken carries carried => ?_,
      fun l cs taken carries enable listener named => ?_, fun cs taken carries named => ?_⟩,
    fun s r rest c taken carries owns named => ?_, fun s r rest l taken carries named => ?_,
    fun r v carries => carriedListener_iff_bytes carries v,
    fun r place count cs carries => namedClasses_iff carries cs, rfl⟩
  · exact exec_setListener_of_owner taken carries owns carried
  · exact ⟨_, exec_setNotify_of_owner taken carries owns enable listener named, rfl,
      foldl_set_class _ cs s.events.classes⟩
  · exact ⟨_, exec_clearFlags_of_owner taken carries owns named, rfl, foldl_clearFlag_bit cs s.events.flags⟩
  · refine ⟨_, (s.testOutcome c).1, (s.testOutcome c).2, rfl,
      exec_raiseFlag_of_owner taken carries owns named, raise_sets_flag _ (occTest c), fun off => ?_,
      fun on off => ?_, fun on listens => ?_⟩
    · rw [testOutcome_class_disabled off]
      exact ⟨rfl, rfl⟩
    · rw [testOutcome_listener_disabled on off]
      exact ⟨rfl, rfl⟩
    · rw [testOutcome_notifies ⟨on, rfl, listens⟩]
      refine ⟨fun room => ?_, fun full => ?_⟩
      · rw [if_pos room]
        exact ⟨rfl, rfl⟩
      · rw [if_neg (Nat.not_lt.2 full)]
        exact ⟨rfl, rfl⟩
  · refine ⟨fun other => ?_, fun same off => ?_, fun same on => ?_⟩
    · exact exec_ackNotify_of_listener named taken carries
        (ackNotifyEffect_notOwner (s := s.entered rest) named other)
    · exact exec_ackNotify_of_listener named taken carries
        (ackNotifyEffect_state (s := s.entered rest) named same off)
    · rw [← acknowledged_eq]
      exact exec_ackNotify_of_listener named taken carries
        (ackNotifyEffect_ok (s := s.entered rest) named same on)

end Sys2Proof.Machine
end

section
/-! PROOF. O34: what an expired lease leaves at the agent, the event unit and the staging controller. -/

namespace Sys2Proof.Machine

/-! ### The expiry of a lease (R171, R125) -/

section
variable {s : State} {o : Owner}

/-- The ownership record empty and LEASE raised, before the staging controller takes the expiry. -/
def State.leaseEmptied (s : State) : State := (s.setAgent { s.agent with owner := none }).raise occLease

theorem exec_leaseExpiry_due (owner : s.agent.owner = some o) (past : o.expiry ≤ s.base) :
    exec .leaseExpiry s = .next (s.leaseEmptied.stagingLeaseExpiry o.holder) := by
  show execLeaseExpiry s = _
  rw [execLeaseExpiry, owner]
  exact congrArg _ (if_pos past)

theorem leaseEmptied_staging (s : State) : s.leaseEmptied.staging = s.staging := raise_staging _ _

theorem leaseEmptied_agent (s : State) : s.leaseEmptied.agent = { s.agent with owner := none } := raise_agent _ _

theorem leaseEmptied_flag (s : State) : s.leaseEmptied.events.flags.getLsbD 10 = true := raise_sets_flag _ occLease

/-- A restage leaves the event unit alone, and a withdrawal only adds to the flags. -/
theorem stagingLeaseExpiry_keeps_flag {n : Nat} (set : s.events.flags.getLsbD n = true) (a : StationAddr) :
    (s.stagingLeaseExpiry a).events.flags.getLsbD n = true := by
  have restaged (t : State) (why : RestageReason) : (t.beginRestage why).events = t.events :=
    (beginRestage_within t why).events rfl
  unfold State.stagingLeaseExpiry
  split
  · rw [restaged]
    exact set
  · split
    · split
      · rw [restaged]
        exact raise_keeps_flag _ _ n set
      · exact set
    · exact set
  · exact set

theorem stagingLeaseExpiry_ready (ready : s.staging.state = .ready) (a : StationAddr) :
    s.stagingLeaseExpiry a = s.beginRestage .lease := by
  rw [State.stagingLeaseExpiry, ready]

theorem stagingLeaseExpiry_restaging (restaging : s.staging.state = .restaging) (a : StationAddr) :
    s.stagingLeaseExpiry a = s := by
  rw [State.stagingLeaseExpiry, restaging]

theorem stagingLeaseExpiry_owned {c : PendingCommit} {a : StationAddr} (pending : s.staging.state = .pending)
    (commit : s.staging.commit = some c) (owned : c.owner = some a) :
    s.stagingLeaseExpiry a = (s.withdrawCommit 0x0202#16).beginRestage .lease := by
  rw [State.stagingLeaseExpiry, pending, commit]
  exact if_pos owned

theorem stagingLeaseExpiry_other {c : PendingCommit} {a : StationAddr} (pending : s.staging.state = .pending)
    (commit : s.staging.commit = some c) (other : c.owner ≠ some a) : s.stagingLeaseExpiry a = s := by
  rw [State.stagingLeaseExpiry, pending, commit]
  exact if_neg other

/-- A revert restage that begins leaves RESTAGING, its reason and no dirty mark. -/
theorem beginRestage_lease (idle : s.staging.state ≠ .restaging) :
    (s.beginRestage .lease).staging.state = .restaging ∧ (s.beginRestage .lease).staging.reason = some .lease ∧
    (s.beginRestage .lease).staging.commit = s.staging.commit ∧
    ∀ i : StreamIx, (s.beginRestage .lease).staging.dirty[i] = false := by
  rw [beginRestage_starts idle]
  exact ⟨rfl, rfl, rfl, fun i => Vector.getElem_replicate i.isLt⟩

end

/-- Settles O34, by the staging state that the expiry meets and by whose the pending commit is. -/
theorem leaseExpiryEndsOwnership : Obligations.LeaseExpiryEndsOwnership := by
  refine ⟨fun s o owner past => ⟨_, exec_leaseExpiry_due owner past, ?_, ?_, fun ready => ?_,
    fun c pending commit owned => ?_, fun c pending commit other => ?_, fun restaging => ?_⟩,
    fun s o owner past => ?_⟩
  · exact ((stagingLeaseExpiry_within _ _).agent rfl).trans (leaseEmptied_agent s)
  · exact stagingLeaseExpiry_keeps_flag (leaseEmptied_flag s) _
  · have state : s.leaseEmptied.staging.state = .ready := by rw [leaseEmptied_staging, ready]
    rw [stagingLeaseExpiry_ready state]
    obtain ⟨restaging, reason, -, clean⟩ := beginRestage_lease (s := s.leaseEmptied) (by rw [state]; decide)
    exact ⟨restaging, reason, clean⟩
  · rw [← leaseEmptied_staging s] at pending commit
    obtain ⟨staging, -, -, -, flag⟩ := withdrawCommit_leaves s.leaseEmptied 0x0202#16
    rw [stagingLeaseExpiry_owned pending commit owned]
    obtain ⟨restaging, reason, absent, -⟩ :=
      beginRestage_lease (s := s.leaseEmptied.withdrawCommit 0x0202#16) (by simp [staging])
    refine ⟨restaging, reason, absent.trans (by rw [staging]), ?_⟩
    rw [(beginRestage_within _ _).events rfl]
    exact flag
  · rw [← leaseEmptied_staging s] at pending commit ⊢
    rw [stagingLeaseExpiry_other pending commit other]
  · rw [← leaseEmptied_staging s] at restaging ⊢
    rw [stagingLeaseExpiry_restaging restaging]
  · rw [exec_leaseExpiry_due owner past]
    simp only [← leaseEmptied_staging s]
    refine ⟨fun ready => ?_, fun c pending commit owned => ?_, fun c pending commit other => ?_,
      fun restaging => ?_⟩
    · rw [stagingLeaseExpiry_ready ready]
      rfl
    · rw [stagingLeaseExpiry_owned pending commit owned]
      rfl
    · rw [stagingLeaseExpiry_other pending commit other]
      rfl
    · rw [stagingLeaseExpiry_restaging restaging]
      rfl

end Sys2Proof.Machine
end

section
/-! PROOF. O37: the answer in the reply cache, at the arrival port and on the wire. -/

namespace Sys2Proof.Machine

/-! ### A response offered to the management queue (R143, R167) -/

section
variable {s : State} {p : Port}

theorem offerResponse_taken (up : s.link p = .up) (room : (s.egress.get p).mgmt.length < 4) (f : List Byte)
    (restarts : Bool) :
    s.offerResponse p f restarts = s.updateEgress p (fun e => { e with
      mgmt := e.mgmt ++ [.response f restarts], selectDue := true }) :=
  if_pos (mgmtRoom_iff.2 ⟨up, room⟩)

/-- A drop is counted, and a dropped RESTART response handed over as failed. -/
theorem offerResponse_dropped (full : s.link p = .down ∨ 4 ≤ (s.egress.get p).mgmt.length) (f : List Byte)
    (restarts : Bool) :
    s.offerResponse p f restarts =
      (s.countPort p (fun c => { c with managementDrops := c.managementDrops + 1#32 })).setAgent { s.agent with
        restartWait := s.agent.restartWait.map (fun w => w.met restarts) } :=
  (if_neg (not_mgmtRoom_iff.2 full)).trans (restartFailed_if _ restarts)

theorem map_met_false (w : Option RestartWait) : w.map (fun w => w.met false) = w := by
  simp [RestartWait.met]

/-- A response that is not RESTART's leaves the agent alone, taken or dropped. -/
theorem offerResponse_agent (s : State) (p : Port) (f : List Byte) :
    (s.offerResponse p f false).agent = s.agent := by
  by_cases room : s.mgmtRoom p = true
  · obtain ⟨up, room⟩ := mgmtRoom_iff.1 room
    rw [offerResponse_taken up room]
    rfl
  · rw [offerResponse_dropped (not_mgmtRoom_iff.1 room), setAgent_agent, map_met_false]

theorem offerResponse_other_port {q : Port} (other : q ≠ p) (f : List Byte) (restarts : Bool) :
    (s.offerResponse p f restarts).egress.get q = s.egress.get q ∧
    (s.offerResponse p f restarts).ports.get q = s.ports.get q := by
  by_cases room : s.mgmtRoom p = true
  · obtain ⟨up, room⟩ := mgmtRoom_iff.1 room
    rw [offerResponse_taken up room]
    exact ⟨perPort_get_set_other _ other _, rfl⟩
  · rw [offerResponse_dropped (not_mgmtRoom_iff.1 room)]
    exact ⟨rfl, perPort_get_set_other _ other _⟩

end

/-! ### The end of an execution (R167, R168) -/

section
variable {s : State} {r : Request}

/-- A response in the reply cache, before it is offered. -/
def State.stored (s : State) (r : Request) (frame : List Byte) : State :=
  s.setAgent { s.agent with
    cache := storeReply s.agent.cache { addr := r.source, tag := r.tag, response := frame } }

/-- The frame that answers a request. -/
def State.answerFrame (s : State) (r : Request) (st : Status) (res : List Byte) : List Byte :=
  s.responseFrame r.source (halfAt r.body 0) r.tag st res

theorem conclude_eq (s : State) (r : Request) (st : Status) (res : List Byte) (restarts : Bool) :
    s.conclude r st res restarts =
      ((s.stored r (s.answerFrame r st res)).offerResponse r.port (s.answerFrame r st res) restarts).draw 64 := rfl

theorem conclude_taken (up : s.link r.port = .up) (room : (s.egress.get r.port).mgmt.length < 4) (st : Status)
    (res : List Byte) (restarts : Bool) :
    s.conclude r st res restarts =
      ((s.stored r (s.answerFrame r st res)).updateEgress r.port (fun e => { e with
        mgmt := e.mgmt ++ [.response (s.answerFrame r st res) restarts], selectDue := true })).draw 64 := by
  rw [conclude_eq, offerResponse_taken (s := s.stored r _) up room]

theorem conclude_dropped (full : s.link r.port = .down ∨ 4 ≤ (s.egress.get r.port).mgmt.length) (st : Status)
    (res : List Byte) (restarts : Bool) :
    s.conclude r st res restarts =
      (((s.stored r (s.answerFrame r st res)).countPort r.port (fun c => { c with
        managementDrops := c.managementDrops + 1#32 })).setAgent { (s.stored r (s.answerFrame r st res)).agent with
          restartWait := s.agent.restartWait.map (fun w => w.met restarts) }).draw 64 := by
  rw [conclude_eq, offerResponse_dropped (s := s.stored r _) full]
  rfl

theorem conclude_agent (s : State) (r : Request) (st : Status) (res : List Byte) :
    (s.conclude r st res false).agent = (s.stored r (s.answerFrame r st res)).agent :=
  offerResponse_agent _ _ _

theorem conclude_other_port {q : Port} (other : q ≠ r.port) (st : Status) (res : List Byte) (restarts : Bool) :
    (s.conclude r st res restarts).egress.get q = s.egress.get q ∧
    (s.conclude r st res restarts).ports.get q = s.ports.get q :=
  offerResponse_other_port (s := s.stored r (s.answerFrame r st res)) other _ restarts

/-! ### The bytes of a response (R182, section 12.4) -/

/-- 22 bytes of headers and 7 in front of the result, padded to 60. -/
theorem responseFrame_eq (s : State) (dest : StationAddr) (code tag : Half) (st : Status) (res : List Byte) :
    let content := be48 dest ++ be48 s.stationAddr ++ [0x88#8, 0xB5#8, 0x13#8, 0#8, 0#8, 0#8] ++
      be16 (BitVec.ofNat 16 (7 + res.length)) ++ be16 (s.timer.cycleCount.setWidth 16) ++ be16 code ++ be16 tag ++
      [statusByte st] ++ be16 (BitVec.ofNat 16 res.length) ++ res
    s.responseFrame dest code tag st res = withFcs (content ++ List.replicate (60 - content.length) 0#8) := by
  have length : (be16 code ++ be16 tag ++ [statusByte st] ++ be16 (BitVec.ofNat 16 res.length) ++ res).length =
      7 + res.length := by
    simp only [List.length_append]
    rfl
  rw [State.responseFrame, State.gateFrame, padded, length]
  rfl

end

/-- Settles O37: the offer by whether the arrival port has room, then the bytes of the frame. -/
theorem answerStoresAndOffersResponse : Obligations.AnswerStoresAndOffersResponse := by
  refine ⟨fun s r st res => ⟨?_, fun up room => ?_, fun full => ?_, fun q other => ?_, ?_, ?_⟩,
    fun s r st res restarts => ⟨fun up room => ⟨64, conclude_taken up room st res restarts⟩,
      fun full => ⟨64, conclude_dropped full st res restarts⟩⟩,
    fun s dest code tag st res => ?_⟩
  · exact congrArg Agent.cache (conclude_agent s r st res)
  · rw [conclude_taken up room]
    exact ⟨congrArg Egress.mgmt (perPort_get_set_same _ _ _), rfl⟩
  · rw [conclude_dropped full]
    exact ⟨rfl, congrArg PortUnit.counters (perPort_get_set_same _ _ _)⟩
  · exact conclude_other_port other st res false
  · rw [conclude_agent]
    rfl
  · exact conclude_within s r st res false
  · rw [responseFrame_eq]
    cases st <;> rfl

end Sys2Proof.Machine
end

section
/-! PROOF. O38 and O41: requests that never reach their row's effect, and the counters read and cleared. -/

namespace Sys2Proof.Machine

/-! ### Steps 1 and 2 (R167, R168, R180) -/

/-- A body too short for a request code and a tag is one of no request (R180). -/
theorem command_unreadable {r : Request} (short : r.body.length < 4) : r.command = .unknownRequest := if_pos short

/-- Step 1 answers a request whose header is not readable. -/
theorem agentExecutes_unreadable {s : State} {c : Instr} {r : Request} {rest : List Request}
    (wait : s.agent.restartWait = none) (head : s.agent.intake = r :: rest) (row : r.command = c)
    (short : r.body.length < 4) (k : Request → State → State) :
    s.agentExecutes c k = (s.tookRequest rest).answerUnreadable r := by
  unfold State.agentExecutes
  rw [wait, head]
  exact (if_pos row).trans (if_pos short)

/-- Settles O38: step 2, step 1, and step 3 of a code that names no request. -/
theorem cachedUnknownAndUnreadableRequests : Obligations.CachedUnknownAndUnreadableRequests := by
  refine ⟨fun c s r rest e mem wait head row readable hit => ?_, fun s r rest => ⟨fun wait head short => ?_,
    fun taken => congrArg _ (agentExecutes_step3 taken answerUnknown)⟩⟩
  · obtain ⟨k, runs⟩ := exec_is_agentExecutes c mem
    rw [runs, agentExecutes_cached wait head row readable hit]
    rfl
  · exact congrArg _ (agentExecutes_unreadable wait head (command_unreadable short) short answerUnknown)

/-! ### READ-COUNTERS (R175) -/

section
variable {s : State} {r : Request} {rest : List Request}

/-- The two argument bytes that head the result name the object and its index. -/
theorem args_head {a b : Nat} (carries : Carries r 3) (object : r.arg 0 = a) (index : r.arg 1 = b) :
    r.args.take 2 = [BitVec.ofNat 8 a, BitVec.ofNat 8 b] := by
  have length := args_length carries
  subst object index
  match args : r.args, length with
  | [x, y, z], _ => simp [Request.arg, args, byteAt]

theorem port_numbered_index (p : Port) : Port.numbered p.index = p := by cases p <;> rfl

theorem port_index_lt (p : Port) : p.index < 4 := by cases p <;> decide

theorem countersResult_stream {i : StreamIx} (carries : Carries r 3) (object : r.arg 0 = 0)
    (index : r.arg 1 = i.val) (s : State) :
    s.countersResult r = [0#8, BitVec.ofNat 8 i.val] ++ streamCounterBytes s.streams[i].counters := by
  rw [State.countersResult, args_head carries object index, if_pos object, streamArg_val index]

theorem countersResult_port {p : Port} (carries : Carries r 3) (object : r.arg 0 = 1)
    (index : r.arg 1 = p.index) (s : State) :
    s.countersResult r = [1#8, BitVec.ofNat 8 p.index] ++ portCounterBytes (s.ports.get p).counters := by
  rw [State.countersResult, args_head carries object index, if_neg (by omega), index, port_numbered_index]

theorem zeroCounters_stream {i : StreamIx} (object : r.arg 0 = 0) (index : r.arg 1 = i.val) (s : State) :
    s.zeroCounters r = s.updateStream i (fun x => { x with counters := .zero }) := by
  rw [State.zeroCounters, if_pos object, streamArg_val index]
  rfl

theorem zeroCounters_port {p : Port} (object : r.arg 0 = 1) (index : r.arg 1 = p.index) (s : State) :
    s.zeroCounters r = s.updatePort p (fun u => { u with counters := .zero }) := by
  rw [State.zeroCounters, if_neg (by omega), index, port_numbered_index]
  rfl

theorem readCountersRanges_iff (r : Request) :
    readCountersRanges r = true ↔ r.arg 0 ≤ 1 ∧ (r.arg 1 < if r.arg 0 = 0 then 128 else 4) ∧ r.arg 2 ≤ 1 := by
  simp [readCountersRanges, and_assoc]

theorem readCountersRanges_stream {i : StreamIx} (object : r.arg 0 = 0) (index : r.arg 1 = i.val)
    (clear : r.arg 2 ≤ 1) : readCountersRanges r = true :=
  (readCountersRanges_iff r).2 ⟨by omega, by rw [if_pos object, index]; exact i.isLt, clear⟩

theorem readCountersRanges_port {p : Port} (object : r.arg 0 = 1) (index : r.arg 1 = p.index)
    (clear : r.arg 2 ≤ 1) : readCountersRanges r = true :=
  (readCountersRanges_iff r).2 ⟨by omega, by rw [if_neg (by omega), index]; exact port_index_lt p, clear⟩

theorem exec_readCounters_in_range {res : List Byte} (taken : Takes s .readCounters r rest)
    (carries : Carries r 3) (ranges : readCountersRanges r = true)
    (result : (s.entered rest).countersResult r = res) :
    exec .readCounters s = .next ((s.entered rest).conclude r .ok res false) :=
  congrArg _ (execute_open (row := readCountersRow) taken carries ranges (congrArg (Reply.ok _) result) rfl rfl rfl)

/-- The result is read before the counters are zeroed. -/
theorem exec_readCountersClear_of_owner {t : State} {res : List Byte} (taken : Takes s .readCountersClear r rest)
    (carries : Carries r 3) (owns : s.ownsGate r = true) (ranges : readCountersRanges r = true)
    (zeroed : (s.entered rest).zeroCounters r = t) (result : (s.entered rest).countersResult r = res) :
    exec .readCountersClear s = .next (t.conclude r .ok res false) :=
  congrArg _ (execute_of_owner (row := readCountersClearRow) taken carries owns ranges
    (congrArg₂ Reply.ok zeroed result) rfl rfl)

end

/-- Settles O41, by the object named and by the clear byte. -/
theorem counterReadsAndClears : Obligations.CounterReadsAndClears := by
  refine fun s r rest carries => ⟨fun i object index => ⟨fun taken clear => ?_, fun taken clear owns => ?_⟩,
    fun p object index => ⟨fun taken clear => ?_, fun taken clear owns => ?_⟩⟩
  · exact exec_readCounters_in_range taken carries (readCountersRanges_stream object index (by omega))
      (countersResult_stream carries object index _)
  · exact exec_readCountersClear_of_owner taken carries owns (readCountersRanges_stream object index (by omega))
      (zeroCounters_stream object index _) (countersResult_stream carries object index _)
  · exact exec_readCounters_in_range taken carries (readCountersRanges_port object index (by omega))
      (countersResult_port carries object index _)
  · exact exec_readCountersClear_of_owner taken carries owns (readCountersRanges_port object index (by omega))
      (zeroCounters_port object index _) (countersResult_port carries object index _)

end Sys2Proof.Machine
end

section
/-! PROOF. O43: ownership granted, renewed, refused and given up. -/

namespace Sys2Proof.Machine

/-! ### CLAIM and YIELD (R169, R170) -/

section
variable {s : State} {r : Request} {rest : List Request}

/-- A request owns the gate where the record names its source and its token (R170). -/
theorem ownsGate_of_owner {o : Owner} (owner : s.agent.owner = some o) :
    s.ownsGate r = true ↔ o.holder = r.source ∧ o.token = r.token := by
  rw [State.ownsGate, owner]
  simp

theorem claimEffect_granted (free : s.agent.owner = none ∨ s.ownsGate r = true) :
    claimEffect r s = .ok (s.grant r) [] := by
  unfold claimEffect
  cases owner : s.agent.owner with
  | none => rfl
  | some o => exact if_pos (free.resolve_left (by simp [owner]))

theorem claimEffect_owned {o : Owner} (owner : s.agent.owner = some o)
    (other : o.holder ≠ r.source ∨ o.token ≠ r.token) :
    claimEffect r s = .refuse s .owned (s.holderBytes o) := by
  rw [claimEffect, owner]
  refine if_neg fun owns => ?_
  obtain ⟨holder, token⟩ := (ownsGate_of_owner owner).1 owns
  exact other.elim (absurd holder) (absurd token)

theorem exec_claim_in_range {reply : Reply} (taken : Takes s .claim r rest) (carries : Carries r 2)
    (least : 100 ≤ natAt r.args 0 2) (most : natAt r.args 0 2 ≤ 60000)
    (answer : claimEffect r (s.entered rest) = reply) :
    exec .claim s = .next (reply.after.conclude r reply.status reply.result false) :=
  congrArg _ (execute_open (row := claimRow) taken carries (decide_eq_true ⟨least, most⟩) answer rfl rfl rfl)

theorem exec_claim_range (taken : Takes s .claim r rest) (carries : Carries r 2)
    (outside : natAt r.args 0 2 < 100 ∨ 60000 < natAt r.args 0 2) :
    exec .claim s = .next ((s.entered rest).conclude r .range [] false) :=
  congrArg _ (execute_range (row := claimRow) taken
    (bodyOk_of_carries carries (formBytes_of_carries carries)) (fun unowned => Bool.noConfusion unowned)
    (decide_eq_false fun ⟨least, most⟩ => by
      have : claimLease r = natAt r.args 0 2 := rfl
      omega))

/-- A yield makes the owner field of a pending commit absent (R118). -/
theorem stagingYield_eq (s : State) :
    s.stagingYield = s.setStaging { s.staging with
      commit := s.staging.commit.map (fun c => { c with owner := none }) } := by
  unfold State.stagingYield
  cases commit : s.staging.commit with
  | some c => rfl
  | none => exact congrArg (fun c => s.setStaging { s.staging with commit := c }) commit

end

/-- Settles O43: a claim by who holds the gate and by its lease, and the yield of the owner. -/
theorem claimAndYieldMoveOwnership : Obligations.ClaimAndYieldMoveOwnership := by
  refine ⟨fun s r rest taken carries => ⟨fun least most free => ?_, fun o least most owner other => ?_,
    fun outside => exec_claim_range taken carries outside⟩, fun s r rest taken carries owns => ?_⟩
  · exact exec_claim_in_range taken carries least most (claimEffect_granted (s := s.entered rest) free)
  · exact exec_claim_in_range taken carries least most (claimEffect_owned (s := s.entered rest) owner other)
  · exact congrArg _ (execute_of_owner (row := yieldRow) taken carries owns rfl
      (congrArg (Reply.ok · []) (stagingYield_eq _)) rfl rfl)

end Sys2Proof.Machine
end

section
/-! PROOF. O52: the live values in force, LINE judged by them and the wait judged again. -/

namespace Sys2Proof.Machine

/-! ### LINE judged against new line values (R93, R94) -/

section
variable {s : State} {enable : Bool} {lm : LineMode} {rm : ReleaseMode}

/-- The three live values of the quench unit in place, before LINE is judged. -/
def State.livePlaced (s : State) (enable : Bool) (lm : LineMode) (rm : ReleaseMode) : State :=
  s.setQuench { s.quench with lineEnable := enable, lineMode := lm, releaseMode := rm }

/-- A judgement of LINE leaves the live values and the level. -/
theorem judgeLine_modes (s : State) :
    s.judgeLine.quench.lineEnable = s.quench.lineEnable ∧ s.judgeLine.quench.lineMode = s.quench.lineMode ∧
    s.judgeLine.quench.releaseMode = s.quench.releaseMode ∧ s.judgeLine.quench.level = s.quench.level := by
  unfold State.judgeLine
  split
  · exact addCause_modes s .line
  · split
    · exact removeCauses_modes s [.line]
    · exact ⟨rfl, rfl, rfl, rfl⟩

theorem judgeLine_timer (s : State) : s.judgeLine.timer = s.timer := (judgeLine_within s).timer rfl

theorem livePlaced_active_iff :
    (s.livePlaced enable lm rm).quench.lineActive = true ↔ s.quench.level = .asserted ∧ enable = true := by
  rw [Quench.lineActive, Bool.and_eq_true, decide_eq_true_iff]
  rfl

theorem livePlaced_inactive (off : s.quench.level = .deasserted ∨ enable = false) :
    (s.livePlaced enable lm rm).quench.lineActive = false := by
  rcases off with level | disabled
  · simp [State.livePlaced, Quench.lineActive, level]
  · simp [State.livePlaced, Quench.lineActive, disabled]

theorem judgeLine_livePlaced (s : State) (enable : Bool) (lm : LineMode) (rm : ReleaseMode) :
    (s.livePlaced enable lm rm).judgeLine =
      if s.quench.level = .asserted ∧ enable = true then (s.livePlaced enable lm rm).addCause .line
      else match lm with
        | .auto => (s.livePlaced enable lm rm).removeCauses [.line]
        | .latched => s.livePlaced enable lm rm := by
  unfold State.judgeLine
  simp only [livePlaced_active_iff]
  split
  · rfl
  · cases lm <;> rfl

/-! ### The wait judged again (R101) -/

theorem rejudgeWait_waits {w : ReleaseWait} (row : s.releaseRow = .inl w) :
    s.rejudgeWait = s.setQuench { s.quench with wait := some w } := by
  rw [State.rejudgeWait, row]

theorem rejudgeWait_settles {code : Half} (row : s.releaseRow = .inr code) :
    s.rejudgeWait = s.quenchFalls 7#16 := by
  rw [State.rejudgeWait, row]

/-- A wait judged again leaves the causes, the live values and the level. -/
theorem rejudgeWait_keeps (s : State) :
    s.rejudgeWait.quench.causes = s.quench.causes ∧ s.rejudgeWait.quench.lineEnable = s.quench.lineEnable ∧
    s.rejudgeWait.quench.lineMode = s.quench.lineMode ∧
    s.rejudgeWait.quench.releaseMode = s.quench.releaseMode ∧
    s.rejudgeWait.quench.level = s.quench.level := by
  unfold State.rejudgeWait
  split
  · exact ⟨rfl, rfl, rfl, rfl, rfl⟩
  · rw [quenchFalls_quench]
    exact ⟨rfl, rfl, rfl, rfl, rfl⟩

/-! ### The live values taking effect (R101) -/

/-- The wait is left alone where the unit was not RELEASING, is so no more, or keeps its release mode. -/
theorem applyLive_judged (same : s.quench.unit ≠ .releasing ∨
      (s.livePlaced enable lm rm).judgeLine.quench.unit ≠ .releasing ∨ s.quench.releaseMode = rm) :
    s.applyLive enable lm rm = (s.livePlaced enable lm rm).judgeLine := by
  refine if_neg fun ⟨before, after, changed⟩ => ?_
  exact same.elim (absurd before) fun same => same.elim (absurd after) fun kept => changed kept

theorem applyLive_rejudged (before : s.quench.unit = .releasing)
    (after : (s.livePlaced enable lm rm).judgeLine.quench.unit = .releasing) (changed : s.quench.releaseMode ≠ rm) :
    s.applyLive enable lm rm = (s.livePlaced enable lm rm).judgeLine.rejudgeWait :=
  if_pos ⟨before, after, changed⟩

theorem applyLive_quench (s : State) (enable : Bool) (lm : LineMode) (rm : ReleaseMode) :
    (s.applyLive enable lm rm).quench.causes = (s.livePlaced enable lm rm).judgeLine.quench.causes ∧
    (s.applyLive enable lm rm).quench.lineEnable = enable ∧ (s.applyLive enable lm rm).quench.lineMode = lm ∧
    (s.applyLive enable lm rm).quench.releaseMode = rm ∧
    (s.applyLive enable lm rm).quench.level = s.quench.level := by
  obtain ⟨enabled, line, release, level⟩ := judgeLine_modes (s.livePlaced enable lm rm)
  unfold State.applyLive
  dsimp only
  split
  · obtain ⟨causes, enabled', line', release', level'⟩ :=
      rejudgeWait_keeps (s.livePlaced enable lm rm).judgeLine
    exact ⟨causes, enabled'.trans enabled, line'.trans line, release'.trans release, level'.trans level⟩
  · exact ⟨rfl, enabled, line, release, level⟩

/-- LINE is present after new values under which an asserted line counts. -/
theorem applyLive_line_added (level : s.quench.level = .asserted) (enabled : enable = true) :
    (s.applyLive enable lm rm).quench.causes.line = true := by
  rw [(applyLive_quench s enable lm rm).1,
    judgeLine_active (s := s.livePlaced enable lm rm) level enabled, addCause_causes]
  rfl

theorem applyLive_line_gone (mode : lm = .auto) (off : s.quench.level = .deasserted ∨ enable = false) :
    (s.applyLive enable lm rm).quench.causes.line = false := by
  rw [(applyLive_quench s enable lm rm).1,
    judgeLine_auto_causes (s := s.livePlaced enable lm rm) (livePlaced_inactive off) mode]

theorem applyLive_latched (mode : lm = .latched) (off : s.quench.level = .deasserted ∨ enable = false) :
    (s.applyLive enable lm rm).quench.causes = s.quench.causes := by
  rw [(applyLive_quench s enable lm rm).1,
    judgeLine_latched (s := s.livePlaced enable lm rm) (livePlaced_inactive off) mode]
  rfl

/-- A release after the values are in place goes by the new mode. -/
theorem judged_releaseMode (s : State) (enable : Bool) (lm : LineMode) (rm : ReleaseMode) :
    (s.livePlaced enable lm rm).judgeLine.quench.releaseMode = rm :=
  (judgeLine_modes (s.livePlaced enable lm rm)).2.2.1

theorem judged_timer (s : State) (enable : Bool) (lm : LineMode) (rm : ReleaseMode) :
    (s.livePlaced enable lm rm).judgeLine.timer = s.timer := judgeLine_timer _

end

/-! ### SET-LIVE (R176) -/

section
variable {s : State} {r : Request} {rest : List Request} {v : LiveValues}

theorem fourBytes_iff {l : List Byte} (length : l.length = 4) (a b c d : Byte) :
    l = [a, b, c, d] ↔ byteAt l 0 = a ∧ byteAt l 1 = b ∧ byteAt l 2 = c ∧ byteAt l 3 = d := by
  match l, length with
  | [w, x, y, z], _ => simp [byteAt]

theorem carriedLive_eq_some :
    carriedLive r = some v ↔ byteAt r.args 0 = yesNo v.enable ∧ byteAt r.args 1 = lineModeByte v.lineMode ∧
      byteAt r.args 2 = releaseModeByte v.releaseMode ∧ byteAt r.args 3 = v.ports.setWidth 8 := by
  simp only [← readYesNo_eq_some, ← readLineMode_eq_some, ← readReleaseMode_eq_some, ← readMask_eq_some]
  constructor
  · intro carried
    simp only [carriedLive, Option.bind_eq_bind, Option.bind_eq_some_iff] at carried
    obtain ⟨_, enable, _, line, _, release, _, ports, same⟩ := carried
    cases same
    exact ⟨enable, line, release, ports⟩
  · rintro ⟨enable, line, release, ports⟩
    rw [carriedLive, enable, line, release, ports]
    rfl

theorem carriedLive_iff_bytes (carries : Carries r 4) :
    carriedLive r = some v ↔ r.args = [yesNo v.enable, lineModeByte v.lineMode, releaseModeByte v.releaseMode,
      v.ports.setWidth 8] := by
  rw [carriedLive_eq_some, fourBytes_iff (args_length carries)]

theorem setLiveRanges_eq (carried : carriedLive r = some v) :
    setLiveRanges r = v.ports.getLsbD r.port.index := by
  rw [setLiveRanges, carried]
  rfl

theorem exec_setLive_of_owner (taken : Takes s .setLive r rest) (carries : Carries r 4)
    (owns : s.ownsGate r = true) (carried : carriedLive r = some v)
    (arrival : v.ports.getLsbD r.port.index = true) :
    exec .setLive s = .next (((s.entered rest).setLive v).conclude r .ok
      (r.args ++ ((s.entered rest).setLive v).quenchResult) false) := by
  have effect : setLiveEffect r (s.entered rest) =
      .ok ((s.entered rest).setLive v) (r.args ++ ((s.entered rest).setLive v).quenchResult) := by
    rw [setLiveEffect, carried, ← args_length carries, List.take_length]
  exact congrArg _ (execute_of_owner (row := setLiveRow) taken carries owns
    ((setLiveRanges_eq carried).trans arrival) effect rfl rfl)

theorem exec_setLive_range (taken : Takes s .setLive r rest) (carries : Carries r 4)
    (owns : s.ownsGate r = true) (carried : carriedLive r = some v)
    (elsewhere : v.ports.getLsbD r.port.index = false) :
    exec .setLive s = .next ((s.entered rest).conclude r .range [] false) :=
  congrArg _ (execute_range (row := setLiveRow) taken
    (bodyOk_of_carries carries (formBytes_of_carries carries)) (fun _ => owns)
    ((setLiveRanges_eq carried).trans elsewhere))

/-- What SET-LIVE leaves at the quench unit, whatever becomes of the wait. -/
theorem setLive_quench (s : State) (v : LiveValues) :
    (s.setLive v).quench.lineEnable = v.enable ∧ (s.setLive v).quench.lineMode = v.lineMode ∧
    (s.setLive v).quench.releaseMode = v.releaseMode ∧ (s.setLive v).quench.level = s.quench.level ∧
    (s.quench.level = .asserted → v.enable = true → (s.setLive v).quench.causes.line = true) ∧
    (v.lineMode = .auto → (s.quench.level = .deasserted ∨ v.enable = false) →
      (s.setLive v).quench.causes.line = false) ∧
    (v.lineMode = .latched → (s.quench.level = .deasserted ∨ v.enable = false) →
      (s.setLive v).quench.causes = s.quench.causes) := by
  have level : (s.setAgent { s.agent with mgmtPorts := v.ports }).quench = s.quench := rfl
  rw [State.setLive, ← level]
  obtain ⟨-, enable, line, release, level⟩ := applyLive_quench (s.setAgent { s.agent with mgmtPorts := v.ports })
    v.enable v.lineMode v.releaseMode
  exact ⟨enable, line, release, level, applyLive_line_added, applyLive_line_gone, applyLive_latched⟩

theorem setLive_mgmtPorts (s : State) (v : LiveValues) : (s.setLive v).agent.mgmtPorts = v.ports :=
  congrArg Agent.mgmtPorts ((applyLive_within _ _ _ _).agent rfl)

end

/-- Settles O52: the values in force, the answer, the wait by the new release mode, and the bytes. -/
theorem setLiveAppliesFourValues : Obligations.SetLiveAppliesFourValues := by
  refine ⟨fun s r rest v taken carries owns carried => ⟨fun arrival => ?_,
      fun elsewhere => exec_setLive_range taken carries owns carried elsewhere⟩,
    fun s r rest v taken carries owns carried arrival =>
      ⟨_, rfl, exec_setLive_of_owner taken carries owns carried arrival⟩,
    fun s enable lm rm => ?_, fun r v carries => carriedLive_iff_bytes carries⟩
  · have quench : (((s.entered rest).setLive v).conclude r .ok
        (r.args ++ ((s.entered rest).setLive v).quenchResult) false).quench =
        ((s.entered rest).setLive v).quench := (conclude_within _ _ _ _ _).quench rfl
    refine ⟨_, exec_setLive_of_owner taken carries owns carried arrival, ?_, ?_⟩
    · rw [conclude_agent]
      exact setLive_mgmtPorts _ v
    · rw [quench]
      exact setLive_quench (s.entered rest) v
  · intro placed judged settles
    have judged_eq : (s.livePlaced enable lm rm).judgeLine = judged := judgeLine_livePlaced s enable lm rm
    have settles_eq : (s.livePlaced enable lm rm).judgeLine.quenchFalls 7#16 = settles :=
      congrArg (State.quenchFalls · 7#16) judged_eq
    have mode := judged_releaseMode s enable lm rm
    have timer := judged_timer s enable lm rm
    rw [← settles_eq, ← judged_eq]
    refine ⟨applyLive_judged, fun before after changed => ?_⟩
    rw [applyLive_rejudged before after changed]
    refine ⟨fun immediate => ?_, fun idle => ?_, fun cycle running => ?_, fun c mark running current =>
      ⟨fun free => ?_, fun follow => ?_⟩⟩
    · exact rejudgeWait_settles (releaseRow_immediate (mode.trans immediate))
    · by_cases immediate : rm = .immediate
      · exact rejudgeWait_settles (releaseRow_immediate (mode.trans immediate))
      · exact rejudgeWait_settles (releaseRow_not_running (by rwa [mode]) (by rwa [timer]))
    · exact rejudgeWait_waits (releaseRow_cycle (mode.trans cycle) (by rwa [timer]))
    · exact rejudgeWait_settles ((releaseRow_mark (mode.trans mark) (by rwa [timer])
        (by rwa [timer])).trans (if_neg (by rw [free]; decide)))
    · exact rejudgeWait_waits ((releaseRow_mark (mode.trans mark) (by rwa [timer])
        (by rwa [timer])).trans (if_pos follow))

end Sys2Proof.Machine
end

section
/-! SUPPORT. The restart wait, and each block as the warm restart leaves it. -/

namespace Sys2Proof.Machine

/-! ### The restart wait (R177) -/

section
variable {s : State} {w : RestartWait}

theorem exec_restart_of_owner {r : Request} {rest : List Request} (taken : Takes s .restart r rest)
    (carries : Carries r 0) (owns : s.ownsGate r = true) :
    exec .restart s = .next ((s.entered rest).beginRestartWait.conclude r .ok [] true) :=
  congrArg _ (execute_passes (row := restartRow) taken (bodyOk_of_carries carries (formBytes_of_carries carries))
    (fun _ => owns) rfl)

/-- The wait ends past its deadline, where the response has failed or still stands in a queue. -/
theorem restartDue_of_wait (wait : s.agent.restartWait = some w) :
    s.restartDue = true ↔ w.deadline ≤ s.base ∧
      (w.failed = true ∨ ∃ (p : Port) (f : List Byte), .response f true ∈ (s.egress.get p).mgmt) := by
  simp [State.restartDue, wait, queuesRestart_iff]

theorem exec_restartWaitExpiry_over (past : s.restartDue = true) :
    exec .restartWaitExpiry s = .next s.warmRestart := congrArg _ (if_pos past)

theorem exec_restartWaitExpiry_waits (waits : ¬ s.restartDue = true) :
    exec .restartWaitExpiry s = .next s := congrArg _ (if_neg waits)

end

/-! ### What the warm restart raises (R126, R107, log 14) -/

section
variable {s : State}

theorem warmRestart_quiet (commit : s.staging.commit.isSome = false) (set : s.quench.qs = true) :
    s.warmRestart = s.restartBase := by
  rw [State.warmRestart, commit, set]
  rfl

theorem warmRestart_raises_quenchOn (commit : s.staging.commit.isSome = false) (clear : s.quench.qs = false) :
    s.warmRestart = s.restartBase.restartQuenchOn := by
  rw [State.warmRestart, commit, clear]
  rfl

theorem warmRestart_raises_commit (commit : s.staging.commit.isSome = true) (set : s.quench.qs = true) :
    s.warmRestart = s.restartBase.restartCommit := by
  rw [State.warmRestart, commit, set]
  rfl

theorem warmRestart_raises_both (commit : s.staging.commit.isSome = true) (clear : s.quench.qs = false) :
    s.warmRestart = (s.restartBase.draw 1).restartCommit.restartQuenchOn ∨
    s.warmRestart = (s.restartBase.draw 1).restartQuenchOn.restartCommit := by
  rw [State.warmRestart, commit, clear]
  unfold inEitherOrder
  dsimp only
  rw [if_pos rfl]
  split
  · exact .inl rfl
  · exact .inr rfl

theorem restartQuenchOn_flag (s : State) : s.restartQuenchOn.events.flags.getLsbD 6 = true :=
  raise_sets_flag s (occQuenchOn .restart)

theorem restartCommit_flag (s : State) : s.restartCommit.events.flags.getLsbD 9 = true :=
  raise_sets_flag s (occCommit 0x0204#16)

theorem warmRestart_quenchOn_flag (clear : s.quench.qs = false) :
    s.warmRestart.events.flags.getLsbD 6 = true := by
  cases commit : s.staging.commit.isSome with
  | false =>
    rw [warmRestart_raises_quenchOn commit clear]
    exact restartQuenchOn_flag _
  | true =>
    rcases warmRestart_raises_both commit clear with both | both <;> rw [both]
    · exact restartQuenchOn_flag _
    · exact raise_keeps_flag _ _ 6 (restartQuenchOn_flag _)

theorem warmRestart_commit_flag (commit : s.staging.commit.isSome = true) :
    s.warmRestart.events.flags.getLsbD 9 = true := by
  cases quench : s.quench.qs with
  | true =>
    rw [warmRestart_raises_commit commit quench]
    exact restartCommit_flag _
  | false =>
    rcases warmRestart_raises_both commit quench with both | both <;> rw [both]
    · exact raise_keeps_flag _ _ 9 (restartCommit_flag _)
    · exact restartCommit_flag _

/-- A property that each occurrence carries one on holds after the warm restart's occurrences, of which there
are at most two. -/
theorem warmRestart_of_raise {P : Nat → State → Prop} (base : P 0 s.restartBase)
    (drawn : ∀ t n, P 0 t → P 0 (State.draw t n)) (raised : ∀ k t o, k < 2 → P k t → P (k + 1) (State.raise t o)) :
    ∃ k ≤ 2, P k s.warmRestart := by
  rcases warmRestart_form s with ⟨form, -⟩ | ⟨-, n, form | form | form | form⟩ <;> rw [form]
  · exact ⟨0, by omega, base⟩
  · exact ⟨1, by omega, raised 0 _ _ (by omega) (drawn _ n base)⟩
  · exact ⟨1, by omega, raised 0 _ _ (by omega) (drawn _ n base)⟩
  · exact ⟨2, by omega, raised 1 _ _ (by omega) (raised 0 _ _ (by omega) (drawn _ n base))⟩
  · exact ⟨2, by omega, raised 1 _ _ (by omega) (raised 0 _ _ (by omega) (drawn _ n base))⟩

end

/-! ### The blocks (R22, R69, R126, R140, R151, R178) -/

theorem warmRestart_agent (s : State) : s.warmRestart.agent = s.agent.restarted :=
  (warmRestart_keeps State.agent raise_agent draw_agent s).trans (restartBase_agent s)

theorem warmRestart_timer (s : State) : s.warmRestart.timer = s.timer.restarted :=
  (warmRestart_keeps State.timer raise_timer draw_timer s).trans (restartBase_timer s)

theorem warmRestart_stream (s : State) (i : StreamIx) :
    s.warmRestart.streams[i] = StreamRun.restarted (s.streamRec i) := by
  rw [warmRestart_keeps State.streams raise_streams draw_streams s, restartBase_streams]
  exact mapTable_getElem _ _ i.val i.isLt

theorem warmRestart_port (s : State) (p : Port) : s.warmRestart.ports.get p = PortUnit.cold (s.link p) := by
  rw [warmRestart_keeps State.ports raise_ports draw_ports s, restartBase_ports, perPort_get_map]
  rfl

/-- The occurrences touch the management queue of an egress unit only. -/
theorem warmRestart_egress (s : State) (p : Port) :
    SameButMgmt (s.egress.get p).restarted (s.warmRestart.egress.get p) := by
  have base : s.restartBase.egress.get p = (s.egress.get p).restarted := by
    rw [restartBase_egress, perPort_get_map]
  rw [← base]
  exact ⟨warmRestart_keeps (fun t => (t.egress.get p).cyclic) (fun t o => raise_cyclic t o p) (fun _ _ => rfl) s,
    warmRestart_keeps (fun t => (t.egress.get p).background) (fun t o => raise_background t o p)
      (fun _ _ => rfl) s,
    warmRestart_keeps (fun t => (t.egress.get p).transmitter) (fun t o => raise_transmitter t o p)
      (fun _ _ => rfl) s⟩

theorem warmRestart_banks (s : State) : s.warmRestart.bankA = s.bankA ∧ s.warmRestart.bankB = s.bankB :=
  (warmRestart_within s).banks rfl

theorem warmRestart_classes (s : State) : s.warmRestart.events.classes = s.events.classes := by
  rw [warmRestart_keeps (fun t => t.events.classes) raise_classes (fun _ _ => rfl) s, restartBase_events]
  rfl

/-- A restage begins, with its reason and end, unless one runs (R123). -/
theorem warmRestart_staging (s : State) :
    s.warmRestart.staging = (s.restartBlocks.beginRestage .restart).staging :=
  warmRestart_keeps State.staging raise_staging draw_staging s

theorem restartBlocks_state (s : State) :
    s.restartBlocks.staging.state = .restaging ↔ s.staging.state = .restaging := by
  show s.staging.restarted.state = _ ↔ _
  cases state : s.staging.state <;> simp [Staging.restarted, state]

theorem warmRestart_staging_starts {s : State} (idle : s.staging.state ≠ .restaging) :
    s.warmRestart.staging = { s.staging with
      commit := none, fault := none, state := .restaging, reason := some .restart
      dirty := Vector.replicate 128 false, restageEnd := some (s.base + Config.restageTicks) } := by
  rw [warmRestart_staging, beginRestage_starts (mt (restartBlocks_state s).1 idle)]
  rfl

theorem warmRestart_staging_runs {s : State} (restaging : s.staging.state = .restaging) :
    s.warmRestart.staging = { s.staging with commit := none, fault := none } := by
  rw [warmRestart_staging, beginRestage_restaging ((restartBlocks_state s).2 restaging)]
  show s.staging.restarted = _
  have state : s.staging.restarted.state = s.staging.state := by rw [Staging.restarted, restaging]
  exact congrArg (fun x => { s.staging with state := x, commit := none, fault := none }) state

theorem warmRestart_staging_leaves (s : State) :
    s.warmRestart.staging.state = .restaging ∧ s.warmRestart.staging.commit = none ∧
    s.warmRestart.staging.fault = none ∧ s.warmRestart.staging.active = s.staging.active := by
  by_cases restaging : s.staging.state = .restaging
  · rw [warmRestart_staging_runs restaging]
    exact ⟨restaging, rfl, rfl, rfl⟩
  · rw [warmRestart_staging_starts restaging]
    exact ⟨rfl, rfl, rfl, rfl⟩

theorem warmRestart_active (s : State) : s.warmRestart.active = s.active := by
  obtain ⟨-, -, -, role⟩ := warmRestart_staging_leaves s
  obtain ⟨bankA, bankB⟩ := warmRestart_banks s
  simp only [State.active, State.bank, role, bankA, bankB]

/-! ### The event unit and the management queues (R164) -/

/-- An occurrence that calls for no record sets its flag alone. -/
theorem raise_unheard {s : State} {o : Occurrence}
    (unheard : ¬ s.Notifies o.cls s.events.classes[o.cls.number].listener) : s.raise o = s.setFlag o.cls := by
  by_cases on : s.events.classes[o.cls.number].enabled = true
  · exact raise_listener_disabled (Bool.not_eq_true _ ▸ fun listens => unheard ⟨on, rfl, listens⟩)
  · exact raise_class_disabled (Bool.not_eq_true _ ▸ on)

theorem updateListener_listener (e : EventUnit) (l k : ListenerIx) (f : Listener → Listener) :
    (e.updateListener l f).listeners[k] = if l = k then f e.listeners[k] else e.listeners[k] := by
  by_cases same : l = k
  · subst same
    rw [updateListener_same, if_pos rfl]
  · rw [if_neg same]
    exact Vector.getElem_set_ne l.isLt k.isLt (fun eq => same (Fin.ext eq))

/-- A record that joins the queue changes its listener's next sequence number, and its missed count to 0. -/
theorem withRecord_listener {s : State} {l : ListenerIx} (heard : s.events.listeners[l].missed = 0)
    (k : ListenerIx) (o : Occurrence) :
    ∃ n, (s.withRecord k o).events.listeners[l] = { s.events.listeners[l] with nextSeq := n } := by
  have updated : (s.withRecord k o).events.listeners[l] = if k = l then
      { s.events.listeners[l] with nextSeq := s.events.listeners[l].nextSeq + 1#16, missed := 0 }
      else s.events.listeners[l] := updateListener_listener s.events k l
      (fun x => { x with nextSeq := x.nextSeq + 1#16, missed := 0 })
  rw [updated, ← heard]
  split
  · exact ⟨_, rfl⟩
  · exact ⟨_, rfl⟩

/-- While the notification queue has room, an occurrence changes no listener that has missed nothing but in its
next sequence number. -/
theorem raise_listener {s : State} (room : s.events.queue.length < 32) {l : ListenerIx}
    (heard : s.events.listeners[l].missed = 0) (o : Occurrence) :
    ∃ n, (s.raise o).events.listeners[l] = { s.events.listeners[l] with nextSeq := n } := by
  by_cases notifies : s.Notifies o.cls s.events.classes[o.cls.number].listener
  · rw [raise_recorded notifies room, offerNotifications_listeners]
    exact withRecord_listener (s := s.setFlag o.cls) heard _ o
  · rw [raise_unheard notifies]
    exact ⟨_, rfl⟩

theorem raise_queue_length (s : State) (o : Occurrence) :
    (s.raise o).events.queue.length ≤ s.events.queue.length + 1 := by
  by_cases notifies : s.Notifies o.cls s.events.classes[o.cls.number].listener
  · by_cases room : s.events.queue.length < 32
    · exact (raise_recorded_queue_length notifies room).le
    · rw [raise_missed notifies (Nat.not_lt.1 room)]
      exact Nat.le_succ _
  · rw [raise_unheard notifies]
    exact Nat.le_succ _

/-- At most k records are queued, and a listener has the fields of a record, whatever its next sequence number. -/
def State.ListensAs (l : ListenerIx) (x : Listener) (k : Nat) (t : State) : Prop :=
  t.events.queue.length ≤ k ∧ ∃ n, t.events.listeners[l] = { x with nextSeq := n }

theorem listensAs_raise {l : ListenerIx} {x : Listener} (heard : x.missed = 0) {k : Nat} (room : k < 32)
    {t : State} (h : t.ListensAs l x k) (o : Occurrence) : (t.raise o).ListensAs l x (k + 1) := by
  obtain ⟨length, n, listener⟩ := h
  obtain ⟨m, raised⟩ := raise_listener (s := t) (l := l) (by omega) (by rw [listener]; exact heard) o
  exact ⟨(raise_queue_length t o).trans (by omega), m, by rw [raised, listener]⟩

theorem restarted_listener (e : EventUnit) (l : ListenerIx) :
    e.restarted.listeners[l] = e.listeners[l].restarted := mapTable_getElem _ _ l.val l.isLt

/-- Every listener as the warm restart leaves it, whatever sequence numbers its occurrences take (R164). -/
theorem warmRestart_listener (s : State) (l : ListenerIx) :
    ∃ n, s.warmRestart.events.listeners[l] = { s.events.listeners[l].restarted with nextSeq := n } := by
  have base : s.restartBase.ListensAs l s.events.listeners[l].restarted 0 := by
    rw [State.ListensAs, restartBase_events]
    exact ⟨Nat.le_refl 0, _, restarted_listener s.events l⟩
  obtain ⟨k, -, -, listener⟩ := warmRestart_of_raise (P := fun k t => t.ListensAs l s.events.listeners[l].restarted k)
    base (fun _ _ h => h) (fun k t o few h => listensAs_raise rfl (by omega) h o)
  exact listener

/-- Offers add notifications only. -/
theorem mem_offerRecords {s : State} {p : Port} {l : List NotifRecord} {q : List MgmtEntry} {m : MgmtEntry}
    (mem : m ∈ (offerRecords s p l q).2) : m ∈ q ∨ ∃ f, m = .notification f := by
  induction l generalizing q with
  | nil => exact .inl mem
  | cons r l ih =>
    unfold offerRecords at mem
    split at mem
    · rcases ih mem with added | notification
      · rw [List.mem_append, List.mem_singleton] at added
        exact added.imp_right fun eq => ⟨_, eq⟩
      · exact .inr notification
    · exact ih mem

/-- A management queue holds no response, since it holds notifications only. -/
def State.OnlyNotifies (p : Port) (t : State) : Prop := ∀ m ∈ (t.egress.get p).mgmt, ∃ f, m = .notification f

theorem onlyNotifies_offerNotifications {p : Port} {t : State} (h : t.OnlyNotifies p) (q : Port) :
    (t.offerNotifications q).OnlyNotifies p := by
  unfold State.offerNotifications
  split
  · intro m mem
    by_cases same : p = q
    · subst same
      rw [updateEgress_egress, perPort_get_set_same] at mem
      exact (mem_offerRecords mem).elim (h m) id
    · rw [updateEgress_egress, perPort_get_set_other _ same] at mem
      exact h m mem
  · exact h

theorem onlyNotifies_raise {p : Port} {t : State} (h : t.OnlyNotifies p) (o : Occurrence) :
    (t.raise o).OnlyNotifies p := by
  by_cases notifies : t.Notifies o.cls t.events.classes[o.cls.number].listener
  · by_cases room : t.events.queue.length < 32
    · rw [raise_recorded notifies room]
      exact onlyNotifies_offerNotifications (t := (t.setFlag o.cls).withRecord _ o) h _
    · rw [raise_missed notifies (Nat.not_lt.1 room)]
      exact h
  · rw [raise_unheard notifies]
    exact h

theorem restartBase_mgmt (s : State) (p : Port) : (s.restartBase.egress.get p).mgmt = [] := by
  rw [restartBase_egress, perPort_get_map]
  rfl

theorem warmRestart_no_response (s : State) (p : Port) (f : List Byte) (b : Bool) :
    .response f b ∉ (s.warmRestart.egress.get p).mgmt := by
  have base : s.restartBase.OnlyNotifies p := fun m mem => absurd (restartBase_mgmt s p ▸ mem) List.not_mem_nil
  obtain ⟨k, -, only⟩ := warmRestart_of_raise (P := fun _ t => t.OnlyNotifies p) base (fun _ _ h => h)
    (fun _ _ o _ h => onlyNotifies_raise h o)
  intro mem
  obtain ⟨g, eq⟩ := only _ mem
  cases eq

theorem egress_restarted_transmitter (e : Egress) :
    e.restarted.transmitter =
      match e.transmitter with
      | .waiting => .idle
      | .idle => .idle
      | .down => .down
      | .sending x => .sending x := by
  rw [Egress.restarted]
  cases e.transmitter <;> rfl

end Sys2Proof.Machine
end

section
/-! PROOF. O36. -/

namespace Sys2Proof.Machine

/-- Settles O36: the answer, the end of the wait, then the restart block by block and by what it raises. -/
theorem restartWaitsThenSetsEveryBlock : Obligations.RestartWaitsThenSetsEveryBlock := by
  refine ⟨fun s r rest taken carries owns => exec_restart_of_owner taken carries owns,
    fun s w wait => ⟨fun past ended => ?_, fun waits => ?_⟩, fun s w wait failed past => ?_, fun s => ?_,
    fun s => ?_⟩
  · exact exec_restartWaitExpiry_over ((restartDue_of_wait wait).2 ⟨past, ended⟩)
  · refine exec_restartWaitExpiry_waits fun due => ?_
    obtain ⟨past, ended⟩ := (restartDue_of_wait wait).1 due
    rcases waits with early | ⟨sound, taken⟩
    · omega
    · rcases ended with failed | ⟨p, f, mem⟩
      · exact Bool.noConfusion (sound.symm.trans failed)
      · exact taken p f mem
  · obtain ⟨state, commit, fault, -⟩ := warmRestart_staging_leaves s
    refine ⟨_, exec_restartWaitExpiry_over ((restartDue_of_wait wait).2 ⟨past, .inl failed⟩), ?_⟩
    rw [warmRestart_agent, warmRestart_timer, warmRestart_quench, warmRestart_classes]
    refine ⟨rfl, rfl, rfl, rfl, rfl, rfl, rfl, rfl, rfl, rfl, rfl, fun i => ?_, state, commit, fault,
      warmRestart_active s, rfl, rfl, rfl, rfl, rfl, rfl, rfl, rfl, fun p => ?_, fun set none => ?_,
      warmRestart_quenchOn_flag, warmRestart_commit_flag⟩
    · rw [warmRestart_stream]
      exact ⟨rfl, rfl, rfl, rfl, rfl⟩
    · rw [State.link, warmRestart_port]
      exact ⟨rfl, rfl, rfl, (warmRestart_egress s p).cyclic, (warmRestart_egress s p).background⟩
    · rw [warmRestart_quiet (by rw [none]; rfl) set, restartBase_events]
      rfl
  · obtain ⟨-, -, -, role⟩ := warmRestart_staging_leaves s
    obtain ⟨bankA, bankB⟩ := warmRestart_banks s
    refine ⟨warmRestart_agent s, warmRestart_timer s, warmRestart_stream s, role, fun idle => ?_,
      fun restaging => ?_, warmRestart_quench s, fun l => ?_, warmRestart_classes s, fun set none => ?_,
      fun p => ?_, bankA, bankB, (warmRestart_within s).base, (warmRestart_within s).strap rfl⟩
    · rw [warmRestart_staging_starts idle]
      exact ⟨rfl, rfl, fun i => Vector.getElem_replicate i.isLt⟩
    · rw [warmRestart_staging_runs restaging]
      exact ⟨rfl, rfl, rfl⟩
    · obtain ⟨n, listener⟩ := warmRestart_listener s l
      rw [listener]
      exact ⟨rfl, rfl, rfl, rfl, rfl, rfl, rfl⟩
    · rw [warmRestart_quiet (by rw [none]; rfl) set, restartBase_events]
      refine ⟨rfl, fun l => ?_, restartBase_mgmt s⟩
      rw [restarted_listener]
      rfl
    · obtain ⟨cyclic, background, transmitter⟩ := warmRestart_egress s p
      exact ⟨warmRestart_port s p, warmRestart_no_response s p, cyclic, background,
        transmitter.trans (egress_restarted_transmitter _)⟩
  · exact ⟨fun none => warmRestart_quiet (by rw [none]; rfl),
      fun none => warmRestart_raises_quenchOn (by rw [none]; rfl), warmRestart_raises_commit,
      warmRestart_raises_both⟩

end Sys2Proof.Machine
end

section
/-! SUPPORT. The groups of a READ-STATUS result: where each stands, and what its bytes say (Table 12-8). -/

namespace Sys2Proof.Machine

/-! ### Fields of a list of groups -/

/-- n bytes from a place inside one group, when the group stands behind others. -/
theorem field_of_group {before after : List (List Byte)} {g : List Byte} {j n : Nat} (inside : j + n ≤ g.length) :
    (((before ++ g :: after).flatten).drop ((before.map List.length).sum + j)).take n = (g.drop j).take n := by
  rw [List.flatten_append, List.flatten_cons, ← List.length_flatten, List.drop_length_add_append,
    List.drop_append_of_le_length (by omega), List.take_append_of_le_length (by rw [List.length_drop]; omega)]

theorem tableList_getElem? {α : Type} {n : Nat} (v : Vector α n) (i : Fin n) : (tableList v)[i.val]? = some v[i] := by
  simp [tableList]

/-- The records of a table are those of its indexes in ascending order. -/
theorem tableList_eq_map {α : Type} {n : Nat} (v : Vector α n) :
    tableList v = (List.finRange n).map (fun i => v[i]) := by
  refine List.ext_getElem (by simp [tableList]) fun i _ _ => ?_
  simp [tableList]

/-! ### The groups of Table 12-8 -/

/-- Identity and cycle timer, 21 bytes. -/
def State.headStatus (s : State) : List Byte :=
  be48 s.stationAddr ++ [s.strap.setWidth 8] ++ s.timerResult ++ be32 (BitVec.ofNat 32 s.timer.cycleLength) ++
    [BitVec.ofNat 8 s.timer.faultCount]

/-- Active bank, staging state and restage reason. -/
def State.roleStatus (s : State) : List Byte :=
  [match s.staging.active with | .a => 0#8 | .b => 1#8, stagingStateByte s.staging.state,
   match s.staging.reason with | some w => BitVec.ofNat 8 (reasonCode w) | none => 0xFF#8]

/-- The owner of the pending commit, 7 bytes; those of an absent one are not given (log 8). -/
def State.committerStatus (s : State) : List Byte :=
  match s.staging.commit.bind PendingCommit.owner with
  | some a => [1#8] ++ be48 a
  | none => [0#8] ++ s.unstatedBytes 4 6

/-- The cycle count at the request of the pending commit. -/
def State.requestStatus (s : State) : List Byte :=
  match s.staging.commit with
  | some c => be32 c.requestedAt
  | none => s.unstatedBytes 10 4

/-- How many streams are dirty. -/
def State.dirtyStatus (s : State) : List Byte :=
  [BitVec.ofNat 8 (allStreams.filter (fun i => s.staging.dirty[i])).length]

/-- The four numbers of records of the notification queue. -/
def State.recordStatus (s : State) : List Byte :=
  [s.countRecords (fun _ => true), s.countRecords NotifRecord.isUnsent,
   s.countRecords (fun r => !r.isUnsent), s.countRecords NotifRecord.isResendDue]

/-- Agent, 14 bytes. -/
def State.agentStatus (s : State) : List Byte :=
  [maskByte s.agent.mgmtPorts, BitVec.ofNat 8 s.agent.intake.length] ++ be32 s.agent.executed ++
    be32 s.agent.cacheAnswers ++ be32 s.agent.intakeDiscards

/-- The groups of the result in their order. -/
def State.statusGroups (s : State) : List (List Byte) :=
  [s.headStatus, s.roleStatus, s.targetBytes, s.committerStatus, s.requestStatus, s.dirtyStatus, s.quenchStatus,
   Port.all.flatMap s.portStatus, s.recordStatus, (tableList s.events.listeners).flatMap listenerBytes,
   s.ownerResult, s.agentStatus]

/-- The lengths of the groups. -/
def statusSizes : List Nat := [21, 3, 5, 7, 4, 1, 9, 20, 4, 56, 9, 14]

theorem dirtyStatus_eq (s : State) :
    s.dirtyStatus = [BitVec.ofNat 8 ((tableList s.staging.dirty).filter id).length] := by
  rw [tableList_eq_map, List.filter_map, List.length_map]
  rfl

theorem stagingStatus_eq (s : State) :
    s.stagingStatus = s.roleStatus ++ s.targetBytes ++ (s.committerStatus ++ s.requestStatus) ++ s.dirtyStatus := by
  rw [dirtyStatus_eq, State.stagingStatus, State.roleStatus, State.committerStatus, State.requestStatus]
  cases commit : s.staging.commit with
  | none => rfl
  | some c =>
    obtain ⟨_, owner, _⟩ := c
    cases owner with
    | none => rfl
    | some a => rfl

theorem statusResult_eq (s : State) : s.statusResult = s.statusGroups.flatten := by
  rw [State.statusResult, stagingStatus_eq]
  simp only [State.statusGroups, State.headStatus, State.agentStatus, State.eventStatus, State.recordStatus,
    List.flatten_cons, List.flatten_nil, List.append_assoc, List.append_nil]

/-! ### The lengths of the groups -/

theorem targetBytes_length (s : State) : s.targetBytes.length = 5 := by
  unfold State.targetBytes
  split
  · split <;> rfl
  · rfl

theorem committerStatus_length (s : State) : s.committerStatus.length = 7 := by
  unfold State.committerStatus
  split <;> rfl

theorem requestStatus_length (s : State) : s.requestStatus.length = 4 := by
  unfold State.requestStatus
  split <;> rfl

theorem ownerResult_some {s : State} {o : Owner} (owner : s.agent.owner = some o) :
    s.ownerResult = [1#8] ++ s.holderBytes o := by
  rw [State.ownerResult, owner]

theorem ownerResult_none {s : State} (owner : s.agent.owner = none) :
    s.ownerResult = [0#8] ++ s.unstatedBytes 14 8 := by
  rw [State.ownerResult, owner]

theorem ownerResult_length (s : State) : s.ownerResult.length = 9 := by
  unfold State.ownerResult
  split <;> rfl

theorem portsStatus_length (s : State) : (Port.all.flatMap s.portStatus).length = 20 := rfl

theorem listenersStatus_length (s : State) :
    ((tableList s.events.listeners).flatMap listenerBytes).length = 56 := by
  rw [flatMap_length_of_size (n := 14) (fun _ => rfl)]
  simp [tableList]

theorem statusGroups_sizes (s : State) : s.statusGroups.map List.length = statusSizes := by
  simp only [State.statusGroups, List.map_cons, List.map_nil, targetBytes_length, committerStatus_length,
    requestStatus_length, ownerResult_length, listenersStatus_length]
  rfl

theorem statusResult_length (s : State) : s.statusResult.length = 153 := by
  rw [statusResult_eq, List.length_flatten, statusGroups_sizes]
  rfl

/-- A field of the result is the field of its group. -/
theorem status_field {s : State} {g : List Byte} (k : Nat) (group : s.statusGroups[k]? = some g) (j : Nat) {n : Nat}
    (inside : j + n ≤ g.length) :
    (s.statusResult.drop ((statusSizes.take k).sum + j)).take n = (g.drop j).take n := by
  obtain ⟨lt, rfl⟩ := List.getElem?_eq_some_iff.1 group
  have split : s.statusGroups = s.statusGroups.take k ++ s.statusGroups[k] :: s.statusGroups.drop (k + 1) := by
    rw [List.cons_getElem_drop_succ, List.take_append_drop]
  rw [statusResult_eq, ← statusGroups_sizes s, ← List.map_take]
  exact (congrArg (fun l : List (List Byte) => (l.flatten.drop _).take n) split).trans (field_of_group inside)

/-- A whole group stands behind those before it. -/
theorem status_group {s : State} {g : List Byte} (k : Nat) (group : s.statusGroups[k]? = some g) :
    (s.statusResult.drop (statusSizes.take k).sum).take g.length = g :=
  (status_field k group 0 (Nat.zero_add _).le).trans (List.take_length)

/-! ### The fields of the groups -/

section
variable {s : State}

theorem reasonByte_eq (w : Option RestageReason) :
    (match w with | some w => BitVec.ofNat 8 (reasonCode w) | none => 0xFF#8) =
      match w with | some .apply => 1#8 | some .lease => 2#8 | some .restart => 3#8 | none => 0xFF#8 := by
  rcases w with _ | _ | _ | _ <;> rfl

theorem targetBytes_next {c : PendingCommit} (commit : s.staging.commit = some c) (next : c.target = .nextStart) :
    s.targetBytes = [0#8] ++ s.unstatedBytes 0 4 := by
  simp only [State.targetBytes, commit, next]

theorem targetBytes_at {c : PendingCommit} {n : Word} (commit : s.staging.commit = some c)
    (target : c.target = .atCycle n) : s.targetBytes = [1#8] ++ be32 n := by
  simp only [State.targetBytes, commit, target]

theorem targetBytes_none (commit : s.staging.commit = none) : s.targetBytes = [0xFF#8] ++ s.unstatedBytes 0 4 := by
  simp only [State.targetBytes, commit]

theorem committerStatus_some {a : StationAddr} (owner : s.staging.commit.bind PendingCommit.owner = some a) :
    s.committerStatus = [1#8] ++ be48 a := by
  rw [State.committerStatus, owner]

theorem committerStatus_none (owner : s.staging.commit.bind PendingCommit.owner = none) :
    s.committerStatus = [0#8] ++ s.unstatedBytes 4 6 := by
  rw [State.committerStatus, owner]

theorem requestStatus_some {c : PendingCommit} (commit : s.staging.commit = some c) :
    s.requestStatus = be32 c.requestedAt := by
  rw [State.requestStatus, commit]

theorem isUnsent_eq : NotifRecord.isUnsent = fun n : NotifRecord => decide (n.state = .unsent) := by
  funext n
  unfold NotifRecord.isUnsent
  cases n.state <;> simp

theorem isResendDue_eq : NotifRecord.isResendDue = fun n : NotifRecord => decide (n.state = .resendDue) := by
  funext n
  unfold NotifRecord.isResendDue
  cases n.state <;> simp

/-- A resend-due record is AWAITING (R158, log 31). -/
theorem recordStatus_eq (s : State) : s.recordStatus =
    [BitVec.ofNat 8 s.events.queue.length,
     BitVec.ofNat 8 (s.events.queue.filter (fun n => decide (n.state = .unsent))).length,
     BitVec.ofNat 8 (s.events.queue.filter (fun n => decide (n.state ≠ .unsent))).length,
     BitVec.ofNat 8 (s.events.queue.filter (fun n => decide (n.state = .resendDue))).length] := by
  rw [State.recordStatus, isUnsent_eq, isResendDue_eq]
  simp [State.countRecords]

theorem portStatus_block (p : Port) : ((Port.all.flatMap s.portStatus).drop (5 * p.index)).take 5 = s.portStatus p :=
  flatMap_block (f := s.portStatus) (n := 5) (l := Port.all) (fun _ => rfl) (by cases p <;> rfl)

theorem listenerStatus_block (l : ListenerIx) :
    (((tableList s.events.listeners).flatMap listenerBytes).drop (14 * l.val)).take 14 =
      listenerBytes s.events.listeners[l] :=
  flatMap_block (f := listenerBytes) (n := 14) (fun _ => rfl) (tableList_getElem? _ l)

/-! ### DISCOVER, READ-STATUS, READ-FLAGS and READ-FAULT (R154, R172, R173, R116) -/

variable {r : Request} {rest : List Request} {res : List Byte}

theorem exec_discover_of_carries (taken : Takes s .discover r rest) (carries : Carries r 0)
    (result : (s.entered rest).discoverResult r = res) :
    exec .discover s = .next ((s.entered rest).conclude r .ok res false) :=
  congrArg _ (execute_open (row := discoverRow) taken carries rfl (congrArg (Reply.ok _) result) rfl rfl rfl)

theorem exec_readStatus_of_carries (taken : Takes s .readStatus r rest) (carries : Carries r 0) :
    exec .readStatus s = .next ((s.entered rest).conclude r .ok (s.entered rest).statusResult false) :=
  congrArg _ (execute_open (row := readStatusRow) taken carries rfl rfl rfl rfl rfl)

theorem exec_readFlags_of_carries (taken : Takes s .readFlags r rest) (carries : Carries r 0) :
    exec .readFlags s = .next ((s.entered rest).conclude r .ok (be16 s.events.flags) false) :=
  congrArg _ (execute_open (row := readFlagsRow) taken carries rfl rfl rfl rfl rfl)

theorem exec_readFault_of_carries (taken : Takes s .readFault r rest) (carries : Carries r 0) :
    exec .readFault s = .next ((s.entered rest).conclude r .ok (faultBytes s.staging.fault) false) :=
  congrArg _ (execute_open (row := readFaultRow) taken carries rfl rfl rfl rfl rfl)

end

end Sys2Proof.Machine
end

section
/-! PROOF. O40. -/

namespace Sys2Proof.Machine

/-- Settles O40: each read is answered by its row; the result of READ-STATUS is read group by group. -/
theorem identityStatusFlagAndFaultReads : Obligations.IdentityStatusFlagAndFaultReads := by
  refine ⟨fun s r rest carries => ⟨fun o taken owner => ?_, fun taken owner => ?_, fun taken => ?_⟩,
    fun s r rest carries => ⟨fun taken => exec_readFlags_of_carries taken carries, fun f taken fault => ?_,
      fun taken fault => ?_⟩⟩
  · refine exec_discover_of_carries taken carries ?_
    rw [State.discoverResult, ownerResult_some (s := s.entered rest) owner]
    rfl
  · refine ⟨_, unstatedBytes_length (s.entered rest) 14 8, exec_discover_of_carries taken carries ?_⟩
    rw [State.discoverResult, ownerResult_none (s := s.entered rest) owner]
    rfl
  · refine ⟨(s.entered rest).statusResult, statusResult_length _, ?_, ?_, fun c commit =>
      ⟨fun next => ?_, fun n at_n => ?_, fun a owner => ?_, fun owner => ?_, ?_⟩, fun commit => ⟨?_, ?_⟩, ?_, ?_,
      fun p => ?_, ?_, fun l => ?_, fun o owner => ?_, fun owner => ?_, ?_,
      exec_readStatus_of_carries taken carries⟩
    · exact status_group 0 rfl
    · refine (status_group 1 rfl).trans ?_
      rw [State.roleStatus, reasonByte_eq]
      rfl
    · refine (status_field 2 rfl 0 (by rw [targetBytes_length]; omega)).trans ?_
      rw [targetBytes_next (s := s.entered rest) commit next]
      rfl
    · have group := status_group (s := s.entered rest) 2 rfl
      rw [targetBytes_length, targetBytes_at (s := s.entered rest) commit at_n] at group
      exact group
    · have group := status_group (s := s.entered rest) 3 rfl
      rw [committerStatus_length, committerStatus_some (s := s.entered rest)
        (commit ▸ owner : s.staging.commit.bind PendingCommit.owner = some a)] at group
      exact group
    · refine (status_field 3 rfl 0 (by rw [committerStatus_length]; omega)).trans ?_
      rw [committerStatus_none (s := s.entered rest)
        (commit ▸ owner : s.staging.commit.bind PendingCommit.owner = none)]
      rfl
    · have group := status_group (s := s.entered rest) 4 rfl
      rw [requestStatus_length, requestStatus_some (s := s.entered rest) commit] at group
      exact group
    · refine (status_field 2 rfl 0 (by rw [targetBytes_length]; omega)).trans ?_
      rw [targetBytes_none (s := s.entered rest) commit]
      rfl
    · refine (status_field 3 rfl 0 (by rw [committerStatus_length]; omega)).trans ?_
      rw [committerStatus_none (s := s.entered rest)
        (commit ▸ rfl : s.staging.commit.bind PendingCommit.owner = none)]
      rfl
    · exact status_group 5 rfl
    · exact status_group 6 rfl
    · have inside := port_index_lt p
      refine (status_field 7 rfl (5 * p.index) (by rw [portsStatus_length]; omega)).trans ?_
      exact portStatus_block p
    · exact (status_group 8 rfl).trans (recordStatus_eq _)
    · refine (status_field 9 rfl (14 * l.val) (by rw [listenersStatus_length]; omega)).trans ?_
      exact listenerStatus_block l
    · have group := status_group (s := s.entered rest) 10 rfl
      rw [ownerResult_length, ownerResult_some (s := s.entered rest) owner] at group
      exact group
    · refine (status_field 10 rfl 0 (by rw [ownerResult_length]; omega)).trans ?_
      rw [ownerResult_none (s := s.entered rest) owner]
      rfl
    · refine Eq.trans ?_ (status_group (s := s.entered rest) 11 rfl)
      exact (List.take_of_length_le (by rw [List.length_drop, statusResult_length]; exact Nat.le_refl 14)).symm
  · rw [exec_readFault_of_carries taken carries, fault]
    rfl
  · refine ⟨_, ?_, ?_, exec_readFault_of_carries taken carries⟩
    · rw [fault]
      rfl
    · rw [fault]
      rfl

end Sys2Proof.Machine
end

section
/-! SUPPORT. The table of request rows: what each command of a request executes, and the body length that its
request gives (Table 11-1, Table 12-3). -/

namespace Sys2Proof.Machine

/-! ### The rows -/

/-- The row of the request table that a command executes. -/
def requestRow : Instr → Option RequestRow
  | .discover => some discoverRow
  | .claim => some claimRow
  | .yieldOwnership => some yieldRow
  | .readStatus => some readStatusRow
  | .readSet => some readSetRow
  | .readStreamState => some readStreamStateRow
  | .readCounters => some readCountersRow
  | .readCountersClear => some readCountersClearRow
  | .readFlags => some readFlagsRow
  | .readFault => some readFaultRow
  | .writeSettings => some writeSettingsRow
  | .writeWindows => some writeWindowsRow
  | .writeStreams => some writeStreamsRow
  | .writeSteps => some writeStepsRow
  | .writeTemplate => some writeTemplateRow
  | .commitNext => some commitNextRow
  | .commitAt => some commitAtRow
  | .withdraw => some withdrawRow
  | .holdStream => some holdStreamRow
  | .releaseStreamResume => some releaseResumeRow
  | .releaseStreamRearm => some releaseRearmRow
  | .quench => some quenchRow
  | .clearQuench => some clearQuenchRow
  | .setLive => some setLiveRow
  | .setListener => some setListenerRow
  | .setNotify => some setNotifyRow
  | .clearFlags => some clearFlagsRow
  | .raiseFlag => some raiseFlagRow
  | .timerStartImmediate => some timerStartImmediateRow
  | .timerStartOnMark => some timerStartOnMarkRow
  | .timerStop => some timerStopRow
  | .restart => some restartRow
  | .ackNotify => some ackNotifyRow
  | _ => none

/-- The body length of a command's request, its 8-byte header included (Table 12-3). -/
def bodySize (r : Request) : Instr → Nat
  | .holdStream | .raiseFlag | .timerStartImmediate | .timerStartOnMark => 9
  | .claim | .readStreamState | .releaseStreamResume | .releaseStreamRearm => 10
  | .readCounters | .readCountersClear | .ackNotify => 11
  | .setLive => 12
  | .commitNext | .commitAt => 13
  | .readSet => 14
  | .setListener => 19
  | .writeSettings => 22
  | .writeWindows => 10 + 7 * r.arg 1
  | .writeStreams => 10 + 15 * r.arg 1
  | .writeSteps => 11 + 2 * r.arg 2
  | .writeTemplate | .setNotify => 11 + r.arg 2
  | .clearQuench | .clearFlags => 9 + r.arg 0
  | _ => 8

/-- A command of a request executes its row, whose command it is. -/
theorem exec_requestRow {c : Instr} {row : RequestRow} (named : requestRow c = some row) (s : State) :
    exec c s = .next (row.execute s) := by
  cases c <;> cases named <;> rfl

theorem requestRow_command {c : Instr} {row : RequestRow} (named : requestRow c = some row) : row.command = c := by
  cases c <;> cases named <;> rfl

/-- The rows marked as the owner's are those of the owner's commands (Table 11-1). -/
theorem requestRow_needsOwner {c : Instr} {row : RequestRow} (named : requestRow c = some row) :
    row.needsOwner = decide (c ∈ ownerCommands) := by
  cases c <;> cases named <;> rfl

theorem requestRow_of_mem : ∀ c ∈ ownerCommands ++ openCommands, ∃ row, requestRow c = some row := by
  intro c mem
  fin_cases mem <;> exact ⟨_, rfl⟩

/-! ### The body check (R180) -/

theorem args_length_eq (r : Request) : r.args.length = r.body.length - 8 := List.length_drop

theorem bodyOk_formBytes {row : RequestRow} {r : Request} {n size : Nat} (form : row.form = formBytes n)
    (total : size = 8 + n) : row.bodyOk r = true ↔ r.overrun = false ∧ r.body.length = size := by
  simp only [RequestRow.bodyOk, form, formBytes, args_length_eq, Bool.and_eq_true, Bool.not_eq_true',
    decide_eq_true_eq, beq_iff_eq, and_assoc]
  refine and_congr_right fun _ => ?_
  omega

theorem bodyOk_formCounted {row : RequestRow} {r : Request} {head place size n : Nat}
    (form : row.form = formCounted head place size) (total : n = 8 + (head + size * r.arg place)) :
    row.bodyOk r = true ↔ r.overrun = false ∧ r.body.length = n := by
  have count : (byteAt r.args place).toNat = r.arg place := rfl
  simp only [RequestRow.bodyOk, form, formCounted, args_length_eq, count, Bool.and_eq_true, Bool.not_eq_true',
    decide_eq_true_eq, beq_iff_eq, and_assoc]
  refine and_congr_right fun _ => ?_
  generalize size * r.arg place = items at total ⊢
  omega

/-- A body passes where no byte of it is missing and its length is the one its request gives. -/
theorem bodyOk_iff {c : Instr} {row : RequestRow} (named : requestRow c = some row) (r : Request) :
    row.bodyOk r = true ↔ r.overrun = false ∧ r.body.length = bodySize r c := by
  cases c <;> cases named
  case writeWindows => exact bodyOk_formCounted rfl (by simp only [bodySize]; omega)
  case writeStreams => exact bodyOk_formCounted rfl (by simp only [bodySize]; omega)
  case writeSteps => exact bodyOk_formCounted rfl (by simp only [bodySize]; omega)
  case writeTemplate => exact bodyOk_formCounted rfl (by simp only [bodySize]; omega)
  case setNotify => exact bodyOk_formCounted rfl (by simp only [bodySize]; omega)
  case clearQuench => exact bodyOk_formCounted rfl (by simp only [bodySize]; omega)
  case clearFlags => exact bodyOk_formCounted rfl (by simp only [bodySize]; omega)
  all_goals exact bodyOk_formBytes rfl rfl

/-! ### The refusals of steps 4 to 6 (R167) -/

section
variable {c : Instr} {row : RequestRow} {s : State} {r : Request} {rest : List Request}
  (named : requestRow c = some row) (taken : Takes s c r rest)
include named taken

theorem exec_malformed_of_size (bad : r.overrun = true ∨ r.body.length ≠ bodySize r c) :
    exec c s = .next ((s.entered rest).conclude r .malformed [] false) := by
  have body : row.bodyOk r = false := by
    refine Bool.eq_false_iff.2 fun ok => ?_
    obtain ⟨whole, size⟩ := (bodyOk_iff named r).1 ok
    exact bad.elim (fun missing => Bool.noConfusion (whole.symm.trans missing)) (absurd size)
  rw [exec_requestRow named, execute_malformed (requestRow_command named ▸ taken) body]

theorem exec_notOwner_of_size (owners : c ∈ ownerCommands) (other : s.ownsGate r = false)
    (whole : r.overrun = false) (size : r.body.length = bodySize r c) :
    exec c s = .next ((s.entered rest).conclude r .notOwner [] false) := by
  have owner : row.needsOwner = true := (requestRow_needsOwner named).trans (decide_eq_true owners)
  rw [exec_requestRow named, execute_notOwner (requestRow_command named ▸ taken)
    ((bodyOk_iff named r).2 ⟨whole, size⟩) owner other]

theorem exec_range_of_size {n : Nat} (owns : c ∈ ownerCommands → s.ownsGate r = true) (carries : Carries r n)
    (size : 8 + n = bodySize r c) (outside : row.ranges r = false) :
    exec c s = .next ((s.entered rest).conclude r .range [] false) := by
  have owner (needs : row.needsOwner = true) : s.ownsGate r = true :=
    owns (of_decide_eq_true ((requestRow_needsOwner named).symm.trans needs))
  rw [exec_requestRow named, execute_range (requestRow_command named ▸ taken)
    ((bodyOk_iff named r).2 ⟨carries.whole, carries.size.trans size⟩) owner outside]

end

/-! ### Values outside their ranges (R181, Tables 12-3 to 12-6) -/

section
variable {r : Request}

theorem isSome_false_of_none {α : Type} {o : Option α} (none : o = none) : o.isSome = false := by
  rw [none]
  rfl

theorem releaseRanges_false (outside : 128 ≤ r.arg 0 ∨ 1 < r.arg 1) : releaseRanges r = false := by
  simp [releaseRanges]
  omega

theorem readStreamStateRanges_false (outside : r.arg 1 = 0 ∨ 87 < r.arg 1 ∨ 128 < r.arg 0 + r.arg 1) :
    readStreamStateRanges r = false :=
  decide_eq_false (by omega)

theorem readCountersRanges_false
    (outside : 1 < r.arg 0 ∨ r.arg 0 = 0 ∧ 128 ≤ r.arg 1 ∨ r.arg 0 = 1 ∧ 4 ≤ r.arg 1 ∨ 1 < r.arg 2) :
    readCountersRanges r = false := by
  refine Bool.eq_false_iff.2 fun inside => ?_
  obtain ⟨object, index, clear⟩ := (readCountersRanges_iff r).1 inside
  split at index <;> omega

theorem readSetRanges_false (outside : 1 < r.arg 0 ∨ 4 < r.arg 1 ∨ natAt r.args 4 2 = 0 ∨
      r.arg 1 = 0 ∧ (natAt r.args 2 2 ≠ 0 ∨ natAt r.args 4 2 ≠ 1) ∨
      r.arg 1 = 1 ∧ 64 < natAt r.args 2 2 + natAt r.args 4 2 ∨
      r.arg 1 = 2 ∧ (92 < natAt r.args 4 2 ∨ 128 < natAt r.args 2 2 + natAt r.args 4 2) ∨
      r.arg 1 = 3 ∧ (697 < natAt r.args 4 2 ∨ 1024 < natAt r.args 2 2 + natAt r.args 4 2) ∨
      r.arg 1 = 4 ∧ (natAt r.args 4 2 ≠ 1 ∨ 32 ≤ natAt r.args 2 2)) : readSetRanges r = false := by
  refine Bool.eq_false_iff.2 fun inside => ?_
  obtain ⟨role, fits⟩ := Bool.and_eq_true_iff.1 inside
  have role := of_decide_eq_true role
  have fits := (readSetFits_iff _ _ _).1 fits
  generalize natAt r.args 2 2 = first at *
  generalize natAt r.args 4 2 = count at *
  omega

theorem claimRange_false (outside : natAt r.args 0 2 < 100 ∨ 60000 < natAt r.args 0 2) :
    claimRow.ranges r = false :=
  decide_eq_false fun ⟨least, most⟩ => by
    have : claimLease r = natAt r.args 0 2 := rfl
    omega

theorem runFits_false {first count size : Nat} (outside : count = 0 ∨ 64 < count ∨ size < first + count) :
    runFits first count size = false :=
  decide_eq_false (by omega)

/-- A counted run of records is out of range by its count, by its end, or by one of its records. -/
theorem writeRanges_false {α : Type} {read : List Byte → Option α} {item place first count size : Nat}
    (outside : count = 0 ∨ 64 < count ∨ size < first + count ∨
      ∃ k, k < count ∧ read ((r.args.drop (place + item * k)).take item) = none) :
    (runFits first count size && (readMany read item count (r.args.drop place)).isSome) = false := by
  rw [Bool.and_eq_false_iff]
  rcases outside with zero | many | past | ⟨k, inside, bad⟩
  · exact .inl (runFits_false (.inl zero))
  · exact .inl (runFits_false (.inr (.inl many)))
  · exact .inl (runFits_false (.inr (.inr past)))
  · exact .inr (isSome_false_of_none (readMany_none read item inside (by rwa [List.drop_drop])))

theorem writeTemplateRanges_false (outside : 32 ≤ r.arg 0 ∨ 1 < r.arg 1 ∨ r.arg 1 = 0 ∧ r.arg 2 ≠ 0 ∨
      r.arg 1 = 1 ∧ (r.arg 2 < 60 ∨ 128 < r.arg 2)) : writeTemplateRanges r = false := by
  refine Bool.eq_false_iff.2 fun inside => ?_
  obtain ⟨index, image⟩ := Bool.and_eq_true_iff.1 inside
  have index := of_decide_eq_true index
  split at image
  · have := of_decide_eq_true image
    omega
  · have := of_decide_eq_true image
    omega

theorem yesNo_le (b : Bool) : (yesNo b).toNat ≤ 1 := by cases b <;> decide

theorem lineModeByte_le (m : LineMode) : (lineModeByte m).toNat ≤ 1 := by cases m <;> decide

theorem releaseModeByte_le (m : ReleaseMode) : (releaseModeByte m).toNat ≤ 2 := by cases m <;> decide

/-- A byte of an argument is the number that its field carries. -/
theorem arg_of_byte {k : Nat} {b : Byte} (byte : byteAt r.args k = b) : r.arg k = b.toNat :=
  congrArg BitVec.toNat byte

/-- The four values of SET-LIVE within their fields, and the arrival port in the port set (R176). -/
theorem setLiveRanges_false (outside : 1 < r.arg 0 ∨ 1 < r.arg 1 ∨ 2 < r.arg 2 ∨ 16 ≤ r.arg 3 ∨
      (byteAt r.args 3).getLsbD r.port.index = false) : setLiveRanges r = false := by
  cases carried : carriedLive r with
  | none => rw [setLiveRanges, carried]
  | some v =>
    rw [setLiveRanges_eq carried]
    obtain ⟨enable, line, release, ports⟩ := carriedLive_eq_some.1 carried
    have enable := (arg_of_byte enable).trans_le (yesNo_le v.enable)
    have line := (arg_of_byte line).trans_le (lineModeByte_le v.lineMode)
    have release := (arg_of_byte release).trans_le (releaseModeByte_le v.releaseMode)
    have mask : r.arg 3 < 16 := by
      rw [arg_of_byte ports, BitVec.toNat_setWidth_of_le (by decide)]
      exact v.ports.isLt
    rcases outside with high | high | high | high | away
    · omega
    · omega
    · omega
    · omega
    · have small := port_index_lt r.port
      rw [ports, BitVec.getLsbD_setWidth, Bool.and_eq_false_iff] at away
      exact away.resolve_left (by simp; omega)

/-- The values of a listener within their fields; a group address is not one of them (log 22). -/
theorem carriedListener_none (outside : 4 ≤ r.arg 0 ∨ 1 < r.arg 1 ∨
      (byteAt r.args 2).getLsbD 0 = true ∨ 4 ≤ r.arg 8 ∨ r.arg 9 = 0 ∨ 7 < r.arg 10) :
    carriedListener r = none := by
  refine Option.eq_none_iff_forall_ne_some.2 fun v carried => ?_
  obtain ⟨listener, enabled, addr, unicast, port, ⟨-, least, -⟩, -, -, most⟩ := carriedListener_eq_some.1 carried
  have enabled := (arg_of_byte enabled).trans_le (yesNo_le v.enabled)
  have index := v.listener.isLt
  have small := port_index_lt v.port
  have port : r.arg 8 = v.port.index := (byte_eq_ofNat_iff (by omega)).1 port
  rcases outside with high | high | group | high | zero | high
  · omega
  · omega
  · rw [← addr, isUnicast_addrAt, group] at unicast
    cases unicast
  · omega
  · omega
  · omega

/-- A list with a byte that its reader refuses is refused. -/
theorem readAll_none_of_byte {β : Type} {read : Byte → Option β} {place count k : Nat}
    (carries : Carries r (place + count)) (inside : k < count) (bad : read (byteAt r.args (place + k)) = none) :
    readAll read ((r.args.drop place).take count) = none :=
  readAll_none read (List.mem_of_getElem? (counted_byte carries inside)) bad

theorem readClass_none {b : Byte} (outside : 16 ≤ b.toNat) : readClass b = none := List.getElem?_eq_none outside

theorem readCause_none {b : Byte} (outside : 6 ≤ b.toNat) : readCause b = none := by
  refine Option.eq_none_iff_forall_ne_some.2 fun c read => ?_
  have code := (readCause_iff_code b c).1 read
  have small : causeCode c < 6 := by cases c <;> decide
  omega

theorem setNotifyRanges_false (carries : Carries r (3 + r.arg 2)) (outside : 1 < r.arg 0 ∨ 4 ≤ r.arg 1 ∨
      ∃ k, k < r.arg 2 ∧ 16 ≤ r.arg (3 + k)) : setNotifyRanges r = false := by
  refine Bool.eq_false_iff.2 fun inside => ?_
  obtain ⟨head, classes⟩ := Bool.and_eq_true_iff.1 inside
  obtain ⟨enable, listener⟩ := Bool.and_eq_true_iff.1 head
  rcases outside with enabled | other | ⟨k, listed, bad⟩
  · exact absurd (of_decide_eq_true enable) (Nat.not_le.2 enabled)
  · exact absurd (of_decide_eq_true listener) (Nat.not_lt.2 other)
  · rw [namedClasses, readAll_none_of_byte carries listed (readClass_none bad)] at classes
    cases classes

end

end Sys2Proof.Machine
end

section
/-! PROOF. O39. -/

namespace Sys2Proof.Machine

theorem byteAt_drop (l : List Byte) (n k : Nat) : byteAt (l.drop n) k = l.getD (n + k) 0#8 := by
  rw [byteAt, List.getD_eq_getElem?_getD, List.getElem?_drop, List.getD_eq_getElem?_getD]

/-! ### The row of a request (log 4, log 23) -/

/-- A code outside the table of requests names none. -/
theorem command_unknown {r : Request} (unknown : r.code ∉ [0x0013, 0x0030, 0x0041, 0x0060] ++
      [0x0001, 0x0002, 0x0003, 0x0010, 0x0011, 0x0012, 0x0014, 0x0015, 0x0020, 0x0021, 0x0022, 0x0023, 0x0024,
       0x0031, 0x0040, 0x0042, 0x0043, 0x0050, 0x0051, 0x0052, 0x0053, 0x0054, 0x0061, 0x0062, 0x0070]) :
    r.command = .unknownRequest := by
  simp only [List.cons_append, List.nil_append, List.mem_cons, List.not_mem_nil, or_false, not_or] at unknown
  simp only [Request.command, unknown, if_false, ite_self]

theorem ownsGate_iff (s : State) (r : Request) :
    s.ownsGate r = true ↔ ∃ o, s.agent.owner = some o ∧ o.holder = r.source ∧ o.token = r.token := by
  cases owner : s.agent.owner with
  | none => simp [State.ownsGate, owner]
  | some o => simp [ownsGate_of_owner owner]

/-- Settles O39: the three refusals row by row (exec_malformed_of_size, exec_notOwner_of_size, exec_range_of_size),
then the decoding of a request and the ownership check. -/
theorem formOwnershipAndRangeAreChecked : Obligations.FormOwnershipAndRangeAreChecked := by
  refine ⟨fun c s r rest taken bad => ?_, fun c s r rest taken other whole size => ?_,
    fun c s r rest taken owns outside => ?_, fun r => ⟨command_unreadable, fun readable => ?_, rfl, rfl, fun k => ?_⟩,
    ownsGate_iff⟩
  · rcases bad with ⟨missing, mem⟩ | ⟨rfl | rfl | rfl | rfl | rfl | rfl | rfl | rfl | rfl, size⟩ |
      ⟨rfl | rfl | rfl | rfl, size⟩ | ⟨rfl | rfl | rfl | rfl, size⟩ | ⟨rfl | rfl | rfl, size⟩ | ⟨rfl, size⟩ |
      ⟨rfl | rfl, size⟩ | ⟨rfl, size⟩ | ⟨rfl, size⟩ | ⟨rfl, size⟩ | ⟨rfl, size⟩ | ⟨rfl, size⟩ | ⟨rfl, size⟩ |
      ⟨rfl | rfl, size⟩ | ⟨rfl | rfl, size⟩
    · obtain ⟨row, named⟩ := requestRow_of_mem c mem
      exact exec_malformed_of_size named taken (.inl missing)
    all_goals exact exec_malformed_of_size rfl taken (.inr size)
  · rcases size with ⟨rfl | rfl | rfl | rfl | rfl, size⟩ | ⟨rfl | rfl | rfl | rfl, size⟩ | ⟨rfl | rfl, size⟩ |
      ⟨rfl, size⟩ | ⟨rfl, size⟩ | ⟨rfl | rfl, size⟩ | ⟨rfl, size⟩ | ⟨rfl, size⟩ | ⟨rfl, size⟩ | ⟨rfl, size⟩ |
      ⟨rfl, size⟩ | ⟨rfl, size⟩ | ⟨rfl, size⟩ | ⟨rfl | rfl, size⟩
    all_goals exact exec_notOwner_of_size rfl taken (by decide) other whole size
  · rcases outside with ⟨rfl, carries, high⟩ | ⟨rfl | rfl, carries, high⟩ | ⟨rfl, carries, high⟩ |
      ⟨rfl, carries, past⟩ | ⟨rfl | rfl, carries, past⟩ | ⟨rfl, carries, past⟩ | ⟨rfl, carries, high⟩ |
      ⟨rfl, carries, high⟩ | ⟨rfl, carries, high⟩ | ⟨rfl, carries, past⟩ | ⟨rfl, carries, bad⟩ |
      ⟨rfl, carries, past⟩ | ⟨rfl, carries, past⟩ | ⟨rfl, carries, past⟩ | ⟨rfl, carries, past⟩ |
      ⟨rfl, carries, past⟩ | ⟨rfl, carries, past⟩ | ⟨rfl, carries, past⟩ | ⟨rfl, carries, k, inside, high⟩ |
      ⟨rfl, carries, k, inside, high⟩
    · exact exec_range_of_size rfl taken owns carries rfl (decide_eq_false (Nat.not_lt.2 high))
    · exact exec_range_of_size rfl taken owns carries rfl (releaseRanges_false high)
    · exact exec_range_of_size rfl taken owns carries rfl (releaseRanges_false high)
    · exact exec_range_of_size rfl taken owns carries rfl (decide_eq_false (Nat.not_le.2 high))
    · exact exec_range_of_size rfl taken owns carries rfl (readStreamStateRanges_false past)
    · exact exec_range_of_size rfl taken owns carries rfl (readCountersRanges_false past)
    · exact exec_range_of_size rfl taken owns carries rfl (readCountersRanges_false past)
    · exact exec_range_of_size rfl taken owns carries rfl (readSetRanges_false past)
    · exact exec_range_of_size rfl taken owns carries rfl (decide_eq_false (Nat.not_lt.2 high))
    · exact exec_range_of_size rfl taken owns carries rfl (isSome_false_of_none (readClass_none high))
    · exact exec_range_of_size rfl taken owns carries rfl (decide_eq_false (Nat.not_le.2 high))
    · exact exec_range_of_size rfl taken owns carries rfl (claimRange_false past)
    · exact exec_range_of_size rfl taken owns carries rfl (isSome_false_of_none bad)
    · exact exec_range_of_size rfl taken owns carries (by simp only [bodySize]; omega) (writeRanges_false past)
    · exact exec_range_of_size rfl taken owns carries (by simp only [bodySize]; omega) (writeRanges_false past)
    · exact exec_range_of_size rfl taken owns carries (by simp only [bodySize]; omega) (writeRanges_false past)
    · exact exec_range_of_size rfl taken owns carries (by simp only [bodySize]; omega)
        (writeTemplateRanges_false past)
    · exact exec_range_of_size rfl taken owns carries rfl (setLiveRanges_false past)
    · exact exec_range_of_size rfl taken owns carries rfl (isSome_false_of_none (carriedListener_none past))
    · exact exec_range_of_size rfl taken owns carries (by simp only [bodySize]; omega)
        (setNotifyRanges_false carries past)
    · exact exec_range_of_size rfl taken owns carries (by simp only [bodySize]; omega)
        (isSome_false_of_none (readAll_none_of_byte carries inside (readClass_none high)))
    · exact exec_range_of_size rfl taken owns carries (by simp only [bodySize]; omega)
        (isSome_false_of_none (readAll_none_of_byte carries inside (readCause_none high)))
  · have short : ¬ r.body.length < 4 := Nat.not_lt.2 readable
    intro code single
    have decoded {n : Nat} (same : code = n) : r.code = n := same
    refine ⟨fun x mem same => ?_, fun same => ?_, fun same => ?_, fun same => ?_, fun same => ?_, command_unknown⟩
    · simp only [single, List.mem_cons, List.not_mem_nil, or_false] at mem
      rcases mem with rfl | rfl | rfl | rfl | rfl | rfl | rfl | rfl | rfl | rfl | rfl | rfl | rfl | rfl | rfl | rfl |
        rfl | rfl | rfl | rfl | rfl | rfl | rfl | rfl | rfl
      all_goals
        rw [Request.command, if_neg short, decoded same]
        rfl
    all_goals
      rw [Request.command, if_neg short, decoded same]
      rfl
  · exact congrArg BitVec.toNat (byteAt_drop r.body 8 k)

end Sys2Proof.Machine
end

section
/-! SUPPORT. The values of the fields of a list of bytes, most significant byte first; what each reader of a record
accepts and what it gives back (section 12.3, R181); the frame check sequence bit by bit. -/

namespace Sys2Proof.Machine

/-! ### Fields of a list of bytes (spec/12 intro) -/

theorem byteAt_of_field {l f : List Byte} {i n k : Nat} (field : (l.drop i).take n = f) (inside : k < n) :
    byteAt l (i + k) = byteAt f k := by
  subst field
  simp [byteAt, List.getD_eq_getElem?_getD, inside]

/-- The value of a field is that of its bytes alone. -/
theorem natAt_of_field {l f : List Byte} {i n : Nat} (field : (l.drop i).take n = f) :
    natAt l i n = natAt f 0 n := by
  have upTo (m : Nat) (le : m ≤ n) : natAt l i m = natAt f 0 m := by
    induction m with
    | zero => rfl
    | succ m ih =>
      rw [natAt, natAt, ih (Nat.le_of_succ_le le), byteAt_of_field field (Nat.lt_of_succ_le le), Nat.zero_add]
  exact upTo n le_rfl

theorem natAt_be16 (v : BitVec 16) : natAt (be16 v) 0 2 = v.toNat := by
  have lt := v.isLt
  simp only [natAt, byteAt, be16, List.getD_cons_zero, List.getD_cons_succ, Nat.zero_add, BitVec.extractLsb'_toNat,
    Nat.shiftRight_eq_div_pow]
  omega

theorem natAt_be24 (v : BitVec 24) : natAt (be24 v) 0 3 = v.toNat := by
  have lt := v.isLt
  simp only [natAt, byteAt, be24, List.getD_cons_zero, List.getD_cons_succ, Nat.zero_add, BitVec.extractLsb'_toNat,
    Nat.shiftRight_eq_div_pow]
  omega

theorem natAt_be32 (v : BitVec 32) : natAt (be32 v) 0 4 = v.toNat := by
  have lt := v.isLt
  simp only [natAt, byteAt, be32, List.getD_cons_zero, List.getD_cons_succ, Nat.zero_add, BitVec.extractLsb'_toNat,
    Nat.shiftRight_eq_div_pow]
  omega

section
variable {l : List Byte} {i n : Nat}

theorem natAt_sent8 (field : byteAt l i = BitVec.ofNat 8 n) (fits : n < 2 ^ 8) : natAt l i 1 = n := by
  rw [natAt_one, field, BitVec.toNat_ofNat, Nat.mod_eq_of_lt fits]

theorem natAt_sent16 (field : (l.drop i).take 2 = be16 (BitVec.ofNat 16 n)) (fits : n < 2 ^ 16) :
    natAt l i 2 = n := by
  rw [natAt_of_field field, natAt_be16, BitVec.toNat_ofNat, Nat.mod_eq_of_lt fits]

theorem natAt_sent24 (field : (l.drop i).take 3 = be24 (BitVec.ofNat 24 n)) (fits : n < 2 ^ 24) :
    natAt l i 3 = n := by
  rw [natAt_of_field field, natAt_be24, BitVec.toNat_ofNat, Nat.mod_eq_of_lt fits]

theorem natAt_sent32 (field : (l.drop i).take 4 = be32 (BitVec.ofNat 32 n)) (fits : n < 2 ^ 32) :
    natAt l i 4 = n := by
  rw [natAt_of_field field, natAt_be32, BitVec.toNat_ofNat, Nat.mod_eq_of_lt fits]

end

/-! ### Bits and masks of a byte -/

theorem yesNo_getLsbD (b : Bool) (k : Nat) : (yesNo b).getLsbD k = (decide (k = 0) && b) := by
  cases b <;> simp [yesNo]

theorem yesNo_shiftLeft (b : Bool) (k : Nat) : yesNo b <<< k = if b then 1#8 <<< k else 0#8 := by
  cases b <;> simp [yesNo]

theorem highNibble_eq_zero_iff (b : Byte) : b &&& 0xF0#8 = 0#8 ↔ b.toNat < 16 := by
  revert b; decide +kernel

/-- Bit c of a cause mask is cause c (Table 12-4). -/
theorem causeMask_getLsbD (x : CauseSet) (k : Nat) : (causeMask x).getLsbD k =
    [x.line, x.command, x.stream, x.mark, x.startup, x.restart].getD k false := by
  simp only [causeMask, BitVec.getLsbD_or, BitVec.getLsbD_shiftLeft, yesNo_getLsbD]
  match k with
  | 0 | 1 | 2 | 3 | 4 | 5 => simp
  | k + 6 => simp

/-! ### Which records are accepted (R181) -/

theorem pure_isSome {α : Type} (x : α) : (pure x : Option α).isSome = true ↔ True := iff_true_intro rfl

theorem ite_some_isSome {α : Type} (P : Prop) [Decidable P] (x : α) :
    (if P then some x else none).isSome = true ↔ P := by
  split <;> simp_all

section
variable (a : List Byte)

theorem readSettings_isSome : (readSettings a).isSome = true ↔
    2500 ≤ natAt a 0 4 ∧ natAt a 0 4 ≤ 1048575 ∧ natAt a 4 1 ≤ 1 ∧ natAt a 5 1 ≤ 3 ∧ natAt a 6 1 ≤ 64 ∧
      1 ≤ natAt a 7 1 ∧ natAt a 7 1 ≤ 15 ∧ ∀ k, 8 ≤ k → k ≤ 13 → natAt a k 1 ≤ 15 := by
  have masks : (∀ k, 8 ≤ k → k ≤ 13 → natAt a k 1 ≤ 15) ↔ natAt a 8 1 ≤ 15 ∧ natAt a 9 1 ≤ 15 ∧
      natAt a 10 1 ≤ 15 ∧ natAt a 11 1 ≤ 15 ∧ natAt a 12 1 ≤ 15 ∧ natAt a 13 1 ≤ 15 := by
    refine ⟨fun each => by simp only [each, Nat.reduceLeDiff, and_self], fun ⟨_, _, _, _, _, _⟩ k _ _ => ?_⟩
    interval_cases k <;> assumption
  rw [masks]
  simp only [readSettings, bind_isSome, exists_and_right, ← Option.isSome_iff_exists, pure_isSome, and_true,
    readRange_isSome, readFollow_isSome, readPort_isSome, readMask_isSome, natAt_one, Nat.zero_le, true_and,
    and_assoc]

theorem readWindow_isSome : (readWindow a).isSome = true ↔
    byteAt a 0 &&& 0x3C#8 = 0#8 ∧ natAt a 1 3 ≤ 1048575 ∧ natAt a 4 3 ≤ 1048575 := by
  have offsets (clear : byteAt a 0 &&& 0x3C#8 = 0#8) : (readWindow a).isSome = true ↔
      natAt a 1 3 ≤ 1048575 ∧ natAt a 4 3 ≤ 1048575 := by
    simp only [readWindow, if_pos clear, Option.bind_eq_bind, Option.bind_some]
    simp only [← Option.bind_eq_bind, bind_isSome, exists_and_right, ← Option.isSome_iff_exists, pure_isSome, and_true,
      readRange_isSome, Nat.zero_le, true_and]
  by_cases clear : byteAt a 0 &&& 0x3C#8 = 0#8
  · exact (offsets clear).trans (and_iff_right clear).symm
  · rw [readWindow, if_neg clear]
    exact iff_of_false nofun fun both => clear both.1

theorem readStream_isSome : (readStream a).isSome = true ↔
    natAt a 0 1 ≤ 1 ∧ natAt a 3 1 ≤ 63 ∧ 1 ≤ natAt a 4 1 ∧ natAt a 4 1 ≤ 4 ∧ natAt a 5 2 ≤ 1023 ∧
      2 ≤ natAt a 7 1 ∧ natAt a 7 1 ≤ 16 ∧ natAt a 8 1 ≤ 15 ∧ natAt a 9 1 ≤ 1 ∧ natAt a 10 1 ≤ 2 ∧
      natAt a 11 1 ≤ 1 ∧ natAt a 13 1 ≤ 1 ∧ (natAt a 14 1 ≤ 31 ∨ natAt a 14 1 = 255) := by
  have below (n m : Nat) : n < m + 1 ↔ n ≤ m := Nat.lt_succ_iff
  simp only [readStream, bind_isSome, exists_and_right, ← Option.isSome_iff_exists, pure_isSome, and_true,
    readRange_isSome, readIndex_isSome, readYesNo_isSome, readRepeat_isSome, readStray_isSome, readStall_isSome,
    readTemplateIx_isSome, natAt_one, Nat.zero_le, true_and, and_assoc, below _ 63, below _ 1023]

theorem readStep_isSome : (readStep a).isSome = true ↔
    byteAt a 0 &&& 0xF0#8 = 0#8 ∧ byteAt a 1 &&& 0x70#8 = 0#8 := by
  rw [readStep, ite_some_isSome, highNibble_eq_zero_iff]

end

/-! ### Records read back as sent (section 12.3) -/

theorem readRange_sent {lo hi n m : Nat} (sent : n = m) (low : lo ≤ m) (high : m ≤ hi) :
    readRange lo hi n = some m :=
  (readRange_eq_some lo hi n m).2 ⟨sent.symm, sent ▸ low, sent ▸ high⟩

theorem readIndex_sent {n i : Nat} {x : Fin n} (sent : i = x.val) : readIndex n i = some x := by
  subst sent
  exact dif_pos x.isLt

theorem readTemplateIx_sent (t : Option TemplateIx) :
    readTemplateIx (match t with | none => 0xFF#8 | some k => BitVec.ofNat 8 k.val) = some t := by
  revert t; decide +kernel

theorem readSettings_settingsBytes {x : Settings} (short : 2500 ≤ x.period) (long : x.period ≤ 1048575)
    (tolerance : x.tolerance ≤ 64) (least : 1 ≤ x.faultLimit) (most : x.faultLimit ≤ 15) :
    readSettings (settingsBytes x) = some x := by
  have period := readRange_sent (natAt_sent32 (l := settingsBytes x) (i := 0) rfl (by omega)) short long
  have follow : readFollow (byteAt (settingsBytes x) 4) = some x.follow := by
    unfold settingsBytes
    cases x.follow <;> rfl
  have markPort := (readPort_eq_some (byteAt (settingsBytes x) 5) x.markPort).2 rfl
  have tolerance := readRange_sent (natAt_sent8 (l := settingsBytes x) (i := 6) rfl (by omega)) x.tolerance.zero_le
    tolerance
  have faultLimit := readRange_sent (natAt_sent8 (l := settingsBytes x) (i := 7) rfl (by omega)) least most
  have markForward := (readMask_eq_some (byteAt (settingsBytes x) 8) x.markForward).2 rfl
  have quenchEgress := (readMask_eq_some (byteAt (settingsBytes x) 9) x.quenchEgress).2 rfl
  have b0 := (readMask_eq_some (byteAt (settingsBytes x) 10) x.background.p0).2 rfl
  have b1 := (readMask_eq_some (byteAt (settingsBytes x) 11) x.background.p1).2 rfl
  have b2 := (readMask_eq_some (byteAt (settingsBytes x) 12) x.background.p2).2 rfl
  have b3 := (readMask_eq_some (byteAt (settingsBytes x) 13) x.background.p3).2 rfl
  rw [readSettings, period, follow, markPort, tolerance, faultLimit, markForward, quenchEgress, b0, b1, b2, b3]
  rfl

/-- The flags of a window record stand in bits 7 and 6 of its first byte, its port in bits 1 and 0 (Table 12-6). -/
theorem windowFlags_read (v g : Bool) (p : Port) :
    let b := (yesNo v <<< (7 : Nat)) ||| (yesNo g <<< (6 : Nat)) ||| BitVec.ofNat 8 p.index
    b &&& 0x3C#8 = 0#8 ∧ b.getLsbD 7 = v ∧ b.getLsbD 6 = g ∧ Port.numbered (b &&& 0x03#8).toNat = p := by
  cases v <;> cases g <;> cases p <;> decide

theorem readWindow_windowBytes {x : WindowRec} (opens : x.openOff ≤ 1048575) (closes : x.closeOff ≤ 1048575) :
    readWindow (windowBytes x) = some x := by
  obtain ⟨clear, valid, guards, port⟩ := windowFlags_read x.valid (decide (x.kind = .guard)) x.port
  have openOff := readRange_sent (natAt_sent24 (l := windowBytes x) (i := 1) rfl (by omega)) x.openOff.zero_le opens
  have closeOff := readRange_sent (natAt_sent24 (l := windowBytes x) (i := 4) rfl (by omega)) x.closeOff.zero_le closes
  have kind : (if decide (x.kind = .guard) then WindowKind.guard else .admitting) = x.kind := by
    cases x.kind <;> rfl
  have flags : byteAt (windowBytes x) 0 = (yesNo x.valid <<< (7 : Nat)) |||
    (yesNo (decide (x.kind = .guard)) <<< (6 : Nat)) ||| BitVec.ofNat 8 x.port.index := rfl
  simp only [readWindow, openOff, closeOff, flags, clear, valid, guards, port, kind]
  rfl

theorem readStream_streamBytes {x : StreamRec} (one : 1 ≤ x.framesPerCycle) (four : x.framesPerCycle ≤ 4)
    (two : 2 ≤ x.ringLength) (sixteen : x.ringLength ≤ 16) (entry : x.entryStep ≤ 15) (limit : x.absenceLimit ≤ 255) :
    readStream (streamBytes x) = some x := by
  have enabled := (readYesNo_eq_some (byteAt (streamBytes x) 0) x.enabled).2 rfl
  have tag : halfAt (streamBytes x) 1 = x.tag := halfAt_of_bytes rfl rfl
  have window := readIndex_sent (natAt_sent8 (l := streamBytes x) (i := 3) rfl (by omega))
  have framesPerCycle := readRange_sent (natAt_sent8 (l := streamBytes x) (i := 4) rfl (by omega)) one four
  have ringBase := readIndex_sent (natAt_sent16 (l := streamBytes x) (i := 5) rfl (by omega))
  have ringLength := readRange_sent (natAt_sent8 (l := streamBytes x) (i := 7) rfl (by omega)) two sixteen
  have entryStep := readRange_sent (natAt_sent8 (l := streamBytes x) (i := 8) rfl (by omega)) x.entryStep.zero_le entry
  have repeatPolicy : readRepeat (byteAt (streamBytes x) 9) = some x.repeatPolicy := by
    unfold streamBytes
    cases x.repeatPolicy <;> rfl
  have strayPolicy : readStray (byteAt (streamBytes x) 10) = some x.strayPolicy := by
    unfold streamBytes
    cases x.strayPolicy <;> rfl
  have fill := (readYesNo_eq_some (byteAt (streamBytes x) 11) x.fill).2 rfl
  have absenceLimit : natAt (streamBytes x) 12 1 = x.absenceLimit := natAt_sent8 rfl (by omega)
  have stallPolicy : readStall (byteAt (streamBytes x) 13) = some x.stallPolicy := by
    unfold streamBytes
    cases x.stallPolicy <;> rfl
  have template : readTemplateIx (byteAt (streamBytes x) 14) = some x.template := readTemplateIx_sent x.template
  rw [readStream, enabled, window, framesPerCycle, ringBase, ringLength, entryStep, repeatPolicy, strayPolicy, fill,
    stallPolicy, template, tag, absenceLimit]
  rfl

/-- The notification flag of a step record stands in bit 7 of its second byte, its egress set in bits 3 to 0
(Table 12-6). -/
theorem stepFlags_read (notify : Bool) (egress : PortSet) :
    let b := (yesNo notify <<< (7 : Nat)) ||| maskByte egress
    b &&& 0x70#8 = 0#8 ∧ b.setWidth 4 = egress ∧ b.getLsbD 7 = notify := by
  revert notify egress; decide +kernel

theorem readStep_stepBytes (x : StepRec) : readStep (stepBytes x) = some x := by
  obtain ⟨clear, egress, notify⟩ := stepFlags_read x.notify x.egress
  have phase : (x.phase.setWidth 8).setWidth 4 = x.phase := BitVec.setWidth_setWidth_of_le _ (by decide)
  have phaseByte : byteAt (stepBytes x) 0 = x.phase.setWidth 8 := rfl
  have flags : byteAt (stepBytes x) 1 = (yesNo x.notify <<< (7 : Nat)) ||| maskByte x.egress := rfl
  have low : (x.phase.setWidth 8).toNat < 16 := by
    rw [BitVec.toNat_setWidth]
    omega
  rw [readStep, phaseByte, flags, if_pos ⟨low, clear⟩, phase, egress, notify]

/-! ### Records byte by byte (section 12.3) -/

theorem windowBytes_eq (x : WindowRec) : windowBytes x =
    ((if x.valid then 0x80#8 else 0#8) ||| (match x.kind with | .admitting => 0#8 | .guard => 0x40#8) |||
      BitVec.ofNat 8 x.port.index) :: be24 (BitVec.ofNat 24 x.openOff) ++ be24 (BitVec.ofNat 24 x.closeOff) := by
  unfold windowBytes
  rw [yesNo_shiftLeft, yesNo_shiftLeft]
  cases x.kind <;> rfl

theorem stepBytes_eq (x : StepRec) : stepBytes x =
    [x.phase.setWidth 8, (if x.notify then 0x80#8 else 0#8) ||| x.egress.setWidth 8] := by
  rw [stepBytes, yesNo_shiftLeft]
  rfl

theorem streamRunBytes_eq (k : Nat) (x : StreamRun) (dirty : Bool) : streamRunBytes k x dirty =
    [BitVec.ofNat 8 k, streamStateByte x.state, BitVec.ofNat 8 x.position, BitVec.ofNat 8 x.admittedCount,
      BitVec.ofNat 8 x.absenceRun, holdCauseByte x.holdCause, if dirty then 1#8 else 0#8,
      (if x.lastAdvance.isSome then 1#8 else 0#8) ||| (if x.spacing.isSome then 2#8 else 0#8)] ++
    be32 (x.lastAdvance.getD 0#32) ++ be32 (x.spacing.getD 0#32) := by
  rw [streamRunBytes, yesNo_shiftLeft]
  rfl

/-! ### The frame check sequence bit by bit (spec/00, log 25) -/

theorem fcsBit_eq (reg : BitVec 32) (b : Bool) :
    fcsBit reg b = (reg <<< (1 : Nat)) ^^^ (if reg.getLsbD 31 != b then 0x04C11DB7#32 else 0#32) := by
  rw [fcsBit]
  split
  · rfl
  · exact (BitVec.xor_zero).symm

/-- Bit k of byte j of the FCS is the complement of the coefficient of the power 31 − (8j + k). -/
theorem fcs_getLsbD (l : List Byte) {j k : Nat} (byte : j < 4) (bit : k < 8) :
    ((fcs l).getD j 0#8).getLsbD k = !(fcsRegister l).getLsbD (31 - (8 * j + k)) := by
  have sent : (fcs l).getD j 0#8 = fcsSentByte (~~~ fcsRegister l) (31 - 8 * j) := by
    match j, byte with
    | 0, _ | 1, _ | 2, _ | 3, _ => rfl
  rw [sent, fcsSentByte_bit _ _ _ bit, Nat.sub_sub, BitVec.getLsbD_not, decide_eq_true (by omega), Bool.true_and]

end Sys2Proof.Machine
end

section
/-! PROOF. O55. -/

namespace Sys2Proof.Machine

/-- Settles O55: each record is read back field by field, its readers accept exactly the ranges of its fields, and the
FCS is read off the register bit by bit. -/
theorem recordsReadBackAsSent : Obligations.RecordsReadBackAsSent := by
  unfold Obligations.RecordsReadBackAsSent
  refine ⟨fun _ => readSettings_settingsBytes, fun _ => readWindow_windowBytes, fun _ => readStream_streamBytes,
    readStep_stepBytes, fun _ => rfl, windowBytes_eq, fun _ => rfl, stepBytes_eq, fun _ _ => ⟨rfl, rfl⟩, ?run,
    ?streamCounters, ?portCounters, fun _ => rfl, readSettings_isSome, readWindow_isSome, readStream_isSome,
    readStep_isSome, fun _ _ _ => ⟨rfl, rfl, rfl⟩, fun l => ⟨rfl, fcsMatches_withFcs l, rfl, ?fcs⟩,
    rfl, rfl, rfl, rfl, rfl, rfl, rfl, rfl, rfl, rfl, rfl, rfl, rfl, ?mask⟩
  case run =>
    intro k x dirty
    rw [streamRunBytes_eq]
    cases x.lastAdvance <;> cases x.spacing <;> rfl
  case streamCounters =>
    intro c
    simp only [streamCounterBytes, List.flatMap_cons, List.flatMap_nil, List.append_nil, List.append_assoc]
  case portCounters =>
    intro c
    simp only [portCounterBytes, List.flatMap_cons, List.flatMap_nil, List.append_nil, List.append_assoc]
  case fcs =>
    intro j k byte bit
    rw [fcs_getLsbD l byte bit]
    simp only [← fcsBit_eq]
    rfl
  case mask =>
    intro x k
    rw [causeMask_getLsbD]
    match k with
    | 0 | 1 | 2 | 3 | 4 | 5 | _ + 6 => rfl

end Sys2Proof.Machine
end

section
/-! SUPPORT. The footprint of every command: what a request's effect touches, and what an occurrence touches. -/

namespace Sys2Proof.Machine

/-! ### The requests -/

/-- TIMER-STOP touches what the stop touches. -/
theorem timerStopEffect_within (r : Request) (s : State) : Within .stopping s (timerStopEffect r s).after := by
  unfold timerStopEffect
  split
  · exact .refl _ s
  · exact stopTimer_within s
  · exact stopTimer_within s

theorem startNow_within (s : State) : Within .cycling s s.startNow :=
  (prepareStart_within s .running).comp (handCycleStart_within _ true) rfl rfl

/-- A command of the request table may touch whatever an answer touches. -/
theorem answer_le_footprint {c : Instr} {row : RequestRow} (named : requestRow c = some row) :
    Footprint.answer.le (footprint c) = true := by
  cases c <;> cases named <;> rfl

/-- The effect of a request lies within the footprint of its command. -/
theorem requestRow_effect_within {c : Instr} {row : RequestRow} (named : requestRow c = some row) (r : Request)
    (s : State) : Within (footprint c) s (row.effect r s).after := by
  cases c <;> cases named
  case discover => exact .refl _ s
  case claim => exact (claimEffect_within r s).mono rfl
  case yieldOwnership => exact (yieldEffect_within r s).mono rfl
  case readStatus => exact .refl _ s
  case readSet => exact (readSetEffect_within r s).mono rfl
  case readStreamState => exact .refl _ s
  case readCounters => exact .refl _ s
  case readCountersClear => exact (zeroCounters_within s r).mono rfl
  case readFlags => exact .refl _ s
  case readFault => exact .refl _ s
  case writeSettings => exact (stagedWrite_within (writeSettings_within s r)).mono rfl
  case writeWindows => exact (stagedWrite_within (writeWindows_within s r)).mono rfl
  case writeStreams => exact (stagedWrite_within (writeStreams_within s r)).mono rfl
  case writeSteps => exact (stagedWrite_within (writeSteps_within s r)).mono rfl
  case writeTemplate => exact (stagedWrite_within (writeTemplate_within s r)).mono rfl
  case commitNext => exact (commitEffect_within s .nextStart).mono rfl
  case commitAt => exact (commitEffect_within s (.atCycle (wordAt r.args 1))).mono rfl
  case withdraw => exact (withdrawEffect_within r s).mono rfl
  case holdStream => exact (holdEffect_within r s).mono rfl
  case releaseStreamResume => exact (resumeEffect_within r s).mono rfl
  case releaseStreamRearm => exact (rearmEffect_within r s).mono rfl
  case quench => exact (addCause_within s .command).mono rfl
  case clearQuench => exact (clearQuenchEffect_within r s).mono rfl
  case setLive => exact (setLiveEffect_within r s).mono rfl
  case setListener => exact (setListenerEffect_within r s).mono rfl
  case setNotify => exact (setNotifyEffect_within r s).mono rfl
  case clearFlags => exact (clearFlagsEffect_within r s).mono rfl
  case raiseFlag => exact (raiseFlagEffect_within r s).mono rfl
  case timerStartImmediate => exact (timerStart_within (startNow_within s)).mono rfl
  case timerStartOnMark => exact (timerStart_within (prepareStart_within s .armed)).mono rfl
  case timerStop => exact (timerStopEffect_within r s).mono rfl
  case restart => exact (setAgent_within s _).mono rfl
  case ackNotify => exact (ackNotifyEffect_within r s).mono rfl

/-! ### The reset, links and frames -/

theorem coldReset_within (s : State) (strap : BitVec 4) (links : PerPort LinkState) (level : LineLevel) :
    Within { Footprint.wide with strap := true, draws := false } s (s.coldReset strap links level) where
  base := rfl
  pending := rfl
  strap := nofun
  ports := nofun
  egress := nofun
  frames := nofun
  timer := nofun
  streams := nofun
  staging := nofun
  banks := nofun
  quench := nofun
  events := nofun
  agent := nofun
  draws _ := rfl

/-- What follows when a frame has left reception: the intervals that it held close, a pending advance ends, a
restart that waited takes place, and frames nothing refers to are released. -/
theorem settled_within (before after : State) (p : Port) (r : Option Reception) :
    Within .wide after
      ((State.noteAdvanceEnd before (before.endHolds after p r)).settleRestart).releaseFrames :=
  (((endHolds_within before after p r).comp (noteAdvanceEnd_within before _) (k := .wide) rfl rfl).trans
    ((settleRestart_within _).mono rfl)).trans ((releaseFrames_within _).mono rfl)

theorem frameArrives_within (s : State) (p : Port) (r : Reception) : Within .wide s (s.frameArrives p r) :=
  ((updatePort_within s p _).comp (receiveFrame_within _ p r.start r.frame) rfl rfl).trans
    (settled_within s _ p (some r))

theorem linkDown_within (s : State) (p : Port) : Within .wide s (s.linkDown p) := by
  have aborted : Within { ports := true } s ((s.setLink p .down).abortReception p) :=
    (updatePort_within s p _).trans (abortReception_within _ p)
  have flushed := aborted.comp (flushDown_within _ p) (k := .wide) rfl rfl
  exact (flushed.trans ((raise_within _ _).mono rfl)).trans (settled_within s _ p _)

theorem execLinkDown_within (p : Port) (s : State) :
    ∃ t, execLinkDown p s = .next t ∧ Within .wide s t := by
  refine ⟨_, rfl, ?_⟩
  split
  · exact linkDown_within s p
  · exact .refl _ s

theorem execStartOfFrame_within (p : Port) (f : List Byte) (s : State) :
    ∃ t, execStartOfFrame p f s = .next t ∧ Within .wide s t := by
  refine ⟨_, rfl, ?_⟩
  split
  · exact (updatePort_within s p _).mono rfl
  · next r _ _ =>
    exact .ite ((frameArrives_within s p r).trans ((updatePort_within _ p _).mono rfl))
  · exact .refl _ s

theorem execFrameArrival_within (p : Port) (s : State) :
    ∃ t, execFrameArrival p s = .next t ∧ Within .wide s t := by
  refine ⟨_, rfl, ?_⟩
  split
  · exact .ite (frameArrives_within s p _)
  · exact .refl _ s

theorem execTransmitComplete_within (p : Port) (s : State) :
    ∃ t, execTransmitComplete p s = .next t ∧ Within .wide s t := by
  refine ⟨_, rfl, ?_⟩
  split
  · next x _ => exact .ite ((completeTransmission_within s p x).mono rfl)
  all_goals exact .refl _ s

/-! ### The occurrences -/

/-- A command outside the request table answers a next state within its footprint: it takes place, or it
changes nothing (log 2). -/
theorem exec_occurrence_within {c : Instr} (occurs : requestRow c = none) (s : State) :
    ∃ t, exec c s = .next t ∧ Within (footprint c) s t := by
  cases c with
  | coldReset strap links level => exact ⟨_, rfl, coldReset_within s strap links level⟩
  | quenchLineAsserted => exact ⟨_, rfl, pinAt_within s .asserted⟩
  | quenchLineDeasserted => exact ⟨_, rfl, pinAt_within s .deasserted⟩
  | linkUp p => exact execLinkUp_within p s
  | linkDown p => exact execLinkDown_within p s
  | startOfFrame p f => exact execStartOfFrame_within p f s
  | frameArrival p => exact execFrameArrival_within p s
  | cycleStart =>
    exact ⟨_, rfl, .ite ((periodMatch_within s).comp (settleRestart_within _) rfl rfl)⟩
  | windowClose w => exact execWindowClose_within w s
  | guardOpen p => exact ⟨_, rfl, .ite ((cutOff_within s p).comp (settleRestart_within _) rfl rfl)⟩
  | guardClose w => exact execGuardClose_within w s
  | attributionIntervalClose => exact ⟨_, rfl, (closeIntervalIfOver_within s).mono rfl⟩
  | pendingAdvanceEnd => exact ⟨_, rfl, .ite (endAdvance_within s)⟩
  | transmitStart p => exact ⟨_, rfl, .ite ((select_within s p).comp (releaseFrames_within _) rfl rfl)⟩
  | transmitComplete p => exact execTransmitComplete_within p s
  | notificationOffer p => exact ⟨_, rfl, offerNotifications_within s p⟩
  | retryTimerExpiry l q => exact execRetryTimerExpiry_within l q s
  | leaseExpiry => exact execLeaseExpiry_within s
  | restageCompletion => exact ⟨_, rfl, .ite (completeRestage_within s)⟩
  | restartWaitExpiry => exact ⟨_, rfl, .ite ((warmRestart_within s).mono rfl)⟩
  | unknownRequest =>
    exact ⟨_, rfl, agentExecutes_within s _ _ rfl fun r t => conclude_within t r _ _ _⟩
  | _ => exact nomatch occurs

end Sys2Proof.Machine
end

section
/-! PROOF. O1 and O4: the command at the front of the queue, and the frame of every command. -/

namespace Sys2Proof.Machine

theorem step_pending {s : State} {c : Instr} {rest : List Instr} (front : s.pending = c :: rest) :
    step s = exec c (s.setPending rest) := by
  rw [step, front]

/-- Settles O1: the queue's rest replaces the queue before the command runs. -/
theorem frontCommandRunsOnQueueRest : Obligations.FrontCommandRunsOnQueueRest := fun s c rest =>
  step_pending (setPending_pending s (c :: rest))

/-- Settles O4: a request touches what its answer and its effect touch, and an occurrence what it hands on. -/
theorem commandsKeepTheirFootprint : Obligations.CommandsKeepTheirFootprint := by
  intro c s
  cases named : requestRow c with
  | some row =>
    exact ⟨row.execute s, exec_requestRow named s,
      execute_within row s (answer_le_footprint named) (requestRow_effect_within named)⟩
  | none => exact exec_occurrence_within named s

end Sys2Proof.Machine
end
